-- ==== Sys2Proof/Word.lean ====
section
/-! DEFINITION. The word types of the machine (00_scope.md R8, R10, R11). -/

namespace Sys2Proof

/-- A 64-bit register, program counter or virtual address (00_scope.md R8). -/
abbrev Word := BitVec 64

/-- A 32-bit instruction word (30_encoding.md R300). -/
abbrev IWord := BitVec 32

/-- The smallest addressable unit of memory (20_memory.md R150). -/
abbrev Byte := BitVec 8

/-- A register number as an instruction word holds it: R0..R31 or F0..F31 (00_scope.md R11). -/
abbrev Reg := BitVec 5

end Sys2Proof
end

