-- ==== Sys2Proof/Config.lean ====
section
/-! DEFINITION. What an implementation fixes (the launch parameters of 00_scope.md R7, as plain data that State carries
unchanged) and the free values (the draws of 93_implementation_defined.md 2.2, as opaque constants with no body). -/

namespace Sys2Proof

/-- The processor models of `CPU_MODEL` (00_scope.md R2). -/
inductive CpuModel where
  | ev4 | ev5 | ev56 | ev6 | ev67 | ev68 | ev7 | ev78 | pca56
  deriving DecidableEq, Repr

/-- The gated extensions (00_scope.md R3); `fix` is the one the source calls SQRT. -/
inductive Ext where
  | bwx | fix | cix | mvi
  deriving DecidableEq, Repr

/-- `PAL_ENTRY_SCHEME` (44_misc_pal.md R723). -/
inductive PalScheme where
  | linear | openEv6
  deriving DecidableEq, Repr

/-- `CACHE[i].policy` (00_scope.md R7). -/
inductive CachePolicy where
  | lru | random
  deriving DecidableEq, Repr

/-- An action of the scheduler for a CPU (70_reset_and_hazards.md R930): its boundary step, the drain of one store-buffer
entry, or the consumption of its TLB inbox. -/
inductive Choice where
  | boundary
  | drain (entry : Nat)
  | consume
  deriving DecidableEq, Repr, Inhabited

/-- `CACHE[i].sets, ways, policy` (00_scope.md R7). -/
structure CacheGeom where
  sets : Nat
  ways : Nat
  policy : CachePolicy
  deriving DecidableEq, Repr

/-- The launch parameters of 00_scope.md R7. `N_CPU` is not among them: it is the number of CPUs State holds.
`LINE_SIZE` is `2 ^ lineLog2`, so that it is a power of two by form; `PAGE_SIZES` is a set of sizes in bytes, given as a list
whose order and repetitions mean nothing. `backendErrs` says whether the memory back-end can report an error at all
(60_exceptions.md R842: "a back-end that never errs never produces it"; log 18). `VECTOR_IPL` is the table `vectorIpls`, whose
first entry of a vector counts, with `otherIpl` for the vectors it does not list (R836, `Params.vectorIpl`; log 30). -/
structure Params where
  cpuModel : CpuModel
  clusterSize : Nat
  lineLog2 : Nat
  icacheGeom : CacheGeom
  l1dGeom : CacheGeom
  l2Geom : CacheGeom
  l3Geom : CacheGeom
  itbEntries : Nat
  dtbEntries : Nat
  tlbWays : Nat
  pageSizes : List Nat
  strictAlignment : Bool
  scAttemptsMax : Nat
  mmioStrict : Bool
  ramTop : Nat
  romBase : Nat
  romTop : Nat
  palBaseReset : Word
  palScheme : PalScheme
  vectorIpls : List (BitVec 16 × BitVec 5)
  otherIpl : BitVec 5
  ipiIpl : BitVec 5
  ipiVector : BitVec 16
  defaultNan : Word
  icacheCoherent : Bool
  backendErrs : Bool
  deriving DecidableEq, Repr

/-- The parameter values `State.reset` takes: the default of 00_scope.md R7 where the spec gives one; DESIGN CHOICE
elsewhere, mostly the values of 95_test_vectors.md section 0 (log 4). -/
def Params.default : Params where
  cpuModel := .ev67
  clusterSize := 1
  lineLog2 := 6
  icacheGeom := ⟨64, 2, .lru⟩
  l1dGeom := ⟨64, 2, .lru⟩
  l2Geom := ⟨256, 4, .lru⟩
  l3Geom := ⟨1024, 8, .lru⟩
  itbEntries := 64
  dtbEntries := 64
  tlbWays := 4
  pageSizes := [0x2000, 0x10000, 0x80000, 0x400000]
  strictAlignment := false
  scAttemptsMax := 0
  mmioStrict := false
  ramTop := 0x10000000
  romBase := 0x30000000
  romTop := 0x30100000
  palBaseReset := 0
  palScheme := .linear
  vectorIpls := []
  otherIpl := 20
  ipiIpl := 22
  ipiVector := 0x10
  defaultNan := 0xFFF8000000000000
  icacheCoherent := true
  backendErrs := false

/-- `PAGE_SIZES` is a subset of {8K, 64K, 512K, 4M} that contains 8K (00_scope.md R7): no unsupported page size (R9). -/
def Params.pageSizesOk (p : Params) : Bool :=
  p.pageSizes.contains 0x2000 && p.pageSizes.all fun b => [0x2000, 0x10000, 0x80000, 0x400000].contains b

/-- `VECTOR_IPL` has values in 1..31 only: a vector of IPL 0 cannot exist (60_exceptions.md R836). DESIGN CHOICE: an
entry that an earlier one of the same vector hides is tested too (log 30). -/
def Params.vectorIplsOk (p : Params) : Bool := decide (0 < p.otherIpl) && p.vectorIpls.all fun e => decide (0 < e.2)

/-- A consistent parameter set, by the ranges of 00_scope.md R7; an inconsistent one is a host error at initialization
(00_scope.md R9, `launch`). `nCpu` is the number of CPUs. DESIGN CHOICE: R7 gives ITB_ENTRIES, DTB_ENTRIES and TLB_WAYS each
the range ≥ 1 and no relation between them; a TLB with fewer entries than ways is inconsistent here, and a TLB has
ENTRIES / TLB_WAYS sets, rounded down (log 41). DESIGN CHOICE: R7 gives IPI_IPL a default and no range; an IPI_IPL of 0 is
inconsistent here, as a vector of IPL 0 cannot exist (60_exceptions.md R836); R7 calls DEFAULT_NAN a quiet NaN, and the value
is not tested (log 41). DESIGN CHOICE: R7 gives ROM_BASE and ROM_TOP the range [0, 2^48) and no order; a ROM_BASE above ROM_TOP
is inconsistent here, and the two may be equal, which is a machine without ROM; as the end of the range ROM_TOP may be 2^48
(log 41). -/
def Params.wf (p : Params) (nCpu : Nat) : Bool :=
  decide (0 < nCpu) && decide (0 < p.clusterSize) && decide (nCpu % p.clusterSize = 0)
    && [p.icacheGeom, p.l1dGeom, p.l2Geom, p.l3Geom].all (fun g => decide (0 < g.sets) && decide (0 < g.ways))
    && Params.pageSizesOk p
    && decide (0 < p.tlbWays) && decide (0 < p.itbEntries / p.tlbWays) && decide (0 < p.dtbEntries / p.tlbWays)
    && decide (p.ramTop ≤ 2 ^ 48) && decide (p.romBase ≤ p.romTop) && decide (p.romTop ≤ 2 ^ 48)
    && decide (p.palBaseReset.extractLsb' 0 15 = 0) && Params.vectorIplsOk p
    && decide (0 < p.ipiIpl)

namespace Config

/-- `draw(cc_reset)`: the cycle counter after reset (10_state.md R64, 70_reset_and_hazards.md R900; log 3). -/
opaque ccReset : BitVec 64

/-- `draw(cc_delta)`: the increment of CC at a boundary, any natural number (10_state.md R64; log 3). -/
opaque ccDelta : Nat → Nat

/-- `draw(fp_trap_result)`: the destination of a floating instruction that traps (43_float.md R607; log 10). -/
opaque fpTrapResult : Nat → BitVec 64

/-- `draw(nan_choice)`: whether an operation with two NaN operands delivers the first (43_float.md R608; log 10). -/
opaque nanFirst : Nat → Bool

/-- `draw(s_invalid)`, the result of an S- or F-format instruction given an invalid operand (43_float.md R602, R603; log 10). -/
opaque invalidResult : Nat → BitVec 64

/-- `draw(s_invalid)`, the conditions raised by the same instruction, as FPCR bits 57:52 (log 10). -/
opaque invalidConds : Nat → BitVec 6

/-- The result of a VAX instruction whose untrapped result the spec does not state (log 11). -/
opaque vaxUnstated : Nat → BitVec 64

/-- `draw(trap_deliver_now)`: whether a pending arithmetic trap is delivered at a boundary (60_exceptions.md R822). -/
opaque trapDeliverNow : Nat → Bool

/-- How many commands of the TLB inbox a boundary consumes (20_memory.md R226). -/
opaque tbiConsume : Nat → Nat

/-- Which way of a full set a TLB fill replaces, taken modulo the ways (20_memory.md R222; log 22). -/
opaque tlbWay : Nat → Nat

/-- Which line of a full set a cache with policy `random` evicts, taken modulo the ways (20_memory.md R264): draw, level (0 the
I-cache, 1 L1D, 2 L2, 3 L3) and line filled, so that the victims of one access are independent (log 24). -/
opaque cacheWay : Nat → Nat → Nat → Nat

/-- How many completed stores a stale fetch looks behind, with `ICACHE_COHERENT` = false (20_memory.md R192; log 25). -/
opaque staleDepth : Nat → Nat

/-- What a device answers to `read(off, n)`: draw, device, offset, size (20_memory.md R243; log 17). -/
opaque mmioRead : Nat → Nat → Nat → Nat → BitVec 64

/-- Whether an MMIO handler reports an error for this call (60_exceptions.md R842 cause 1; log 17). -/
opaque mmioError : Nat → Bool

/-- Whether the memory back-end reports an error for this read (60_exceptions.md R842 cause 3; log 18). -/
opaque backendError : Nat → Bool

/-- Which CPU the scheduler draw names (70_reset_and_hazards.md R930; log 7). -/
opaque scheduleCpu : Nat → BitVec 16

/-- Which action of that CPU the scheduler draw names (70_reset_and_hazards.md R930; log 7, log 8). -/
opaque schedule : Nat → Choice

/-- The device-state blob a device gives a snapshot: draw and device (70_reset_and_hazards.md R960; log 37). -/
opaque deviceBlob : Nat → Nat → List Byte

end Config

end Sys2Proof
end

