-- ==== Sys2Proof/Syntax.lean ====
section
/-! DEFINITION. The instructions, one constructor for each row of spec/opcode_table.json, in the table's order, with the
operands of their formats (30_encoding.md R302 to R310). Fields that an instruction ignores are kept, so that the words and
the instructions correspond (30_encoding.md R315). -/

namespace Sys2Proof

/-- The rounding qualifier `w[12:11]` (30_encoding.md R307, 43_float.md R604). -/
inductive Rounding where
  | chopped | minus | normal | dynamic
  deriving DecidableEq, Repr

/-- The trap qualifiers that occur in the legal-function lists, `w[15:13]` (30_encoding.md R307, R319). `u` is /U, or /V
for the conversions to an integer; `su` is /SU or /SV; `sui` is /SUI or /SVI. -/
inductive Trap where
  | none | u | s | su | sui
  deriving DecidableEq, Repr

/-- The qualifier of a floating operate instruction (30_encoding.md R307). -/
structure Qual where
  trap : Trap
  rnd : Rounding
  deriving DecidableEq, Repr

/-- The second operand of the integer operate format (30_encoding.md R306): a register, or a literal never sign-extended. -/
inductive Operand where
  | reg (rb : Reg)
  | lit (v : BitVec 8)
  deriving DecidableEq, Repr

/-- The instructions of spec/opcode_table.json. -/
inductive Instr where
  /-- CALL_PAL, rule R720. -/
  | callPal (fn : BitVec 26)
  /-- LDA, rule R501. -/
  | lda (ra rb : Reg) (disp : BitVec 16)
  /-- LDAH, rule R502. -/
  | ldah (ra rb : Reg) (disp : BitVec 16)
  /-- LDBU, rule R503. -/
  | ldbu (ra rb : Reg) (disp : BitVec 16)
  /-- LDQ_U, rule R507. -/
  | ldqU (ra rb : Reg) (disp : BitVec 16)
  /-- LDWU, rule R504. -/
  | ldwu (ra rb : Reg) (disp : BitVec 16)
  /-- STW, rule R511. -/
  | stw (ra rb : Reg) (disp : BitVec 16)
  /-- STB, rule R510. -/
  | stb (ra rb : Reg) (disp : BitVec 16)
  /-- STQ_U, rule R514. -/
  | stqU (ra rb : Reg) (disp : BitVec 16)
  /-- LDF, rule R517. -/
  | ldf (ra rb : Reg) (disp : BitVec 16)
  /-- LDG, rule R518. -/
  | ldg (ra rb : Reg) (disp : BitVec 16)
  /-- LDS, rule R519. -/
  | lds (ra rb : Reg) (disp : BitVec 16)
  /-- LDT, rule R520. -/
  | ldt (ra rb : Reg) (disp : BitVec 16)
  /-- STF, rule R521. -/
  | stf (ra rb : Reg) (disp : BitVec 16)
  /-- STG, rule R522. -/
  | stg (ra rb : Reg) (disp : BitVec 16)
  /-- STS, rule R523. -/
  | sts (ra rb : Reg) (disp : BitVec 16)
  /-- STT, rule R524. -/
  | stt (ra rb : Reg) (disp : BitVec 16)
  /-- LDL, rule R505. -/
  | ldl (ra rb : Reg) (disp : BitVec 16)
  /-- LDQ, rule R506. -/
  | ldq (ra rb : Reg) (disp : BitVec 16)
  /-- LDL_L, rule R508. -/
  | ldlL (ra rb : Reg) (disp : BitVec 16)
  /-- LDQ_L, rule R509. -/
  | ldqL (ra rb : Reg) (disp : BitVec 16)
  /-- STL, rule R512. -/
  | stl (ra rb : Reg) (disp : BitVec 16)
  /-- STQ, rule R513. -/
  | stq (ra rb : Reg) (disp : BitVec 16)
  /-- STL_C, rule R515. -/
  | stlC (ra rb : Reg) (disp : BitVec 16)
  /-- STQ_C, rule R516. -/
  | stqC (ra rb : Reg) (disp : BitVec 16)
  /-- ADDL, rule R401. -/
  | addl (ra : Reg) (o : Operand) (rc : Reg)
  /-- S4ADDL, rule R409. -/
  | s4addl (ra : Reg) (o : Operand) (rc : Reg)
  /-- SUBL, rule R405. -/
  | subl (ra : Reg) (o : Operand) (rc : Reg)
  /-- S4SUBL, rule R413. -/
  | s4subl (ra : Reg) (o : Operand) (rc : Reg)
  /-- CMPBGE, rule R422. -/
  | cmpbge (ra : Reg) (o : Operand) (rc : Reg)
  /-- S8ADDL, rule R410. -/
  | s8addl (ra : Reg) (o : Operand) (rc : Reg)
  /-- S8SUBL, rule R414. -/
  | s8subl (ra : Reg) (o : Operand) (rc : Reg)
  /-- CMPULT, rule R420. -/
  | cmpult (ra : Reg) (o : Operand) (rc : Reg)
  /-- ADDQ, rule R403. -/
  | addq (ra : Reg) (o : Operand) (rc : Reg)
  /-- S4ADDQ, rule R411. -/
  | s4addq (ra : Reg) (o : Operand) (rc : Reg)
  /-- SUBQ, rule R407. -/
  | subq (ra : Reg) (o : Operand) (rc : Reg)
  /-- S4SUBQ, rule R415. -/
  | s4subq (ra : Reg) (o : Operand) (rc : Reg)
  /-- CMPEQ, rule R417. -/
  | cmpeq (ra : Reg) (o : Operand) (rc : Reg)
  /-- S8ADDQ, rule R412. -/
  | s8addq (ra : Reg) (o : Operand) (rc : Reg)
  /-- S8SUBQ, rule R416. -/
  | s8subq (ra : Reg) (o : Operand) (rc : Reg)
  /-- CMPULE, rule R421. -/
  | cmpule (ra : Reg) (o : Operand) (rc : Reg)
  /-- ADDL/V, rule R402. -/
  | addlV (ra : Reg) (o : Operand) (rc : Reg)
  /-- SUBL/V, rule R406. -/
  | sublV (ra : Reg) (o : Operand) (rc : Reg)
  /-- CMPLT, rule R418. -/
  | cmplt (ra : Reg) (o : Operand) (rc : Reg)
  /-- ADDQ/V, rule R404. -/
  | addqV (ra : Reg) (o : Operand) (rc : Reg)
  /-- SUBQ/V, rule R408. -/
  | subqV (ra : Reg) (o : Operand) (rc : Reg)
  /-- CMPLE, rule R419. -/
  | cmple (ra : Reg) (o : Operand) (rc : Reg)
  /-- AND, rule R425. -/
  | and (ra : Reg) (o : Operand) (rc : Reg)
  /-- BIC, rule R426. -/
  | bic (ra : Reg) (o : Operand) (rc : Reg)
  /-- CMOVLBS, rule R437. -/
  | cmovlbs (ra : Reg) (o : Operand) (rc : Reg)
  /-- CMOVLBC, rule R438. -/
  | cmovlbc (ra : Reg) (o : Operand) (rc : Reg)
  /-- BIS, rule R427. -/
  | bis (ra : Reg) (o : Operand) (rc : Reg)
  /-- CMOVEQ, rule R431. -/
  | cmoveq (ra : Reg) (o : Operand) (rc : Reg)
  /-- CMOVNE, rule R432. -/
  | cmovne (ra : Reg) (o : Operand) (rc : Reg)
  /-- ORNOT, rule R428. -/
  | ornot (ra : Reg) (o : Operand) (rc : Reg)
  /-- XOR, rule R429. -/
  | xor (ra : Reg) (o : Operand) (rc : Reg)
  /-- CMOVLT, rule R433. -/
  | cmovlt (ra : Reg) (o : Operand) (rc : Reg)
  /-- CMOVGE, rule R434. -/
  | cmovge (ra : Reg) (o : Operand) (rc : Reg)
  /-- EQV, rule R430. -/
  | eqv (ra : Reg) (o : Operand) (rc : Reg)
  /-- AMASK, rule R439. -/
  | amask (o : Operand) (rc : Reg)
  /-- CMOVLE, rule R435. -/
  | cmovle (ra : Reg) (o : Operand) (rc : Reg)
  /-- CMOVGT, rule R436. -/
  | cmovgt (ra : Reg) (o : Operand) (rc : Reg)
  /-- IMPLVER, rule R440. -/
  | implver (o : Operand) (rc : Reg)
  /-- MSKBL, rule R447. -/
  | mskbl (ra : Reg) (o : Operand) (rc : Reg)
  /-- EXTBL, rule R454. -/
  | extbl (ra : Reg) (o : Operand) (rc : Reg)
  /-- INSBL, rule R461. -/
  | insbl (ra : Reg) (o : Operand) (rc : Reg)
  /-- MSKWL, rule R448. -/
  | mskwl (ra : Reg) (o : Operand) (rc : Reg)
  /-- EXTWL, rule R455. -/
  | extwl (ra : Reg) (o : Operand) (rc : Reg)
  /-- INSWL, rule R462. -/
  | inswl (ra : Reg) (o : Operand) (rc : Reg)
  /-- MSKLL, rule R449. -/
  | mskll (ra : Reg) (o : Operand) (rc : Reg)
  /-- EXTLL, rule R456. -/
  | extll (ra : Reg) (o : Operand) (rc : Reg)
  /-- INSLL, rule R463. -/
  | insll (ra : Reg) (o : Operand) (rc : Reg)
  /-- ZAP, rule R445. -/
  | zap (ra : Reg) (o : Operand) (rc : Reg)
  /-- ZAPNOT, rule R446. -/
  | zapnot (ra : Reg) (o : Operand) (rc : Reg)
  /-- MSKQL, rule R450. -/
  | mskql (ra : Reg) (o : Operand) (rc : Reg)
  /-- SRL, rule R443. -/
  | srl (ra : Reg) (o : Operand) (rc : Reg)
  /-- EXTQL, rule R457. -/
  | extql (ra : Reg) (o : Operand) (rc : Reg)
  /-- SLL, rule R442. -/
  | sll (ra : Reg) (o : Operand) (rc : Reg)
  /-- INSQL, rule R464. -/
  | insql (ra : Reg) (o : Operand) (rc : Reg)
  /-- SRA, rule R444. -/
  | sra (ra : Reg) (o : Operand) (rc : Reg)
  /-- MSKWH, rule R451. -/
  | mskwh (ra : Reg) (o : Operand) (rc : Reg)
  /-- INSWH, rule R465. -/
  | inswh (ra : Reg) (o : Operand) (rc : Reg)
  /-- EXTWH, rule R458. -/
  | extwh (ra : Reg) (o : Operand) (rc : Reg)
  /-- MSKLH, rule R452. -/
  | msklh (ra : Reg) (o : Operand) (rc : Reg)
  /-- INSLH, rule R466. -/
  | inslh (ra : Reg) (o : Operand) (rc : Reg)
  /-- EXTLH, rule R459. -/
  | extlh (ra : Reg) (o : Operand) (rc : Reg)
  /-- MSKQH, rule R453. -/
  | mskqh (ra : Reg) (o : Operand) (rc : Reg)
  /-- INSQH, rule R467. -/
  | insqh (ra : Reg) (o : Operand) (rc : Reg)
  /-- EXTQH, rule R460. -/
  | extqh (ra : Reg) (o : Operand) (rc : Reg)
  /-- MULL, rule R468. -/
  | mull (ra : Reg) (o : Operand) (rc : Reg)
  /-- MULQ, rule R470. -/
  | mulq (ra : Reg) (o : Operand) (rc : Reg)
  /-- UMULH, rule R472. -/
  | umulh (ra : Reg) (o : Operand) (rc : Reg)
  /-- MULL/V, rule R469. -/
  | mullV (ra : Reg) (o : Operand) (rc : Reg)
  /-- MULQ/V, rule R471. -/
  | mulqV (ra : Reg) (o : Operand) (rc : Reg)
  /-- SEXTB, rule R475. -/
  | sextb (o : Operand) (rc : Reg)
  /-- SEXTW, rule R476. -/
  | sextw (o : Operand) (rc : Reg)
  /-- CTPOP, rule R477. -/
  | ctpop (o : Operand) (rc : Reg)
  /-- PERR, rule R480. -/
  | perr (ra : Reg) (o : Operand) (rc : Reg)
  /-- CTLZ, rule R478. -/
  | ctlz (o : Operand) (rc : Reg)
  /-- CTTZ, rule R479. -/
  | cttz (o : Operand) (rc : Reg)
  /-- UNPKBW, rule R491. -/
  | unpkbw (o : Operand) (rc : Reg)
  /-- UNPKBL, rule R492. -/
  | unpkbl (o : Operand) (rc : Reg)
  /-- PKWB, rule R489. -/
  | pkwb (o : Operand) (rc : Reg)
  /-- PKLB, rule R490. -/
  | pklb (o : Operand) (rc : Reg)
  /-- MINSB8, rule R481. -/
  | minsb8 (ra : Reg) (o : Operand) (rc : Reg)
  /-- MINSW4, rule R482. -/
  | minsw4 (ra : Reg) (o : Operand) (rc : Reg)
  /-- MINUB8, rule R483. -/
  | minub8 (ra : Reg) (o : Operand) (rc : Reg)
  /-- MINUW4, rule R484. -/
  | minuw4 (ra : Reg) (o : Operand) (rc : Reg)
  /-- MAXUB8, rule R485. -/
  | maxub8 (ra : Reg) (o : Operand) (rc : Reg)
  /-- MAXUW4, rule R486. -/
  | maxuw4 (ra : Reg) (o : Operand) (rc : Reg)
  /-- MAXSB8, rule R487. -/
  | maxsb8 (ra : Reg) (o : Operand) (rc : Reg)
  /-- MAXSW4, rule R488. -/
  | maxsw4 (ra : Reg) (o : Operand) (rc : Reg)
  /-- FTOIT, rule R667. -/
  | ftoit (fa rc : Reg)
  /-- FTOIS, rule R668. -/
  | ftois (fa rc : Reg)
  /-- ADDS, rule R620. -/
  | adds (q : Qual) (fa fb fc : Reg)
  /-- SUBS, rule R622. -/
  | subs (q : Qual) (fa fb fc : Reg)
  /-- MULS, rule R624. -/
  | muls (q : Qual) (fa fb fc : Reg)
  /-- DIVS, rule R626. -/
  | divs (q : Qual) (fa fb fc : Reg)
  /-- ADDT, rule R621. -/
  | addt (q : Qual) (fa fb fc : Reg)
  /-- SUBT, rule R623. -/
  | subt (q : Qual) (fa fb fc : Reg)
  /-- MULT, rule R625. -/
  | mult (q : Qual) (fa fb fc : Reg)
  /-- DIVT, rule R627. -/
  | divt (q : Qual) (fa fb fc : Reg)
  /-- CMPTUN, rule R628. -/
  | cmptun (q : Qual) (fa fb fc : Reg)
  /-- CMPTEQ, rule R629. -/
  | cmpteq (q : Qual) (fa fb fc : Reg)
  /-- CMPTLT, rule R630. -/
  | cmptlt (q : Qual) (fa fb fc : Reg)
  /-- CMPTLE, rule R631. -/
  | cmptle (q : Qual) (fa fb fc : Reg)
  /-- CVTTS, rule R632. -/
  | cvtts (q : Qual) (fb fc : Reg)
  /-- CVTTQ, rule R633. -/
  | cvttq (q : Qual) (fb fc : Reg)
  /-- CVTQS, rule R634. -/
  | cvtqs (q : Qual) (fb fc : Reg)
  /-- CVTQT, rule R635. -/
  | cvtqt (q : Qual) (fb fc : Reg)
  /-- CVTST, rule R636. -/
  | cvtst (sw : Bool) (fb fc : Reg)
  /-- ADDF, rule R640. -/
  | addf (q : Qual) (fa fb fc : Reg)
  /-- SUBF, rule R642. -/
  | subf (q : Qual) (fa fb fc : Reg)
  /-- MULF, rule R644. -/
  | mulf (q : Qual) (fa fb fc : Reg)
  /-- DIVF, rule R646. -/
  | divf (q : Qual) (fa fb fc : Reg)
  /-- CVTDG, rule R653. -/
  | cvtdg (q : Qual) (fb fc : Reg)
  /-- ADDG, rule R641. -/
  | addg (q : Qual) (fa fb fc : Reg)
  /-- SUBG, rule R643. -/
  | subg (q : Qual) (fa fb fc : Reg)
  /-- MULG, rule R645. -/
  | mulg (q : Qual) (fa fb fc : Reg)
  /-- DIVG, rule R647. -/
  | divg (q : Qual) (fa fb fc : Reg)
  /-- CMPGEQ, rule R648. -/
  | cmpgeq (q : Qual) (fa fb fc : Reg)
  /-- CMPGLT, rule R649. -/
  | cmpglt (q : Qual) (fa fb fc : Reg)
  /-- CMPGLE, rule R650. -/
  | cmpgle (q : Qual) (fa fb fc : Reg)
  /-- CVTGF, rule R651. -/
  | cvtgf (q : Qual) (fb fc : Reg)
  /-- CVTGD, rule R652. -/
  | cvtgd (q : Qual) (fb fc : Reg)
  /-- CVTGQ, rule R654. -/
  | cvtgq (q : Qual) (fb fc : Reg)
  /-- CVTQF, rule R655. -/
  | cvtqf (q : Qual) (fb fc : Reg)
  /-- CVTQG, rule R656. -/
  | cvtqg (q : Qual) (fb fc : Reg)
  /-- ITOFS, rule R660. -/
  | itofs (ra fc : Reg)
  /-- ITOFF, rule R661. -/
  | itoff (ra fc : Reg)
  /-- ITOFT, rule R662. -/
  | itoft (ra fc : Reg)
  /-- SQRTF, rule R663. -/
  | sqrtf (q : Qual) (fb fc : Reg)
  /-- SQRTG, rule R664. -/
  | sqrtg (q : Qual) (fb fc : Reg)
  /-- SQRTS, rule R665. -/
  | sqrts (q : Qual) (fb fc : Reg)
  /-- SQRTT, rule R666. -/
  | sqrtt (q : Qual) (fb fc : Reg)
  /-- CVTLQ, rule R670. -/
  | cvtlq (fb fc : Reg)
  /-- CPYS, rule R672. -/
  | cpys (fa fb fc : Reg)
  /-- CPYSN, rule R673. -/
  | cpysn (fa fb fc : Reg)
  /-- CPYSE, rule R674. -/
  | cpyse (fa fb fc : Reg)
  /-- MT_FPCR, rule R675. -/
  | mtFpcr (fa fb fc : Reg)
  /-- MF_FPCR, rule R676. -/
  | mfFpcr (fa fb fc : Reg)
  /-- FCMOVEQ, rule R677. -/
  | fcmoveq (fa fb fc : Reg)
  /-- FCMOVNE, rule R678. -/
  | fcmovne (fa fb fc : Reg)
  /-- FCMOVLT, rule R679. -/
  | fcmovlt (fa fb fc : Reg)
  /-- FCMOVGE, rule R680. -/
  | fcmovge (fa fb fc : Reg)
  /-- FCMOVLE, rule R681. -/
  | fcmovle (fa fb fc : Reg)
  /-- FCMOVGT, rule R682. -/
  | fcmovgt (fa fb fc : Reg)
  /-- CVTQL, rule R671. -/
  | cvtql (tr : Trap) (fb fc : Reg)
  /-- TRAPB, rule R701. -/
  | trapb (ra rb : Reg)
  /-- EXCB, rule R702. -/
  | excb (ra rb : Reg)
  /-- MB, rule R703. -/
  | mb (ra rb : Reg)
  /-- WMB, rule R704. -/
  | wmb (ra rb : Reg)
  /-- FETCH, rule R705. -/
  | fetch (ra rb : Reg)
  /-- FETCH_M, rule R706. -/
  | fetchM (ra rb : Reg)
  /-- RPCC, rule R707. -/
  | rpcc (ra rb : Reg)
  /-- RC, rule R708. -/
  | rc (ra rb : Reg)
  /-- ECB, rule R710. -/
  | ecb (ra rb : Reg)
  /-- RS, rule R709. -/
  | rs (ra rb : Reg)
  /-- WH64, rule R711. -/
  | wh64 (ra rb : Reg)
  /-- WH64EN, rule R711. -/
  | wh64en (ra rb : Reg)
  /-- JMP, rule R567. -/
  | jmp (ra rb : Reg) (hint : BitVec 14)
  /-- JSR, rule R568. -/
  | jsr (ra rb : Reg) (hint : BitVec 14)
  /-- RET, rule R569. -/
  | ret (ra rb : Reg) (hint : BitVec 14)
  /-- JSR_COROUTINE, rule R570. -/
  | jsrCoroutine (ra rb : Reg) (hint : BitVec 14)
  /-- BR, rule R551. -/
  | br (ra : Reg) (disp : BitVec 21)
  /-- FBEQ, rule R561. -/
  | fbeq (ra : Reg) (disp : BitVec 21)
  /-- FBLT, rule R563. -/
  | fblt (ra : Reg) (disp : BitVec 21)
  /-- FBLE, rule R564. -/
  | fble (ra : Reg) (disp : BitVec 21)
  /-- BSR, rule R552. -/
  | bsr (ra : Reg) (disp : BitVec 21)
  /-- FBNE, rule R562. -/
  | fbne (ra : Reg) (disp : BitVec 21)
  /-- FBGE, rule R566. -/
  | fbge (ra : Reg) (disp : BitVec 21)
  /-- FBGT, rule R565. -/
  | fbgt (ra : Reg) (disp : BitVec 21)
  /-- BLBC, rule R559. -/
  | blbc (ra : Reg) (disp : BitVec 21)
  /-- BEQ, rule R553. -/
  | beq (ra : Reg) (disp : BitVec 21)
  /-- BLT, rule R555. -/
  | blt (ra : Reg) (disp : BitVec 21)
  /-- BLE, rule R556. -/
  | ble (ra : Reg) (disp : BitVec 21)
  /-- BLBS, rule R560. -/
  | blbs (ra : Reg) (disp : BitVec 21)
  /-- BNE, rule R554. -/
  | bne (ra : Reg) (disp : BitVec 21)
  /-- BGE, rule R558. -/
  | bge (ra : Reg) (disp : BitVec 21)
  /-- BGT, rule R557. -/
  | bgt (ra : Reg) (disp : BitVec 21)
  /-- HW_MFPR, rule R750. -/
  | hwMfpr (ra : Reg) (index : BitVec 16)
  /-- HW_LD, rule R755. -/
  | hwLd (ra rb : Reg) (quad : Bool) (disp : BitVec 12)
  /-- HW_MTPR, rule R751. -/
  | hwMtpr (ra : Reg) (index : BitVec 16)
  /-- HW_REI, rule R760. -/
  | hwRei
  /-- HW_ST, rule R756. -/
  | hwSt (ra rb : Reg) (quad : Bool) (disp : BitVec 12)
  deriving DecidableEq, Repr

end Sys2Proof
end

