-- ==== Sys2Proof/WellFormed.lean ====
section
/-! DEFINITION. Which instructions are well formed: those whose qualifier is one of the instruction's legal functions
(30_encoding.md R319, 43_float.md sections 3 and 4). Every other field admits every value. -/

namespace Sys2Proof

namespace Qual

/-- ADDx, SUBx, MULx, DIVx, SQRTx (x = S, T), CVTTS and CVTTQ: none, /U, /SU, /SUI with all four roundings. -/
def ieeeArith (q : Qual) : Bool :=
  match q.trap with
  | .none | .u | .su | .sui => true
  | .s => false

/-- CMPTxx: none or /SU, normal rounding. -/
def ieeeCompare (q : Qual) : Bool :=
  match q.trap, q.rnd with
  | .none, .normal | .su, .normal => true
  | _, _ => false

/-- CVTQS and CVTQT: none or /SUI with all four roundings. -/
def ieeeFromInt (q : Qual) : Bool :=
  match q.trap with
  | .none | .sui => true
  | .u | .s | .su => false

/-- The VAX arithmetic and conversions: none, /U, /S, /SU with /C or normal rounding. -/
def vaxArith (q : Qual) : Bool :=
  match q.trap, q.rnd with
  | .sui, _ => false
  | _, .chopped | _, .normal => true
  | _, _ => false

/-- CMPGxx: none or /S, normal rounding. -/
def vaxCompare (q : Qual) : Bool :=
  match q.trap, q.rnd with
  | .none, .normal | .s, .normal => true
  | _, _ => false

/-- CVTQF and CVTQG: no trap qualifier, /C or normal rounding. -/
def vaxFromInt (q : Qual) : Bool :=
  match q.trap, q.rnd with
  | .none, .chopped | .none, .normal => true
  | _, _ => false

end Qual

/-- CVTQL takes no qualifier, /V or /SV (functions 0x030, 0x130, 0x530; 30_encoding.md R319). -/
def Trap.cvtqlOk (t : Trap) : Bool :=
  match t with
  | .none | .u | .su => true
  | .s | .sui => false

/-- The instruction is one that some legal word encodes (30_encoding.md R312, R319). -/
def Instr.wf (i : Instr) : Bool :=
  match i with
  | .callPal _ => true
  | .lda _ _ _ => true
  | .ldah _ _ _ => true
  | .ldbu _ _ _ => true
  | .ldqU _ _ _ => true
  | .ldwu _ _ _ => true
  | .stw _ _ _ => true
  | .stb _ _ _ => true
  | .stqU _ _ _ => true
  | .ldf _ _ _ => true
  | .ldg _ _ _ => true
  | .lds _ _ _ => true
  | .ldt _ _ _ => true
  | .stf _ _ _ => true
  | .stg _ _ _ => true
  | .sts _ _ _ => true
  | .stt _ _ _ => true
  | .ldl _ _ _ => true
  | .ldq _ _ _ => true
  | .ldlL _ _ _ => true
  | .ldqL _ _ _ => true
  | .stl _ _ _ => true
  | .stq _ _ _ => true
  | .stlC _ _ _ => true
  | .stqC _ _ _ => true
  | .addl _ _ _ => true
  | .s4addl _ _ _ => true
  | .subl _ _ _ => true
  | .s4subl _ _ _ => true
  | .cmpbge _ _ _ => true
  | .s8addl _ _ _ => true
  | .s8subl _ _ _ => true
  | .cmpult _ _ _ => true
  | .addq _ _ _ => true
  | .s4addq _ _ _ => true
  | .subq _ _ _ => true
  | .s4subq _ _ _ => true
  | .cmpeq _ _ _ => true
  | .s8addq _ _ _ => true
  | .s8subq _ _ _ => true
  | .cmpule _ _ _ => true
  | .addlV _ _ _ => true
  | .sublV _ _ _ => true
  | .cmplt _ _ _ => true
  | .addqV _ _ _ => true
  | .subqV _ _ _ => true
  | .cmple _ _ _ => true
  | .and _ _ _ => true
  | .bic _ _ _ => true
  | .cmovlbs _ _ _ => true
  | .cmovlbc _ _ _ => true
  | .bis _ _ _ => true
  | .cmoveq _ _ _ => true
  | .cmovne _ _ _ => true
  | .ornot _ _ _ => true
  | .xor _ _ _ => true
  | .cmovlt _ _ _ => true
  | .cmovge _ _ _ => true
  | .eqv _ _ _ => true
  | .amask _ _ => true
  | .cmovle _ _ _ => true
  | .cmovgt _ _ _ => true
  | .implver _ _ => true
  | .mskbl _ _ _ => true
  | .extbl _ _ _ => true
  | .insbl _ _ _ => true
  | .mskwl _ _ _ => true
  | .extwl _ _ _ => true
  | .inswl _ _ _ => true
  | .mskll _ _ _ => true
  | .extll _ _ _ => true
  | .insll _ _ _ => true
  | .zap _ _ _ => true
  | .zapnot _ _ _ => true
  | .mskql _ _ _ => true
  | .srl _ _ _ => true
  | .extql _ _ _ => true
  | .sll _ _ _ => true
  | .insql _ _ _ => true
  | .sra _ _ _ => true
  | .mskwh _ _ _ => true
  | .inswh _ _ _ => true
  | .extwh _ _ _ => true
  | .msklh _ _ _ => true
  | .inslh _ _ _ => true
  | .extlh _ _ _ => true
  | .mskqh _ _ _ => true
  | .insqh _ _ _ => true
  | .extqh _ _ _ => true
  | .mull _ _ _ => true
  | .mulq _ _ _ => true
  | .umulh _ _ _ => true
  | .mullV _ _ _ => true
  | .mulqV _ _ _ => true
  | .sextb _ _ => true
  | .sextw _ _ => true
  | .ctpop _ _ => true
  | .perr _ _ _ => true
  | .ctlz _ _ => true
  | .cttz _ _ => true
  | .unpkbw _ _ => true
  | .unpkbl _ _ => true
  | .pkwb _ _ => true
  | .pklb _ _ => true
  | .minsb8 _ _ _ => true
  | .minsw4 _ _ _ => true
  | .minub8 _ _ _ => true
  | .minuw4 _ _ _ => true
  | .maxub8 _ _ _ => true
  | .maxuw4 _ _ _ => true
  | .maxsb8 _ _ _ => true
  | .maxsw4 _ _ _ => true
  | .ftoit _ _ => true
  | .ftois _ _ => true
  | .adds q _ _ _ => q.ieeeArith
  | .subs q _ _ _ => q.ieeeArith
  | .muls q _ _ _ => q.ieeeArith
  | .divs q _ _ _ => q.ieeeArith
  | .addt q _ _ _ => q.ieeeArith
  | .subt q _ _ _ => q.ieeeArith
  | .mult q _ _ _ => q.ieeeArith
  | .divt q _ _ _ => q.ieeeArith
  | .cmptun q _ _ _ => q.ieeeCompare
  | .cmpteq q _ _ _ => q.ieeeCompare
  | .cmptlt q _ _ _ => q.ieeeCompare
  | .cmptle q _ _ _ => q.ieeeCompare
  | .cvtts q _ _ => q.ieeeArith
  | .cvttq q _ _ => q.ieeeArith
  | .cvtqs q _ _ => q.ieeeFromInt
  | .cvtqt q _ _ => q.ieeeFromInt
  | .cvtst _ _ _ => true
  | .addf q _ _ _ => q.vaxArith
  | .subf q _ _ _ => q.vaxArith
  | .mulf q _ _ _ => q.vaxArith
  | .divf q _ _ _ => q.vaxArith
  | .cvtdg q _ _ => q.vaxArith
  | .addg q _ _ _ => q.vaxArith
  | .subg q _ _ _ => q.vaxArith
  | .mulg q _ _ _ => q.vaxArith
  | .divg q _ _ _ => q.vaxArith
  | .cmpgeq q _ _ _ => q.vaxCompare
  | .cmpglt q _ _ _ => q.vaxCompare
  | .cmpgle q _ _ _ => q.vaxCompare
  | .cvtgf q _ _ => q.vaxArith
  | .cvtgd q _ _ => q.vaxArith
  | .cvtgq q _ _ => q.vaxArith
  | .cvtqf q _ _ => q.vaxFromInt
  | .cvtqg q _ _ => q.vaxFromInt
  | .itofs _ _ => true
  | .itoff _ _ => true
  | .itoft _ _ => true
  | .sqrtf q _ _ => q.vaxArith
  | .sqrtg q _ _ => q.vaxArith
  | .sqrts q _ _ => q.ieeeArith
  | .sqrtt q _ _ => q.ieeeArith
  | .cvtlq _ _ => true
  | .cpys _ _ _ => true
  | .cpysn _ _ _ => true
  | .cpyse _ _ _ => true
  | .mtFpcr _ _ _ => true
  | .mfFpcr _ _ _ => true
  | .fcmoveq _ _ _ => true
  | .fcmovne _ _ _ => true
  | .fcmovlt _ _ _ => true
  | .fcmovge _ _ _ => true
  | .fcmovle _ _ _ => true
  | .fcmovgt _ _ _ => true
  | .cvtql tr _ _ => tr.cvtqlOk
  | .trapb _ _ => true
  | .excb _ _ => true
  | .mb _ _ => true
  | .wmb _ _ => true
  | .fetch _ _ => true
  | .fetchM _ _ => true
  | .rpcc _ _ => true
  | .rc _ _ => true
  | .ecb _ _ => true
  | .rs _ _ => true
  | .wh64 _ _ => true
  | .wh64en _ _ => true
  | .jmp _ _ _ => true
  | .jsr _ _ _ => true
  | .ret _ _ _ => true
  | .jsrCoroutine _ _ _ => true
  | .br _ _ => true
  | .fbeq _ _ => true
  | .fblt _ _ => true
  | .fble _ _ => true
  | .bsr _ _ => true
  | .fbne _ _ => true
  | .fbge _ _ => true
  | .fbgt _ _ => true
  | .blbc _ _ => true
  | .beq _ _ => true
  | .blt _ _ => true
  | .ble _ _ => true
  | .blbs _ _ => true
  | .bne _ _ => true
  | .bge _ _ => true
  | .bgt _ _ => true
  | .hwMfpr _ _ => true
  | .hwLd _ _ _ _ => true
  | .hwMtpr _ _ => true
  | .hwRei => true
  | .hwSt _ _ _ _ => true

end Sys2Proof
end

