-- ==== Sys2Proof/Decode.lean ====
section
/-! DEFINITION. The decoder and the encoder (30_encoding.md R300 to R319), written from the opcode and function tables.
The decoder is total: every word is an instruction, a reserved-opcode word (OPCDEC), or a word the spec refuses because a
should-be field is wrong (R312). Whether an extension is present is no part of decoding here: the meaning of an extension
instruction raises OPCDEC itself, and a refused word carries its extension so that an absent one still gives OPCDEC. -/

namespace Sys2Proof

/-- What a 32-bit word decodes to (30_encoding.md R312). -/
inductive Decoded where
  /-- An instruction row. -/
  | instr (i : Instr)
  /-- The reserved-opcode fault: the word raises OPCDEC. -/
  | reserved
  /-- A word that would decode to an instruction (of the extension given, if any) but for a should-be field. -/
  | refused (ext : Option Ext)
  deriving DecidableEq, Repr

namespace IWord

/-- `w[31:26]` (30_encoding.md R301). -/
def opcode (w : IWord) : BitVec 6 := w.extractLsb' 26 6

/-- `w[25:21]`: ra or fa (R302, R306, R307). -/
def ra (w : IWord) : Reg := w.extractLsb' 21 5

/-- `w[20:16]`: rb or fb. -/
def rb (w : IWord) : Reg := w.extractLsb' 16 5

/-- `w[4:0]`: rc or fc. -/
def rc (w : IWord) : Reg := w.extractLsb' 0 5

/-- `w[15:0]`: the memory displacement, the opcode 0x18 function, the IPR index. -/
def disp16 (w : IWord) : BitVec 16 := w.extractLsb' 0 16

/-- `w[20:0]`: the branch displacement (R305). -/
def disp21 (w : IWord) : BitVec 21 := w.extractLsb' 0 21

/-- `w[15:14]` and `w[13:0]`: the jump function and hint (R304). -/
def jumpFn (w : IWord) : BitVec 2 := w.extractLsb' 14 2

/-- `w[13:0]`: the jump hint (R304). -/
def hint (w : IWord) : BitVec 14 := w.extractLsb' 0 14

/-- `w[12]`: the literal selector of the operate format (R306). -/
def isLit (w : IWord) : Bool := w.getLsbD 12

/-- `w[15:13]`: should be zero in the operate register form (R306); the trap qualifier of the floating format (R307). -/
def bits15to13 (w : IWord) : BitVec 3 := w.extractLsb' 13 3

/-- `w[20:13]`: the operate literal (R306). -/
def lit (w : IWord) : BitVec 8 := w.extractLsb' 13 8

/-- `w[11:5]`: the integer operate function (R306). -/
def fn7 (w : IWord) : BitVec 7 := w.extractLsb' 5 7

/-- `w[15:5]`: the floating operate function (R307). -/
def fn11 (w : IWord) : BitVec 11 := w.extractLsb' 5 11

/-- `w[12:11]`: the rounding qualifier (R307). -/
def rnd (w : IWord) : BitVec 2 := w.extractLsb' 11 2

/-- `w[10:5]`: source format and operation of the floating format (R307). -/
def fn6 (w : IWord) : BitVec 6 := w.extractLsb' 5 6

/-- `w[25:0]`: the PAL function (R308). -/
def palFn (w : IWord) : BitVec 26 := w.extractLsb' 0 26

/-- `w[11:0]`: the displacement of HW_LD and HW_ST (R310). -/
def disp12 (w : IWord) : BitVec 12 := w.extractLsb' 0 12

end IWord

/-- The rounding qualifier of `w[12:11]` (R307). -/
def Rounding.ofBits (b : BitVec 2) : Rounding :=
  match b.toNat with
  | 0 => .chopped
  | 1 => .minus
  | 2 => .normal
  | _ => .dynamic

/-- The bits of a rounding qualifier (R307). -/
def Rounding.bits (r : Rounding) : BitVec 2 :=
  match r with
  | .chopped => 0
  | .minus => 1
  | .normal => 2
  | .dynamic => 3

/-- The trap qualifier of `w[15:13]`, where some instruction has it (R307, R319). -/
def Trap.ofBits (b : BitVec 3) : Option Trap :=
  match b.toNat with
  | 0 => some .none
  | 1 => some .u
  | 4 => some .s
  | 5 => some .su
  | 7 => some .sui
  | _ => Option.none

/-- The bits of a trap qualifier: bit 2 is /S, bit 1 /I, bit 0 /U or /V (R307). -/
def Trap.bits (t : Trap) : BitVec 3 :=
  match t with
  | .none => 0
  | .u => 1
  | .s => 4
  | .su => 5
  | .sui => 7

namespace Decode

/-- The memory format (R302). -/
def mem (w : IWord) (k : Reg → Reg → BitVec 16 → Instr) : Decoded :=
  .instr (k w.ra w.rb w.disp16)

/-- The branch format (R305). -/
def bra (w : IWord) (k : Reg → BitVec 21 → Instr) : Decoded :=
  .instr (k w.ra w.disp21)

/-- The integer operate format (R306): a register-form word with `w[15:13]` ≠ 0 is refused. -/
def opr (ext : Option Ext) (w : IWord) (k : Reg → Operand → Reg → Instr) : Decoded :=
  if w.isLit then .instr (k w.ra (.lit w.lit) w.rc)
  else if w.bits15to13 = 0 then .instr (k w.ra (.reg w.rb) w.rc)
  else .refused ext

/-- The one-operand integer instructions: `ra` should be 31 (R312). -/
def opr1 (ext : Option Ext) (w : IWord) (k : Operand → Reg → Instr) : Decoded :=
  if w.ra = 31 then opr ext w (fun _ o rc => k o rc) else .refused ext

/-- FTOIT and FTOIS: register form with `rb` = 31 (R312). -/
def ftoi (w : IWord) (k : Reg → Reg → Instr) : Decoded :=
  if w.isLit = false ∧ w.bits15to13 = 0 ∧ w.rb = 31 then .instr (k w.ra w.rc) else .refused (some .fix)

/-- A floating instruction with qualifiers: the function must be one of its legal ones (R312). -/
def qual (ok : Qual → Bool) (w : IWord) (k : Qual → Decoded) : Decoded :=
  match Trap.ofBits w.bits15to13 with
  | some t =>
    let q : Qual := ⟨t, Rounding.ofBits w.rnd⟩
    if ok q then k q else .reserved
  | none => .reserved

/-- A two-operand floating instruction (R307). -/
def fp3 (w : IWord) (k : Reg → Reg → Reg → Instr) : Decoded :=
  .instr (k w.ra w.rb w.rc)

/-- A one-operand floating instruction: `fa` should be 31 (R312). -/
def fp1 (ext : Option Ext) (w : IWord) (k : Reg → Reg → Instr) : Decoded :=
  if w.ra = 31 then .instr (k w.rb w.rc) else .refused ext

/-- ITOFx: `fb` should be 31 (R312). -/
def itof (w : IWord) (k : Reg → Reg → Instr) : Decoded :=
  if w.rb = 31 then .instr (k w.ra w.rc) else .refused (some .fix)

/-- Opcode 0x18: the fields ra and rb are kept, ignored or not (R303, R312). -/
def misc (w : IWord) (k : Reg → Reg → Instr) : Decoded :=
  .instr (k w.ra w.rb)

/-- Opcode 0x10, integer arithmetic and compare (R319). -/
def arith (w : IWord) : Decoded :=
  match w.fn7.toNat with
  | 0x0 => opr none w .addl
  | 0x2 => opr none w .s4addl
  | 0x9 => opr none w .subl
  | 0xb => opr none w .s4subl
  | 0xf => opr none w .cmpbge
  | 0x12 => opr none w .s8addl
  | 0x1b => opr none w .s8subl
  | 0x1d => opr none w .cmpult
  | 0x20 => opr none w .addq
  | 0x22 => opr none w .s4addq
  | 0x29 => opr none w .subq
  | 0x2b => opr none w .s4subq
  | 0x2d => opr none w .cmpeq
  | 0x32 => opr none w .s8addq
  | 0x3b => opr none w .s8subq
  | 0x3d => opr none w .cmpule
  | 0x40 => opr none w .addlV
  | 0x49 => opr none w .sublV
  | 0x4d => opr none w .cmplt
  | 0x60 => opr none w .addqV
  | 0x69 => opr none w .subqV
  | 0x6d => opr none w .cmple
  | _ => .reserved

/-- Opcode 0x11, logical, conditional move, AMASK and IMPLVER (R319). -/
def logical (w : IWord) : Decoded :=
  match w.fn7.toNat with
  | 0x0 => opr none w .and
  | 0x8 => opr none w .bic
  | 0x14 => opr none w .cmovlbs
  | 0x16 => opr none w .cmovlbc
  | 0x20 => opr none w .bis
  | 0x24 => opr none w .cmoveq
  | 0x26 => opr none w .cmovne
  | 0x28 => opr none w .ornot
  | 0x40 => opr none w .xor
  | 0x44 => opr none w .cmovlt
  | 0x46 => opr none w .cmovge
  | 0x48 => opr none w .eqv
  | 0x61 => opr1 none w .amask
  | 0x64 => opr none w .cmovle
  | 0x66 => opr none w .cmovgt
  | 0x6c => opr1 none w .implver
  | _ => .reserved

/-- Opcode 0x12, shift and byte manipulation (R319). -/
def shift (w : IWord) : Decoded :=
  match w.fn7.toNat with
  | 0x2 => opr none w .mskbl
  | 0x6 => opr none w .extbl
  | 0xb => opr none w .insbl
  | 0x12 => opr none w .mskwl
  | 0x16 => opr none w .extwl
  | 0x1b => opr none w .inswl
  | 0x22 => opr none w .mskll
  | 0x26 => opr none w .extll
  | 0x2b => opr none w .insll
  | 0x30 => opr none w .zap
  | 0x31 => opr none w .zapnot
  | 0x32 => opr none w .mskql
  | 0x34 => opr none w .srl
  | 0x36 => opr none w .extql
  | 0x39 => opr none w .sll
  | 0x3b => opr none w .insql
  | 0x3c => opr none w .sra
  | 0x52 => opr none w .mskwh
  | 0x57 => opr none w .inswh
  | 0x5a => opr none w .extwh
  | 0x62 => opr none w .msklh
  | 0x67 => opr none w .inslh
  | 0x6a => opr none w .extlh
  | 0x72 => opr none w .mskqh
  | 0x77 => opr none w .insqh
  | 0x7a => opr none w .extqh
  | _ => .reserved

/-- Opcode 0x13, multiply (R319). -/
def mul (w : IWord) : Decoded :=
  match w.fn7.toNat with
  | 0x0 => opr none w .mull
  | 0x20 => opr none w .mulq
  | 0x30 => opr none w .umulh
  | 0x40 => opr none w .mullV
  | 0x60 => opr none w .mulqV
  | _ => .reserved

/-- Opcode 0x1C, the extensions (R319). -/
def ext (w : IWord) : Decoded :=
  match w.fn7.toNat with
  | 0x0 => opr1 (some .bwx) w .sextb
  | 0x1 => opr1 (some .bwx) w .sextw
  | 0x30 => opr1 (some .cix) w .ctpop
  | 0x31 => opr (some .mvi) w .perr
  | 0x32 => opr1 (some .cix) w .ctlz
  | 0x33 => opr1 (some .cix) w .cttz
  | 0x34 => opr1 (some .mvi) w .unpkbw
  | 0x35 => opr1 (some .mvi) w .unpkbl
  | 0x36 => opr1 (some .mvi) w .pkwb
  | 0x37 => opr1 (some .mvi) w .pklb
  | 0x38 => opr (some .mvi) w .minsb8
  | 0x39 => opr (some .mvi) w .minsw4
  | 0x3a => opr (some .mvi) w .minub8
  | 0x3b => opr (some .mvi) w .minuw4
  | 0x3c => opr (some .mvi) w .maxub8
  | 0x3d => opr (some .mvi) w .maxuw4
  | 0x3e => opr (some .mvi) w .maxsb8
  | 0x3f => opr (some .mvi) w .maxsw4
  | 0x70 => ftoi w .ftoit
  | 0x78 => ftoi w .ftois
  | _ => .reserved

/-- Opcode 0x14, ITFP and square root (R319). -/
def itfp (w : IWord) : Decoded :=
  match w.fn6.toNat with
  | 0x4 => if w.fn11 = 0x4 then itof w .itofs else .reserved
  | 0x14 => if w.fn11 = 0x14 then itof w .itoff else .reserved
  | 0x24 => if w.fn11 = 0x24 then itof w .itoft else .reserved
  | 0xa => qual Qual.vaxArith w (fun q => fp1 (some .fix) w (.sqrtf q))
  | 0x2a => qual Qual.vaxArith w (fun q => fp1 (some .fix) w (.sqrtg q))
  | 0xb => qual Qual.ieeeArith w (fun q => fp1 (some .fix) w (.sqrts q))
  | 0x2b => qual Qual.ieeeArith w (fun q => fp1 (some .fix) w (.sqrtt q))
  | _ => .reserved

/-- Opcode 0x15, VAX floating (R319). -/
def vax (w : IWord) : Decoded :=
  match w.fn6.toNat with
  | 0x0 => qual Qual.vaxArith w (fun q => fp3 w (.addf q))
  | 0x1 => qual Qual.vaxArith w (fun q => fp3 w (.subf q))
  | 0x2 => qual Qual.vaxArith w (fun q => fp3 w (.mulf q))
  | 0x3 => qual Qual.vaxArith w (fun q => fp3 w (.divf q))
  | 0x1e => qual Qual.vaxArith w (fun q => fp1 none w (.cvtdg q))
  | 0x20 => qual Qual.vaxArith w (fun q => fp3 w (.addg q))
  | 0x21 => qual Qual.vaxArith w (fun q => fp3 w (.subg q))
  | 0x22 => qual Qual.vaxArith w (fun q => fp3 w (.mulg q))
  | 0x23 => qual Qual.vaxArith w (fun q => fp3 w (.divg q))
  | 0x25 => qual Qual.vaxCompare w (fun q => fp3 w (.cmpgeq q))
  | 0x26 => qual Qual.vaxCompare w (fun q => fp3 w (.cmpglt q))
  | 0x27 => qual Qual.vaxCompare w (fun q => fp3 w (.cmpgle q))
  | 0x2c => qual Qual.vaxArith w (fun q => fp1 none w (.cvtgf q))
  | 0x2d => qual Qual.vaxArith w (fun q => fp1 none w (.cvtgd q))
  | 0x2f => qual Qual.vaxArith w (fun q => fp1 none w (.cvtgq q))
  | 0x3c => qual Qual.vaxFromInt w (fun q => fp1 none w (.cvtqf q))
  | 0x3e => qual Qual.vaxFromInt w (fun q => fp1 none w (.cvtqg q))
  | _ => .reserved

/-- Opcode 0x16, IEEE floating (R319). CVTST has fixed functions (R307, R316). -/
def ieee (w : IWord) : Decoded :=
  match w.fn6.toNat with
  | 0x0 => qual Qual.ieeeArith w (fun q => fp3 w (.adds q))
  | 0x1 => qual Qual.ieeeArith w (fun q => fp3 w (.subs q))
  | 0x2 => qual Qual.ieeeArith w (fun q => fp3 w (.muls q))
  | 0x3 => qual Qual.ieeeArith w (fun q => fp3 w (.divs q))
  | 0x20 => qual Qual.ieeeArith w (fun q => fp3 w (.addt q))
  | 0x21 => qual Qual.ieeeArith w (fun q => fp3 w (.subt q))
  | 0x22 => qual Qual.ieeeArith w (fun q => fp3 w (.mult q))
  | 0x23 => qual Qual.ieeeArith w (fun q => fp3 w (.divt q))
  | 0x24 => qual Qual.ieeeCompare w (fun q => fp3 w (.cmptun q))
  | 0x25 => qual Qual.ieeeCompare w (fun q => fp3 w (.cmpteq q))
  | 0x26 => qual Qual.ieeeCompare w (fun q => fp3 w (.cmptlt q))
  | 0x27 => qual Qual.ieeeCompare w (fun q => fp3 w (.cmptle q))
  | 0x2c => if w.fn11 = 0x2AC then fp1 none w (.cvtst false)
    else if w.fn11 = 0x6AC then fp1 none w (.cvtst true)
    else qual Qual.ieeeArith w (fun q => fp1 none w (.cvtts q))
  | 0x2f => qual Qual.ieeeArith w (fun q => fp1 none w (.cvttq q))
  | 0x3c => qual Qual.ieeeFromInt w (fun q => fp1 none w (.cvtqs q))
  | 0x3e => qual Qual.ieeeFromInt w (fun q => fp1 none w (.cvtqt q))
  | _ => .reserved

/-- Opcode 0x17, floating miscellany (R319). -/
def fpMisc (w : IWord) : Decoded :=
  match w.fn11.toNat with
  | 0x10 => fp1 none w .cvtlq
  | 0x20 => fp3 w .cpys
  | 0x21 => fp3 w .cpysn
  | 0x22 => fp3 w .cpyse
  | 0x24 => fp3 w .mtFpcr
  | 0x25 => fp3 w .mfFpcr
  | 0x2a => fp3 w .fcmoveq
  | 0x2b => fp3 w .fcmovne
  | 0x2c => fp3 w .fcmovlt
  | 0x2d => fp3 w .fcmovge
  | 0x2e => fp3 w .fcmovle
  | 0x2f => fp3 w .fcmovgt
  | 0x30 => fp1 none w (.cvtql .none)
  | 0x130 => fp1 none w (.cvtql .u)
  | 0x530 => fp1 none w (.cvtql .su)
  | _ => .reserved

/-- Opcode 0x18, the miscellaneous instructions (R303, R319). -/
def miscOp (w : IWord) : Decoded :=
  match w.disp16.toNat with
  | 0x0 => misc w .trapb
  | 0x400 => misc w .excb
  | 0x4000 => misc w .mb
  | 0x4400 => misc w .wmb
  | 0x8000 => misc w .fetch
  | 0xa000 => misc w .fetchM
  | 0xc000 => misc w .rpcc
  | 0xe000 => misc w .rc
  | 0xe800 => misc w .ecb
  | 0xf000 => misc w .rs
  | 0xf800 => misc w .wh64
  | 0xfc00 => misc w .wh64en
  | _ => .reserved

/-- Opcode 0x1A, the jumps (R304). -/
def jump (w : IWord) : Decoded :=
  match w.jumpFn.toNat with
  | 0 => .instr (.jmp w.ra w.rb w.hint)
  | 1 => .instr (.jsr w.ra w.rb w.hint)
  | 2 => .instr (.ret w.ra w.rb w.hint)
  | _ => .instr (.jsrCoroutine w.ra w.rb w.hint)

/-- HW_MFPR and HW_MTPR: `rb` must be 31 (R310). -/
def hwpr (w : IWord) (k : Reg → BitVec 16 → Instr) : Decoded :=
  if w.rb = 31 then .instr (k w.ra w.disp16) else .reserved

/-- HW_LD and HW_ST: PHYS must be 1 and bits 14:13 must be 0 (R310). -/
def hwmem (w : IWord) (k : Reg → Reg → Bool → BitVec 12 → Instr) : Decoded :=
  if w.bits15to13 = 4 then .instr (k w.ra w.rb w.isLit w.disp12) else .reserved

end Decode

open Decode in
/-- The decoder: the fixed 64-entry table of 30_encoding.md R311. -/
def decode (w : IWord) : Decoded :=
  match w.opcode.toNat with
  | 0x00 => .instr (.callPal w.palFn)
  | 0x8 => mem w .lda
  | 0x9 => mem w .ldah
  | 0xa => mem w .ldbu
  | 0xb => mem w .ldqU
  | 0xc => mem w .ldwu
  | 0xd => mem w .stw
  | 0xe => mem w .stb
  | 0xf => mem w .stqU
  | 0x10 => arith w
  | 0x11 => logical w
  | 0x12 => shift w
  | 0x13 => mul w
  | 0x14 => itfp w
  | 0x15 => vax w
  | 0x16 => ieee w
  | 0x17 => fpMisc w
  | 0x18 => miscOp w
  | 0x19 => hwpr w .hwMfpr
  | 0x1a => Decode.jump w
  | 0x1b => hwmem w .hwLd
  | 0x1c => Decode.ext w
  | 0x1d => hwpr w .hwMtpr
  | 0x1e => if w = 0x78000000 then .instr .hwRei else .reserved
  | 0x1f => hwmem w .hwSt
  | 0x20 => mem w .ldf
  | 0x21 => mem w .ldg
  | 0x22 => mem w .lds
  | 0x23 => mem w .ldt
  | 0x24 => mem w .stf
  | 0x25 => mem w .stg
  | 0x26 => mem w .sts
  | 0x27 => mem w .stt
  | 0x28 => mem w .ldl
  | 0x29 => mem w .ldq
  | 0x2a => mem w .ldlL
  | 0x2b => mem w .ldqL
  | 0x2c => mem w .stl
  | 0x2d => mem w .stq
  | 0x2e => mem w .stlC
  | 0x2f => mem w .stqC
  | 0x30 => bra w .br
  | 0x31 => bra w .fbeq
  | 0x32 => bra w .fblt
  | 0x33 => bra w .fble
  | 0x34 => bra w .bsr
  | 0x35 => bra w .fbne
  | 0x36 => bra w .fbge
  | 0x37 => bra w .fbgt
  | 0x38 => bra w .blbc
  | 0x39 => bra w .beq
  | 0x3a => bra w .blt
  | 0x3b => bra w .ble
  | 0x3c => bra w .blbs
  | 0x3d => bra w .bne
  | 0x3e => bra w .bge
  | 0x3f => bra w .bgt
  | _ => .reserved

/-- The word that four bytes of memory hold, the first at the lowest address (R300, 20_memory.md R150). -/
def wordOfBytes (b0 b1 b2 b3 : Byte) : IWord := b3 ++ b2 ++ b1 ++ b0

/-- Byte `k` of a word as the hardware stores it (R300). -/
def byteOfWord (w : IWord) (k : Nat) : Byte := w.extractLsb' (8 * k) 8

/-- The decoder on an instruction's four bytes. -/
def decodeBytes (b0 b1 b2 b3 : Byte) : Decoded := decode (wordOfBytes b0 b1 b2 b3)

/-- The instruction the decoder reads from an instruction whose bits are `w`, none where it gives no instruction. Every
instruction is one 32-bit word (R300), so the bits above `nbits` are taken as zero up to 32. -/
def decodeTableWord (nbits w : Nat) : Option Instr :=
  let v : IWord := BitVec.ofNat 32 (w % 2 ^ nbits)
  match decodeBytes (byteOfWord v 0) (byteOfWord v 1) (byteOfWord v 2) (byteOfWord v 3) with
  | .instr i => some i
  | .reserved => none
  | .refused _ => none

/-! The encoder. -/

namespace Encode

/-- The memory format (R302), also opcode 0x18 (R303) and HW_MFPR, HW_MTPR (R310). -/
def mem (op : BitVec 6) (ra rb : Reg) (d : BitVec 16) : IWord := op ++ ra ++ rb ++ d

/-- The branch format (R305). -/
def bra (op : BitVec 6) (ra : Reg) (d : BitVec 21) : IWord := op ++ ra ++ d

/-- The jump format (R304). -/
def jump (fn : BitVec 2) (ra rb : Reg) (h : BitVec 14) : IWord := (0x1A : BitVec 6) ++ ra ++ rb ++ fn ++ h

/-- The integer operate format (R306). -/
def opr (op : BitVec 6) (fn : BitVec 7) (ra : Reg) (o : Operand) (rc : Reg) : IWord :=
  match o with
  | .reg rb => op ++ ra ++ rb ++ (0 : BitVec 3) ++ (0 : BitVec 1) ++ fn ++ rc
  | .lit v => op ++ ra ++ v ++ (1 : BitVec 1) ++ fn ++ rc

/-- The floating operate format with an 11-bit function (R307). -/
def fp (op : BitVec 6) (fn : BitVec 11) (fa fb fc : Reg) : IWord := op ++ fa ++ fb ++ fn ++ fc

/-- The floating operate format by its qualifier sub-fields: trap, rounding, source and operation (R307). -/
def fpq (op : BitVec 6) (q : Qual) (fn : BitVec 6) (fa fb fc : Reg) : IWord :=
  op ++ fa ++ fb ++ q.trap.bits ++ q.rnd.bits ++ fn ++ fc

/-- HW_LD and HW_ST (R310). -/
def hwmem (op : BitVec 6) (ra rb : Reg) (quad : Bool) (d : BitVec 12) : IWord :=
  op ++ ra ++ rb ++ (4 : BitVec 3) ++ BitVec.ofBool quad ++ d

end Encode

open Encode in
/-- The word of a well-formed instruction (R315). Of an ill-formed one it is a word that decodes to something else. -/
def encode (i : Instr) : IWord :=
  match i with
  | .callPal fn => (0 : BitVec 6) ++ fn
  | .lda ra rb disp => Encode.mem 0x8 ra rb disp
  | .ldah ra rb disp => Encode.mem 0x9 ra rb disp
  | .ldbu ra rb disp => Encode.mem 0xa ra rb disp
  | .ldqU ra rb disp => Encode.mem 0xb ra rb disp
  | .ldwu ra rb disp => Encode.mem 0xc ra rb disp
  | .stw ra rb disp => Encode.mem 0xd ra rb disp
  | .stb ra rb disp => Encode.mem 0xe ra rb disp
  | .stqU ra rb disp => Encode.mem 0xf ra rb disp
  | .ldf ra rb disp => Encode.mem 0x20 ra rb disp
  | .ldg ra rb disp => Encode.mem 0x21 ra rb disp
  | .lds ra rb disp => Encode.mem 0x22 ra rb disp
  | .ldt ra rb disp => Encode.mem 0x23 ra rb disp
  | .stf ra rb disp => Encode.mem 0x24 ra rb disp
  | .stg ra rb disp => Encode.mem 0x25 ra rb disp
  | .sts ra rb disp => Encode.mem 0x26 ra rb disp
  | .stt ra rb disp => Encode.mem 0x27 ra rb disp
  | .ldl ra rb disp => Encode.mem 0x28 ra rb disp
  | .ldq ra rb disp => Encode.mem 0x29 ra rb disp
  | .ldlL ra rb disp => Encode.mem 0x2a ra rb disp
  | .ldqL ra rb disp => Encode.mem 0x2b ra rb disp
  | .stl ra rb disp => Encode.mem 0x2c ra rb disp
  | .stq ra rb disp => Encode.mem 0x2d ra rb disp
  | .stlC ra rb disp => Encode.mem 0x2e ra rb disp
  | .stqC ra rb disp => Encode.mem 0x2f ra rb disp
  | .addl ra o rc => Encode.opr 0x10 0x0 ra o rc
  | .s4addl ra o rc => Encode.opr 0x10 0x2 ra o rc
  | .subl ra o rc => Encode.opr 0x10 0x9 ra o rc
  | .s4subl ra o rc => Encode.opr 0x10 0xb ra o rc
  | .cmpbge ra o rc => Encode.opr 0x10 0xf ra o rc
  | .s8addl ra o rc => Encode.opr 0x10 0x12 ra o rc
  | .s8subl ra o rc => Encode.opr 0x10 0x1b ra o rc
  | .cmpult ra o rc => Encode.opr 0x10 0x1d ra o rc
  | .addq ra o rc => Encode.opr 0x10 0x20 ra o rc
  | .s4addq ra o rc => Encode.opr 0x10 0x22 ra o rc
  | .subq ra o rc => Encode.opr 0x10 0x29 ra o rc
  | .s4subq ra o rc => Encode.opr 0x10 0x2b ra o rc
  | .cmpeq ra o rc => Encode.opr 0x10 0x2d ra o rc
  | .s8addq ra o rc => Encode.opr 0x10 0x32 ra o rc
  | .s8subq ra o rc => Encode.opr 0x10 0x3b ra o rc
  | .cmpule ra o rc => Encode.opr 0x10 0x3d ra o rc
  | .addlV ra o rc => Encode.opr 0x10 0x40 ra o rc
  | .sublV ra o rc => Encode.opr 0x10 0x49 ra o rc
  | .cmplt ra o rc => Encode.opr 0x10 0x4d ra o rc
  | .addqV ra o rc => Encode.opr 0x10 0x60 ra o rc
  | .subqV ra o rc => Encode.opr 0x10 0x69 ra o rc
  | .cmple ra o rc => Encode.opr 0x10 0x6d ra o rc
  | .and ra o rc => Encode.opr 0x11 0x0 ra o rc
  | .bic ra o rc => Encode.opr 0x11 0x8 ra o rc
  | .cmovlbs ra o rc => Encode.opr 0x11 0x14 ra o rc
  | .cmovlbc ra o rc => Encode.opr 0x11 0x16 ra o rc
  | .bis ra o rc => Encode.opr 0x11 0x20 ra o rc
  | .cmoveq ra o rc => Encode.opr 0x11 0x24 ra o rc
  | .cmovne ra o rc => Encode.opr 0x11 0x26 ra o rc
  | .ornot ra o rc => Encode.opr 0x11 0x28 ra o rc
  | .xor ra o rc => Encode.opr 0x11 0x40 ra o rc
  | .cmovlt ra o rc => Encode.opr 0x11 0x44 ra o rc
  | .cmovge ra o rc => Encode.opr 0x11 0x46 ra o rc
  | .eqv ra o rc => Encode.opr 0x11 0x48 ra o rc
  | .amask o rc => Encode.opr 0x11 0x61 31 o rc
  | .cmovle ra o rc => Encode.opr 0x11 0x64 ra o rc
  | .cmovgt ra o rc => Encode.opr 0x11 0x66 ra o rc
  | .implver o rc => Encode.opr 0x11 0x6c 31 o rc
  | .mskbl ra o rc => Encode.opr 0x12 0x2 ra o rc
  | .extbl ra o rc => Encode.opr 0x12 0x6 ra o rc
  | .insbl ra o rc => Encode.opr 0x12 0xb ra o rc
  | .mskwl ra o rc => Encode.opr 0x12 0x12 ra o rc
  | .extwl ra o rc => Encode.opr 0x12 0x16 ra o rc
  | .inswl ra o rc => Encode.opr 0x12 0x1b ra o rc
  | .mskll ra o rc => Encode.opr 0x12 0x22 ra o rc
  | .extll ra o rc => Encode.opr 0x12 0x26 ra o rc
  | .insll ra o rc => Encode.opr 0x12 0x2b ra o rc
  | .zap ra o rc => Encode.opr 0x12 0x30 ra o rc
  | .zapnot ra o rc => Encode.opr 0x12 0x31 ra o rc
  | .mskql ra o rc => Encode.opr 0x12 0x32 ra o rc
  | .srl ra o rc => Encode.opr 0x12 0x34 ra o rc
  | .extql ra o rc => Encode.opr 0x12 0x36 ra o rc
  | .sll ra o rc => Encode.opr 0x12 0x39 ra o rc
  | .insql ra o rc => Encode.opr 0x12 0x3b ra o rc
  | .sra ra o rc => Encode.opr 0x12 0x3c ra o rc
  | .mskwh ra o rc => Encode.opr 0x12 0x52 ra o rc
  | .inswh ra o rc => Encode.opr 0x12 0x57 ra o rc
  | .extwh ra o rc => Encode.opr 0x12 0x5a ra o rc
  | .msklh ra o rc => Encode.opr 0x12 0x62 ra o rc
  | .inslh ra o rc => Encode.opr 0x12 0x67 ra o rc
  | .extlh ra o rc => Encode.opr 0x12 0x6a ra o rc
  | .mskqh ra o rc => Encode.opr 0x12 0x72 ra o rc
  | .insqh ra o rc => Encode.opr 0x12 0x77 ra o rc
  | .extqh ra o rc => Encode.opr 0x12 0x7a ra o rc
  | .mull ra o rc => Encode.opr 0x13 0x0 ra o rc
  | .mulq ra o rc => Encode.opr 0x13 0x20 ra o rc
  | .umulh ra o rc => Encode.opr 0x13 0x30 ra o rc
  | .mullV ra o rc => Encode.opr 0x13 0x40 ra o rc
  | .mulqV ra o rc => Encode.opr 0x13 0x60 ra o rc
  | .sextb o rc => Encode.opr 0x1c 0x0 31 o rc
  | .sextw o rc => Encode.opr 0x1c 0x1 31 o rc
  | .ctpop o rc => Encode.opr 0x1c 0x30 31 o rc
  | .perr ra o rc => Encode.opr 0x1c 0x31 ra o rc
  | .ctlz o rc => Encode.opr 0x1c 0x32 31 o rc
  | .cttz o rc => Encode.opr 0x1c 0x33 31 o rc
  | .unpkbw o rc => Encode.opr 0x1c 0x34 31 o rc
  | .unpkbl o rc => Encode.opr 0x1c 0x35 31 o rc
  | .pkwb o rc => Encode.opr 0x1c 0x36 31 o rc
  | .pklb o rc => Encode.opr 0x1c 0x37 31 o rc
  | .minsb8 ra o rc => Encode.opr 0x1c 0x38 ra o rc
  | .minsw4 ra o rc => Encode.opr 0x1c 0x39 ra o rc
  | .minub8 ra o rc => Encode.opr 0x1c 0x3a ra o rc
  | .minuw4 ra o rc => Encode.opr 0x1c 0x3b ra o rc
  | .maxub8 ra o rc => Encode.opr 0x1c 0x3c ra o rc
  | .maxuw4 ra o rc => Encode.opr 0x1c 0x3d ra o rc
  | .maxsb8 ra o rc => Encode.opr 0x1c 0x3e ra o rc
  | .maxsw4 ra o rc => Encode.opr 0x1c 0x3f ra o rc
  | .ftoit fa rc => Encode.opr 0x1c 0x70 fa (.reg 31) rc
  | .ftois fa rc => Encode.opr 0x1c 0x78 fa (.reg 31) rc
  | .adds q fa fb fc => Encode.fpq 0x16 q 0x0 fa fb fc
  | .subs q fa fb fc => Encode.fpq 0x16 q 0x1 fa fb fc
  | .muls q fa fb fc => Encode.fpq 0x16 q 0x2 fa fb fc
  | .divs q fa fb fc => Encode.fpq 0x16 q 0x3 fa fb fc
  | .addt q fa fb fc => Encode.fpq 0x16 q 0x20 fa fb fc
  | .subt q fa fb fc => Encode.fpq 0x16 q 0x21 fa fb fc
  | .mult q fa fb fc => Encode.fpq 0x16 q 0x22 fa fb fc
  | .divt q fa fb fc => Encode.fpq 0x16 q 0x23 fa fb fc
  | .cmptun q fa fb fc => Encode.fpq 0x16 q 0x24 fa fb fc
  | .cmpteq q fa fb fc => Encode.fpq 0x16 q 0x25 fa fb fc
  | .cmptlt q fa fb fc => Encode.fpq 0x16 q 0x26 fa fb fc
  | .cmptle q fa fb fc => Encode.fpq 0x16 q 0x27 fa fb fc
  | .cvtts q fb fc => Encode.fpq 0x16 q 0x2c 31 fb fc
  | .cvttq q fb fc => Encode.fpq 0x16 q 0x2f 31 fb fc
  | .cvtqs q fb fc => Encode.fpq 0x16 q 0x3c 31 fb fc
  | .cvtqt q fb fc => Encode.fpq 0x16 q 0x3e 31 fb fc
  | .cvtst sw fb fc => Encode.fp 0x16 (bif sw then 0x6AC else 0x2AC) 31 fb fc
  | .addf q fa fb fc => Encode.fpq 0x15 q 0x0 fa fb fc
  | .subf q fa fb fc => Encode.fpq 0x15 q 0x1 fa fb fc
  | .mulf q fa fb fc => Encode.fpq 0x15 q 0x2 fa fb fc
  | .divf q fa fb fc => Encode.fpq 0x15 q 0x3 fa fb fc
  | .cvtdg q fb fc => Encode.fpq 0x15 q 0x1e 31 fb fc
  | .addg q fa fb fc => Encode.fpq 0x15 q 0x20 fa fb fc
  | .subg q fa fb fc => Encode.fpq 0x15 q 0x21 fa fb fc
  | .mulg q fa fb fc => Encode.fpq 0x15 q 0x22 fa fb fc
  | .divg q fa fb fc => Encode.fpq 0x15 q 0x23 fa fb fc
  | .cmpgeq q fa fb fc => Encode.fpq 0x15 q 0x25 fa fb fc
  | .cmpglt q fa fb fc => Encode.fpq 0x15 q 0x26 fa fb fc
  | .cmpgle q fa fb fc => Encode.fpq 0x15 q 0x27 fa fb fc
  | .cvtgf q fb fc => Encode.fpq 0x15 q 0x2c 31 fb fc
  | .cvtgd q fb fc => Encode.fpq 0x15 q 0x2d 31 fb fc
  | .cvtgq q fb fc => Encode.fpq 0x15 q 0x2f 31 fb fc
  | .cvtqf q fb fc => Encode.fpq 0x15 q 0x3c 31 fb fc
  | .cvtqg q fb fc => Encode.fpq 0x15 q 0x3e 31 fb fc
  | .itofs ra fc => Encode.fp 0x14 0x4 ra 31 fc
  | .itoff ra fc => Encode.fp 0x14 0x14 ra 31 fc
  | .itoft ra fc => Encode.fp 0x14 0x24 ra 31 fc
  | .sqrtf q fb fc => Encode.fpq 0x14 q 0xa 31 fb fc
  | .sqrtg q fb fc => Encode.fpq 0x14 q 0x2a 31 fb fc
  | .sqrts q fb fc => Encode.fpq 0x14 q 0xb 31 fb fc
  | .sqrtt q fb fc => Encode.fpq 0x14 q 0x2b 31 fb fc
  | .cvtlq fb fc => Encode.fp 0x17 0x10 31 fb fc
  | .cpys fa fb fc => Encode.fp 0x17 0x20 fa fb fc
  | .cpysn fa fb fc => Encode.fp 0x17 0x21 fa fb fc
  | .cpyse fa fb fc => Encode.fp 0x17 0x22 fa fb fc
  | .mtFpcr fa fb fc => Encode.fp 0x17 0x24 fa fb fc
  | .mfFpcr fa fb fc => Encode.fp 0x17 0x25 fa fb fc
  | .fcmoveq fa fb fc => Encode.fp 0x17 0x2a fa fb fc
  | .fcmovne fa fb fc => Encode.fp 0x17 0x2b fa fb fc
  | .fcmovlt fa fb fc => Encode.fp 0x17 0x2c fa fb fc
  | .fcmovge fa fb fc => Encode.fp 0x17 0x2d fa fb fc
  | .fcmovle fa fb fc => Encode.fp 0x17 0x2e fa fb fc
  | .fcmovgt fa fb fc => Encode.fp 0x17 0x2f fa fb fc
  | .cvtql tr fb fc => Encode.fpq 0x17 ⟨tr, .chopped⟩ 0x30 31 fb fc
  | .trapb ra rb => Encode.mem 0x18 ra rb 0x0
  | .excb ra rb => Encode.mem 0x18 ra rb 0x400
  | .mb ra rb => Encode.mem 0x18 ra rb 0x4000
  | .wmb ra rb => Encode.mem 0x18 ra rb 0x4400
  | .fetch ra rb => Encode.mem 0x18 ra rb 0x8000
  | .fetchM ra rb => Encode.mem 0x18 ra rb 0xa000
  | .rpcc ra rb => Encode.mem 0x18 ra rb 0xc000
  | .rc ra rb => Encode.mem 0x18 ra rb 0xe000
  | .ecb ra rb => Encode.mem 0x18 ra rb 0xe800
  | .rs ra rb => Encode.mem 0x18 ra rb 0xf000
  | .wh64 ra rb => Encode.mem 0x18 ra rb 0xf800
  | .wh64en ra rb => Encode.mem 0x18 ra rb 0xfc00
  | .jmp ra rb hint => Encode.jump 0 ra rb hint
  | .jsr ra rb hint => Encode.jump 1 ra rb hint
  | .ret ra rb hint => Encode.jump 2 ra rb hint
  | .jsrCoroutine ra rb hint => Encode.jump 3 ra rb hint
  | .br ra disp => Encode.bra 0x30 ra disp
  | .fbeq ra disp => Encode.bra 0x31 ra disp
  | .fblt ra disp => Encode.bra 0x32 ra disp
  | .fble ra disp => Encode.bra 0x33 ra disp
  | .bsr ra disp => Encode.bra 0x34 ra disp
  | .fbne ra disp => Encode.bra 0x35 ra disp
  | .fbge ra disp => Encode.bra 0x36 ra disp
  | .fbgt ra disp => Encode.bra 0x37 ra disp
  | .blbc ra disp => Encode.bra 0x38 ra disp
  | .beq ra disp => Encode.bra 0x39 ra disp
  | .blt ra disp => Encode.bra 0x3a ra disp
  | .ble ra disp => Encode.bra 0x3b ra disp
  | .blbs ra disp => Encode.bra 0x3c ra disp
  | .bne ra disp => Encode.bra 0x3d ra disp
  | .bge ra disp => Encode.bra 0x3e ra disp
  | .bgt ra disp => Encode.bra 0x3f ra disp
  | .hwMfpr ra index => Encode.mem 0x19 ra 31 index
  | .hwLd ra rb quad disp => Encode.hwmem 0x1b ra rb quad disp
  | .hwMtpr ra index => Encode.mem 0x1d ra 31 index
  | .hwRei => 0x78000000
  | .hwSt ra rb quad disp => Encode.hwmem 0x1f ra rb quad disp

end Sys2Proof
end

