-- ==== Sys2Proof/Machine/PalEntry.lean ====
section
/-! DEFINITION. The exception classes and the PAL entry addresses (60_exceptions.md R800, 44_misc_pal.md R723). They stand
before State because the reset PC is one of them (70_reset_and_hazards.md R901). -/

namespace Sys2Proof.Machine

/-- The exception classes (60_exceptions.md R800). An MM_FAULT of an instruction fetch has an entry of its own under
`OPEN_EV6` (the `kind` of R723). -/
inductive ExcClass where
  | reset | mchk | arith | interrupt | mmData | mmFetch | opcdec | priv | fen
  deriving DecidableEq, Repr

/-- The class codes of 60_exceptions.md R800. -/
def ExcClass.code (c : ExcClass) : BitVec 8 :=
  match c with
  | .reset => 0x40
  | .mchk => 0x41
  | .arith => 0x42
  | .interrupt => 0x43
  | .mmData => 0x44
  | .mmFetch => 0x44
  | .opcdec => 0x45
  | .priv => 0x46
  | .fen => 0x47

/-- The `OPEN_EV6` offsets (44_misc_pal.md R723). -/
def ExcClass.ev6Offset (c : ExcClass) : Word :=
  match c with
  | .reset => 0x780
  | .mchk => 0x500
  | .arith => 0x600
  | .interrupt => 0x680
  | .mmData => 0x380
  | .mmFetch => 0x480
  | .opcdec => 0x400
  | .priv => 0x400
  | .fen => 0x200

/-- `pal_entry_exc(code, kind)` (44_misc_pal.md R723). -/
def palEntryExc (scheme : PalScheme) (palBase : Word) (c : ExcClass) : Word :=
  match scheme with
  | .linear => palBase + 64 * c.code.setWidth 64
  | .openEv6 => palBase + c.ev6Offset

/-- A privileged CALL_PAL function: 0x00..0x3F (44_misc_pal.md R721). -/
def palPrivileged (fn : BitVec 26) : Bool := decide (fn.toNat < 0x40)

/-- A legal CALL_PAL function: 0x00..0x3F or 0x80..0xBF (44_misc_pal.md R722). -/
def palLegal (fn : BitVec 26) : Bool :=
  palPrivileged fn || (decide (0x80 ≤ fn.toNat) && decide (fn.toNat ≤ 0xBF))

/-- `pal_entry_call(fn)` (44_misc_pal.md R723). -/
def palEntryCall (scheme : PalScheme) (palBase : Word) (fn : BitVec 26) : Word :=
  match scheme with
  | .linear => palBase + 64 * fn.setWidth 64
  | .openEv6 =>
    palBase + (if palPrivileged fn then 0x2000 else 0x3000) + 64 * (fn.extractLsb' 0 6).setWidth 64

end Sys2Proof.Machine
end

