-- ==== Sys2Proof/Machine/State.lean ====
section
/-! DEFINITION. The state of the machine (10_state.md), the reasons a step can stop, and reset (70_reset_and_hazards.md
R900). Everything is plain data; INVENTORY.md lists each field with its rule and its reset value. -/

namespace Sys2Proof.Machine

/-- The pending arithmetic trap `pend = (valid, sum, mask)` (60_exceptions.md R820). -/
structure Pend where
  valid : Bool
  sum : Word
  mask : Word
  deriving DecidableEq, Repr

/-- An interrupt request of the set `IRQ` (60_exceptions.md R835). -/
structure Irq where
  vector : BitVec 16
  ipl : BitVec 5
  deriving DecidableEq, Repr

/-- An entry of the store buffer `SB` (20_memory.md R170): the bytes of a store from physical address `pa` up, or a
`wmb` marker. -/
inductive SbEntry where
  | store (pa : Nat) (bytes : List Byte)
  | wmb
  deriving DecidableEq, Repr

/-- The TLB invalidation commands (20_memory.md R225). -/
inductive TbiCmd where
  | tbia
  | tbiap
  | tbis (va : Word)
  | tbisi (va : Word)
  | tbisd (va : Word)
  | tbiar (va : Word)
  deriving DecidableEq, Repr

/-- A valid TLB entry (20_memory.md R209, R210): `tag` is `va[63:shift]`, `base` the physical page base, `perms` the
enables `leaf[15:8]`, `fo` the fault-on bits `leaf[3:1]`. `set` is the set it was filled into (R222). `dirty` and
`referenced` have no effect: no rule reads or sets them (R209; log 39). -/
structure TlbEntry where
  set : Nat
  tag : Nat
  asn : BitVec 8
  global : Bool
  base : Word
  perms : BitVec 8
  fo : BitVec 3
  shift : Nat
  dirty : Bool
  referenced : Bool
  deriving DecidableEq, Repr

/-- A TLB: its valid entries and its statistics (10_state.md R71, R73). -/
structure Tlb where
  entries : List TlbEntry
  hits : Word
  misses : Word
  deriving DecidableEq, Repr

/-- The states of a listed cache line (20_memory.md R265); a line that is not listed is Invalid. -/
inductive Mesi where
  | modified | exclusive | shared
  deriving DecidableEq, Repr

/-- Cache line metadata (20_memory.md R265): the line number (physical address divided by the line size, the tag and set
index together), its state, and the reference counter. dirty is `state = modified`, valid is being listed. -/
structure Line where
  line : Nat
  state : Mesi
  refs : Nat
  deriving DecidableEq, Repr

/-- A cache: its valid lines, the most recently used first (20_memory.md R260). -/
structure Cache where
  lines : List Line
  deriving DecidableEq, Repr

/-- An attached MMIO region `[start, stop]` (10_state.md R75); `dev` names its handler. -/
structure MmioRegion where
  start : Nat
  stop : Nat
  dev : Nat
  deriving DecidableEq, Repr

/-- A call of an MMIO handler (20_memory.md R243): a read, or a write with its value. -/
structure MmioCall where
  dev : Nat
  off : Nat
  size : Nat
  write : Option Word
  deriving DecidableEq, Repr

/-- The state of one guest CPU (10_state.md sections 1 to 8; 60_exceptions.md R859). R31 and F31 have no storage. -/
structure Cpu where
  whami : BitVec 16
  regs : Vector Word 31
  fregs : Vector Word 31
  pc : Word
  ps : Word
  fpcr : Word
  excAddr : Word
  excPs : Word
  palBase : Word
  mmStat : Word
  va : Word
  ptbr : Word
  pcbb : Word
  itbAsn : Word
  dtbAsn : Word
  unique : Word
  intid : Word
  excSum : Word
  excMask : Word
  cc : Word
  mmuCtl : Word
  mces : Word
  lockFlag : Bool
  lockLine : Word
  intrFlag : Bool
  halted : Bool
  sleeping : Bool
  haltReq : Bool
  palBaseLocked : Bool
  pend : Pend
  irq : List Irq
  sb : List SbEntry
  tbiIn : List TbiCmd
  itb : Tlb
  dtb : Tlb
  icache : Cache
  l1d : Cache
  icHist : List (List Host.Cell)
  deriving DecidableEq, Repr

/-- The state of the machine: the launch parameters, the CPU whose boundary step is next, the other CPUs in the order of
their numbers, and what they share (10_state.md section 9). `mem` is the memory that is written, `rom` the contents of the ROM, which
never change (R74). `N_CPU` is `peers.length + 1`. -/
structure State where
  cfg : Params
  cpu : Cpu
  peers : List Cpu
  mem : List Host.Cell
  rom : List Host.Cell
  regions : List MmioRegion
  mmioLog : List MmioCall
  l2 : List Cache
  l3 : Cache
  draws : Nat
  deriving DecidableEq, Repr

/-- The host errors of 00_scope.md R9: calls of the host interface that fail and change no state. `step` raises none of
them: every fault of the guest is an exception that enters PAL (60_exceptions.md R830). -/
inductive Fault where
  /-- The launch parameters are inconsistent, an unsupported page size among them, or an image is not in the range it is loaded
  to (00_scope.md R7, R9). Raised by `launch`. Safe: no machine is made. -/
  | inconsistentConfig
  /-- `inject_interrupt` names no CPU (70_reset_and_hazards.md R932), or a halt request does, of which 60_exceptions.md R852 does not
  speak (DESIGN CHOICE, log 32). Raised by `injectInterrupt` and `requestHalt`. Safe: the call changes nothing. -/
  | noSuchCpu
  /-- `attach_mmio` with `start` > `end` or `end` ≥ 2^48 (70_reset_and_hazards.md R933). Raised by `attachMmio` and by
  `launch`. Safe. -/
  | badRegion
  /-- `attach_mmio` of a region that overlaps another (70_reset_and_hazards.md R933). Raised by `attachMmio`
  and by `launch`. Safe. -/
  | overlappingRegion
  /-- `restore` of a malformed blob (70_reset_and_hazards.md R961). Raised by `restore`. Safe. -/
  | malformedSnapshot
  /-- The host has not the memory for the machine or for the state of a blob (00_scope.md R9, 60_exceptions.md R843). Raised by
  `launch` and `restore`, where their argument says so (log 44). Safe: no machine is made, none changes. -/
  | outOfMemory
  deriving DecidableEq, Repr

/-- The words the spec gives no meaning and calls `refused` (00_scope.md R14, 30_encoding.md R312). -/
inductive Refusal where
  /-- An instruction whose meaning this model does not have yet. Raised by an arm of `exec`. Safe. -/
  | notModelled (mnemonic : String)
  /-- WH64 (44_misc_pal.md R711). Raised by its meaning, in every state. Safe: the spec says a model stops on it. -/
  | wh64
  /-- WH64EN (44_misc_pal.md R711). Raised by its meaning, in every state. Safe: the spec says a model stops on it. -/
  | wh64en
  /-- A word that would decode to an instruction but for a should-be field (30_encoding.md R312). Raised by the boundary
  step. Safe: the spec gives the word no meaning. -/
  | shouldBeField
  deriving DecidableEq, Repr

/-- PS right after reset (10_state.md R57): PAL mode, Kernel, IE = 0, FEN = 0, IPL 31. -/
def Cpu.resetPs : Word := 0x1F20

/-- CPU `n` right after reset with the parameters `p` (70_reset_and_hazards.md R900, R901). The registers, `lockLine` and
CC have no value there: 0 (log 1, log 2) and the draw `Config.ccReset` (log 3). -/
def Cpu.reset (p : Params) (n : BitVec 16) : Cpu where
  whami := n
  regs := Vector.replicate 31 0
  fregs := Vector.replicate 31 0
  pc := palEntryExc p.palScheme p.palBaseReset .reset
  ps := Cpu.resetPs
  fpcr := 0
  excAddr := 0
  excPs := 0
  palBase := p.palBaseReset
  mmStat := 0
  va := 0
  ptbr := 0
  pcbb := 0
  itbAsn := 0
  dtbAsn := 0
  unique := 0
  intid := 0
  excSum := 0
  excMask := 0
  cc := Config.ccReset
  mmuCtl := 0
  mces := 0
  lockFlag := false
  lockLine := 0
  intrFlag := false
  halted := false
  sleeping := false
  haltReq := false
  palBaseLocked := false
  pend := ⟨false, 0, 0⟩
  irq := []
  sb := []
  tbiIn := []
  itb := ⟨[], 0, 0⟩
  dtb := ⟨[], 0, 0⟩
  icache := ⟨[]⟩
  l1d := ⟨[]⟩
  icHist := []

/-- Reset of a machine of `nCpu` CPUs (at least one) with the parameters `p`, the RAM image `image`, the ROM image `rom`
and the MMIO regions `rs` (70_reset_and_hazards.md R900, R903). `launch` checks them first (R905). -/
def State.resetWith (p : Params) (nCpu : Nat) (image rom : List Host.Cell) (rs : List MmioRegion) : State where
  cfg := p
  cpu := Cpu.reset p 0
  peers := (List.range (nCpu - 1)).map fun i => Cpu.reset p (BitVec.ofNat 16 (i + 1))
  mem := image
  rom := rom
  regions := rs
  mmioLog := []
  l2 := List.replicate ((nCpu + p.clusterSize - 1) / p.clusterSize) ⟨[]⟩
  l3 := ⟨[]⟩
  draws := 0

/-- The machine right after reset: one CPU, the parameters of `Params.default`, no image loaded, no region attached (log 4,
log 6). -/
def State.reset : State := State.resetWith Params.default 1 [] [] []

end Sys2Proof.Machine
end

