-- ==== Sys2Proof/Machine/Bytes.lean ====
section
/-! DEFINITION. Byte order, bit fields, and the physical memory as a canonical list of cells (20_memory.md section 1,
10_state.md R74). -/

namespace Sys2Proof.Machine

/-- `zext_1`: a truth value as the word 0 or 1 (00_scope.md R10). -/
def ofBool (b : Bool) : Word := (BitVec.ofBool b).setWidth 64

/-- `sext_32` of the low half of a word (00_scope.md R10). -/
def sext32 (v : Word) : Word := (v.setWidth 32).signExtend 64

/-- The `n` bytes of a value, the least significant first (20_memory.md R150). -/
def bytesOf (n : Nat) (v : Word) : List Byte := (List.range n).map fun k => v.extractLsb' (8 * k) 8

/-- The value of bytes in memory order, zero-extended (20_memory.md R150). -/
def ofBytes : List Byte → Word
  | [] => 0
  | b :: bs => (ofBytes bs <<< 8) ||| b.setWidth 64

/-- What a byte of memory that nothing has written reads as (70_reset_and_hazards.md R900: "bytes the host did not load
are 0"; for ROM a DESIGN CHOICE, log 5). -/
def unlistedByte : Byte := 0

/-- The byte at a physical address. -/
def Memory.get : List Host.Cell → Nat → Byte
  | [], _ => unlistedByte
  | (b, v) :: m, a => if a = b then v else Memory.get m a

/-- Write one byte, keeping the canonical form. -/
def Memory.set : List Host.Cell → Nat → Byte → List Host.Cell
  | [], a, v => if v = unlistedByte then [] else [(a, v)]
  | (b, w) :: m, a, v =>
    if a < b then (if v = unlistedByte then (b, w) :: m else (a, v) :: (b, w) :: m)
    else if a = b then (if v = unlistedByte then m else (a, v) :: m)
    else (b, w) :: Memory.set m a v

/-- Write consecutive bytes from address `a` up. -/
def Memory.setBytes (m : List Host.Cell) (a : Nat) : List Byte → List Host.Cell
  | [] => m
  | b :: bs => Memory.setBytes (Memory.set m a b) (a + 1) bs

/-- Read `n` consecutive bytes from address `a` up. -/
def Memory.getBytes (m : List Host.Cell) (a n : Nat) : List Byte :=
  (List.range n).map fun k => Memory.get m (a + k)

/-- The canonical form: addresses strictly rising, no entry equal to what an unlisted address reads as. -/
def Memory.wf : List Host.Cell → Bool
  | [] => true
  | (a, v) :: m => v != unlistedByte && m.all (fun c => decide (a < c.1)) && Memory.wf m

/-- The cells from address `a` up that `n` bytes occupy, as they are now: what an undo of a store needs. -/
def Memory.cells (m : List Host.Cell) (a n : Nat) : List Host.Cell :=
  (List.range n).map fun k => (a + k, Memory.get m (a + k))

end Sys2Proof.Machine
end

