-- ==== Sys2Proof/Machine/Flags.lean ====
section
/-! DEFINITION. The fields of PS (10_state.md R57, R58), of the FPCR (R60 to R62) and of MM_STAT (R69), and the arithmetic
trap conditions (43_float.md R605, R606; 60_exceptions.md R821). There are no integer condition codes (10_state.md R76). -/

namespace Sys2Proof.Machine

/-! PS. -/

/-- The bits of PS that exist: CM 4:3, PALM 5, IE 6, FEN 7, IPL 12:8, ASTPEND 19:16 (10_state.md R57). -/
def psMask : Word := 0xF1FF8

/-- PS.PALM. -/
def psPalm : Word := 0x20

/-- PS.CM (4:3): 0 Kernel, 1 Executive, 2 Supervisor, 3 User. -/
def Ps.cm (ps : Word) : BitVec 2 := ps.extractLsb' 3 2

/-- PS.PALM: PAL mode. -/
def Ps.pal (ps : Word) : Bool := ps.getLsbD 5

/-- PS.IE. -/
def Ps.ie (ps : Word) : Bool := ps.getLsbD 6

/-- PS.FEN. -/
def Ps.fen (ps : Word) : Bool := ps.getLsbD 7

/-- PS.IPL. -/
def Ps.ipl (ps : Word) : BitVec 5 := ps.extractLsb' 8 5

/-- The privilege rank: User 0 < Supervisor 1 < Executive 2 < Kernel 3 < PAL 4 (10_state.md R58). -/
def Ps.rank (ps : Word) : Nat := if Ps.pal ps then 4 else 3 - (Ps.cm ps).toNat

/-! MM_STAT. -/

/-- The cause of an MM_FAULT: bits [6:1] of MM_STAT (10_state.md R69). -/
inductive MmCause where
  | acv | for_ | fow | foe | tnv | align
  deriving DecidableEq, Repr

/-- The bit of MM_STAT that records a cause (10_state.md R69). -/
def MmCause.bit (c : MmCause) : Word :=
  match c with
  | .acv => 0x02
  | .for_ => 0x04
  | .fow => 0x08
  | .foe => 0x10
  | .tnv => 0x20
  | .align => 0x40

/-- The three kinds of access (00_scope.md R12). -/
inductive Kind where
  | read | write | fetch
  deriving DecidableEq, Repr

/-- Who makes an access: its kind, and the RA field and opcode that MM_STAT records, 0 for a fetch (10_state.md R69). -/
structure Access where
  kind : Kind
  ra : Reg
  opcode : BitVec 6
  deriving DecidableEq, Repr

/-- The access of an instruction fetch. -/
def Access.fetch : Access := ⟨.fetch, 0, 0⟩

/-- MM_STAT of a fault: WR [0], the cause, IFETCH [7], RA [12:8], opcode [18:13] (10_state.md R69). -/
def mmStatOf (a : Access) (c : MmCause) : Word :=
  ofBool (decide (a.kind = .write)) ||| c.bit ||| (ofBool (decide (a.kind = .fetch)) <<< 7)
    ||| (a.ra.setWidth 64 <<< 8) ||| (a.opcode.setWidth 64 <<< 13)

/-! FPCR. -/

/-- The bits of the FPCR that are stored: 62:48 (10_state.md R60, R61). -/
def fpcrMask : Word := 0x7FFF000000000000

/-- FPCR.DYN (59:58). -/
def Fpcr.dyn (f : Word) : BitVec 2 := f.extractLsb' 58 2

/-- FPCR.UNFD. -/
def Fpcr.unfd (f : Word) : Bool := f.getLsbD 61

/-- FPCR.UNDZ. -/
def Fpcr.undz (f : Word) : Bool := f.getLsbD 60

/-- FPCR.DNZ. -/
def Fpcr.dnz (f : Word) : Bool := f.getLsbD 48

/-- FPCR as it is read: SUM (bit 63) is the OR of bits 57:52 (10_state.md R61). -/
def Fpcr.value (f : Word) : Word := f ||| (ofBool (decide (f.extractLsb' 52 6 ≠ 0)) <<< 63)

/-- The conditions INV, DZE, OVF, UNF, INE, IOV as bits 0 to 5: the order of FPCR bits 52 to 57 and of EXC_SUM bits 1 to 6
(43_float.md R605, 10_state.md R67). -/
abbrev Conds := BitVec 6

/-- No condition. -/
def Conds.none : Conds := 0
/-- Invalid operation. -/
def Conds.inv : Conds := 1
/-- Division by zero. -/
def Conds.dze : Conds := 2
/-- Overflow. -/
def Conds.ovf : Conds := 4
/-- Underflow. -/
def Conds.unf : Conds := 8
/-- Inexact. -/
def Conds.ine : Conds := 16
/-- Integer overflow. -/
def Conds.iov : Conds := 32

/-- A condition, if `b`. -/
def Conds.when (b : Bool) (c : Conds) : Conds := if b then c else Conds.none

/-- The sticky bits of the FPCR are set, never cleared (10_state.md R62). -/
def Fpcr.raise (f : Word) (c : Conds) : Word := f ||| (c.setWidth 64 <<< 52)

/-- /S of a trap qualifier (30_encoding.md R307). -/
def trapHasS (t : Trap) : Bool :=
  match t with
  | .s | .su | .sui => true
  | .none | .u => false

/-- The conditions a trap qualifier enables: INV, DZE and OVF always; UNF and IOV with /U or /V; INE with /I
(43_float.md R606). -/
def trapEnables (t : Trap) : Conds :=
  match t with
  | .none | .s => Conds.inv ||| Conds.dze ||| Conds.ovf
  | .u | .su => Conds.inv ||| Conds.dze ||| Conds.ovf ||| Conds.unf ||| Conds.iov
  | .sui => Conds.inv ||| Conds.dze ||| Conds.ovf ||| Conds.unf ||| Conds.iov ||| Conds.ine

/-- The conditions the FPCR disable bits name: INVD 49, DZED 50, OVFD 51, UNFD 61, INED 62 (10_state.md R60). -/
def Fpcr.disables (f : Word) : Conds :=
  Conds.when (f.getLsbD 49) Conds.inv ||| Conds.when (f.getLsbD 50) Conds.dze ||| Conds.when (f.getLsbD 51) Conds.ovf
    ||| Conds.when (f.getLsbD 61) Conds.unf ||| Conds.when (f.getLsbD 62) Conds.ine

/-- The raised conditions that trap: those enabled, but with /S not those the FPCR disables, unless the rules say they
always trap (`always`: the VAX reserved operand and overflow of 43_float.md R610; log 12). -/
def trapping (t : Trap) (f : Word) (raised always : Conds) : Conds :=
  raised &&& trapEnables t &&& (always ||| (if trapHasS t then ~~~Fpcr.disables f else 0x3F))

/-- EXC_SUM of trapping conditions: bits 6:1, and SWC (bit 0) with /S (10_state.md R67, 60_exceptions.md R821). -/
def excSumOf (t : Trap) (c : Conds) : Word := (c.setWidth 64 <<< 1) ||| ofBool (trapHasS t)

/-- EXC_MASK of an integer destination, set even for R31 (10_state.md R67, 60_exceptions.md R821). -/
def excMaskInt (rc : Reg) : Word := 1 <<< rc.toNat

/-- EXC_MASK of a floating destination, set even for F31. -/
def excMaskFp (fc : Reg) : Word := 1 <<< (32 + fc.toNat)

/-- A trapping instruction accumulates into the pending arithmetic trap (60_exceptions.md R821). -/
def Pend.record (p : Pend) (sum mask : Word) : Pend := ⟨true, p.sum ||| sum, p.mask ||| mask⟩

/-! Integer overflow of the /V instructions (40_integer.md R402 to R408, R469, R471). -/

/-- `exact ∉ [−2^31, 2^31 − 1]`. -/
def overflows32 (exact : Int) : Bool := decide (exact < -(2 ^ 31)) || decide (2 ^ 31 - 1 < exact)

/-- `exact ∉ [−2^63, 2^63 − 1]`. -/
def overflows64 (exact : Int) : Bool := decide (exact < -(2 ^ 63)) || decide (2 ^ 63 - 1 < exact)

end Sys2Proof.Machine
end

