-- ==== Sys2Proof/Machine/Cache.lean ====
section
/-! DEFINITION. The cache hierarchy (20_memory.md R260 to R268): metadata only. It is architecturally transparent (R261):
no value a guest reads depends on it. A cache's peers are the caches that are neither above nor below it (log 24). -/

namespace Sys2Proof.Machine

/-- Which first-level cache an access goes through (20_memory.md R260). -/
inductive L1 where
  | inst | data
  deriving DecidableEq, Repr

/-- `LINE_SIZE` (00_scope.md R7). -/
def Params.lineSize (p : Params) : Nat := 2 ^ p.lineLog2

/-- The line number of a physical address. -/
def Params.lineOf (p : Params) (pa : Nat) : Nat := pa / Params.lineSize p

/-- The line numbers that `n` bytes from `pa` up touch. -/
def Params.linesOf (p : Params) (pa n : Nat) : List Nat :=
  (List.range (Params.lineOf p (pa + (n - 1)) - Params.lineOf p pa + 1)).map (Params.lineOf p pa + ·)

/-- The line, if the cache holds it. -/
def Cache.line? (c : Cache) (ln : Nat) : Option Line := c.lines.find? fun l => l.line == ln

/-- Whether the cache holds the line. -/
def Cache.holds (c : Cache) (ln : Nat) : Bool := (Cache.line? c ln).isSome

/-- Invalidate a line (20_memory.md R263, R264, R266). -/
def Cache.drop (c : Cache) (ln : Nat) : Cache := ⟨c.lines.filter fun l => l.line != ln⟩

/-- Give a line the state `st`, if the cache holds it. -/
def Cache.mark (c : Cache) (ln : Nat) (st : Mesi) : Cache :=
  ⟨c.lines.map fun l => if l.line == ln then { l with state := st } else l⟩

/-- A line another cache comes to read: Modified or Exclusive becomes Shared (20_memory.md R262, R264). -/
def Cache.share (c : Cache) (ln : Nat) : Cache := Cache.mark c ln .shared

/-- The line has its Modified copy in a cache above, which is the only one, and no peer: it becomes Exclusive
(20_memory.md R263, R267). -/
def Cache.own (c : Cache) (ln : Nat) : Cache := Cache.mark c ln .exclusive

/-- Whether the cache holds the line Modified. -/
def Cache.dirty (c : Cache) (ln : Nat) : Bool := c.lines.any fun l => l.line == ln && l.state == .modified

/-- Every Modified line has been written back: it is Exclusive (20_memory.md R264, 70_reset_and_hazards.md R960). -/
def Cache.clean (c : Cache) : Cache :=
  ⟨c.lines.map fun l => if l.state = .modified then { l with state := .exclusive } else l⟩

/-- A hit: the line becomes the most recently used one (20_memory.md R262). -/
def Cache.touch (c : Cache) (l : Line) : Cache := ⟨{ l with refs := l.refs + 1 } :: (Cache.drop c l.line).lines⟩

/-- The line a fill of `ln` evicts: none while the set has room; else the least recently used line of the set, or with
policy `random` the one a draw names (20_memory.md R264). The draw is of the cache's `level` and the line filled, so that the
victims of one access do not depend on each other (DESIGN CHOICE, log 24). DESIGN CHOICE (log 24): R260 gives sets and ways and does
not say which set a line belongs to; it is the line's number modulo the sets. -/
def Cache.victim (g : CacheGeom) (c : Cache) (level ln draw : Nat) : Option Line :=
  let set := c.lines.filter fun l => l.line % g.sets == ln % g.sets
  if set.length < g.ways then none
  else
    match g.policy with
    | .lru => set.getLast?
    | .random => set[Config.cacheWay draw level ln % set.length]?

/-- Fill a line in a state. -/
def Cache.fill (c : Cache) (ln : Nat) (st : Mesi) : Cache := ⟨⟨ln, st, 1⟩ :: c.lines⟩

/-- A CPU's first-level cache. -/
def Cpu.l1 (c : Cpu) (k : L1) : Cache :=
  match k with
  | .inst => c.icache
  | .data => c.l1d

/-- Replace a CPU's first-level cache. -/
def Cpu.withL1 (c : Cpu) (k : L1) (x : Cache) : Cpu :=
  match k with
  | .inst => { c with icache := x }
  | .data => { c with l1d := x }

/-- Replace both first-level caches. -/
def Cpu.mapL1 (f : Cache → Cache) (c : Cpu) : Cpu := { c with icache := f c.icache, l1d := f c.l1d }

/-- Apply `f` to every CPU. -/
def State.mapCpus (f : Cpu → Cpu) (s : State) : State := { s with cpu := f s.cpu, peers := s.peers.map f }

/-- The cluster of a CPU, which names its L2 (10_state.md R72, 60_exceptions.md R859). DESIGN CHOICE (log 24): the spec says that
CLUSTER_SIZE CPUs share an L2 and not which; here they are CPUs of consecutive numbers, cluster k the CPUs from
k · CLUSTER_SIZE up. -/
def State.cluster (s : State) (c : Cpu) : Nat := c.whami.toNat / s.cfg.clusterSize

/-- Evict a line from the L3: the copies in every L2 and first-level cache go with it (20_memory.md R266). -/
def State.evictL3 (s : State) (v : Option Line) : State :=
  match v with
  | none => s
  | some l =>
    State.mapCpus (Cpu.mapL1 fun c => Cache.drop c l.line)
      { s with l3 := Cache.drop s.l3 l.line, l2 := s.l2.map fun c => Cache.drop c l.line }

/-- A line of the L2 of cluster `k` is Modified there or in a first-level cache of the cluster. -/
def State.dirtyIn (s : State) (k : Nat) (l : Line) : Bool :=
  l.state == .modified
    || (s.cpu :: s.peers).any fun c => State.cluster s c == k && (Cache.dirty c.icache l.line || Cache.dirty c.l1d l.line)

/-- Evict a line from the L2 of cluster `k`: the first-level copies of the cluster go with it, and a line that is Modified in
the L2 or in one of them is written back to the L3 (20_memory.md R264, R266). -/
def State.evictL2 (s : State) (k : Nat) (v : Option Line) : State :=
  match v with
  | none => s
  | some l =>
    State.mapCpus (fun c => if State.cluster s c = k then Cpu.mapL1 (fun x => Cache.drop x l.line) c else c)
      { s with
        l2 := s.l2.modify k fun c => Cache.drop c l.line
        l3 := if State.dirtyIn s k l then Cache.mark s.l3 l.line .modified else s.l3 }

/-- Evict a line from a first-level cache of the current CPU; a Modified line is written back to the L2 (R264). -/
def State.evictL1 (s : State) (k : L1) (v : Option Line) : State :=
  match v with
  | none => s
  | some l =>
    { s with
      cpu := Cpu.withL1 s.cpu k (Cache.drop (Cpu.l1 s.cpu k) l.line)
      l2 := if l.state = .modified then s.l2.modify (State.cluster s s.cpu) fun c => Cache.mark c l.line .modified
        else s.l2 }

/-- Bring a line into the L3, evicting a victim on a miss (20_memory.md R262). -/
def State.useL3 (s : State) (ln : Nat) (st : Mesi) : State :=
  match Cache.line? s.l3 ln with
  | some l => { s with l3 := Cache.touch s.l3 l }
  | none =>
    let s := State.evictL3 s (Cache.victim s.cfg.l3Geom s.l3 3 ln s.draws)
    { s with l3 := Cache.fill s.l3 ln st }

/-- Bring a line into the current CPU's L2. -/
def State.useL2 (s : State) (ln : Nat) (st : Mesi) : State :=
  let k := State.cluster s s.cpu
  match s.l2[k]? with
  | none => s
  | some c =>
    match Cache.line? c ln with
    | some l => { s with l2 := s.l2.modify k fun c => Cache.touch c l }
    | none =>
      let s := State.evictL2 s k (Cache.victim s.cfg.l2Geom c 2 ln s.draws)
      { s with l2 := s.l2.modify k fun c => Cache.fill c ln st }

/-- Bring a line into a first-level cache of the current CPU. -/
def State.useL1 (s : State) (k : L1) (ln : Nat) (st : Mesi) : State :=
  match Cache.line? (Cpu.l1 s.cpu k) ln with
  | some l => { s with cpu := Cpu.withL1 s.cpu k (Cache.touch (Cpu.l1 s.cpu k) l) }
  | none =>
    let v := match k with
      | .inst => Cache.victim s.cfg.icacheGeom s.cpu.icache 0 ln s.draws
      | .data => Cache.victim s.cfg.l1dGeom s.cpu.l1d 1 ln s.draws
    let s := State.evictL1 s k v
    { s with cpu := Cpu.withL1 s.cpu k (Cache.fill (Cpu.l1 s.cpu k) ln st) }

/-- Whether a peer of the current CPU's first-level cache `k` holds the line: the other first-level caches and the L2s of
the other clusters (20_memory.md R262). -/
def State.peerHolds (s : State) (k : L1) (ln : Nat) : Bool :=
  Cache.holds (Cpu.l1 s.cpu (match k with
    | .inst => .data
    | .data => .inst)) ln
  || s.peers.any (fun c => Cache.holds c.icache ln || Cache.holds c.l1d ln)
  || (s.l2.zipIdx.any fun (c, i) => i != State.cluster s s.cpu && Cache.holds c ln)

/-- Bring a line that first-level cache `k` does not hold into it in state `st`: from the L2 if it is there, else through the L3,
filling every level on the way (20_memory.md R262). -/
def State.fillLine (k : L1) (s : State) (ln : Nat) (st : Mesi) : State :=
  let hitL2 := (s.l2[State.cluster s s.cpu]?).any fun c => Cache.holds c ln
  State.useL1 (State.useL2 (if hitL2 then s else State.useL3 s ln st) ln st) k ln st

/-- A read of one line through first-level cache `k` (20_memory.md R262): a hit only updates the recency of that level; a miss
goes to the next one, Shared if a peer holds the line (the peers become Shared), else Exclusive. -/
def State.readLine (k : L1) (s : State) (ln : Nat) : State :=
  if Cache.holds (Cpu.l1 s.cpu k) ln then State.useL1 s k ln .shared
  else if State.peerHolds s k ln then
    let s := State.mapCpus (Cpu.mapL1 fun c => Cache.share c ln)
      { s with l2 := s.l2.map (fun c => Cache.share c ln), l3 := Cache.share s.l3 ln }
    State.fillLine k s ln .shared
  else State.fillLine k s ln .exclusive

/-- A completed store to one line by the current CPU (20_memory.md R263, R190): the line is read for ownership, every other copy
but those below the CPU's L1D is invalidated, and the L1D's becomes the one Modified copy (R267). The metadata of an I-cache line
goes whatever `ICACHE_COHERENT` is, so that inclusion (R266) holds; what a stale fetch reads is `icHist`'s matter (log 24, 25). -/
def State.writeLine (s : State) (ln : Nat) : State :=
  let s := State.readLine .data s ln
  let k := State.cluster s s.cpu
  { s with
    cpu := { s.cpu with icache := Cache.drop s.cpu.icache ln, l1d := Cache.mark s.cpu.l1d ln .modified }
    peers := s.peers.map (Cpu.mapL1 fun c => Cache.drop c ln)
    l2 := s.l2.mapIdx fun i c => if i = k then Cache.own c ln else Cache.drop c ln
    l3 := Cache.own s.l3 ln }

/-- A draw is consumed where a replacement may have used one. -/
def State.cacheDraw (s : State) : State :=
  let r (g : CacheGeom) : Bool := match g.policy with
    | .random => true
    | .lru => false
  if r s.cfg.icacheGeom || r s.cfg.l1dGeom || r s.cfg.l2Geom || r s.cfg.l3Geom then { s with draws := s.draws + 1 } else s

/-- The cache side of a read of RAM (20_memory.md R262). -/
def State.cacheRead (k : L1) (s : State) (pa n : Nat) : State :=
  State.cacheDraw ((Params.linesOf s.cfg pa n).foldl (State.readLine k) s)

/-- The cache side of a completed store to RAM (20_memory.md R263). -/
def State.cacheWrite (s : State) (pa n : Nat) : State :=
  State.cacheDraw ((Params.linesOf s.cfg pa n).foldl State.writeLine s)

/-- A host write into RAM invalidates the line in every cache. The spec names the I-cache lines only (20_memory.md R190,
70_reset_and_hazards.md R934); that L1D, L2 and L3 lines go too is a DESIGN CHOICE (log 24). -/
def State.cacheHostWrite (s : State) (pa n : Nat) : State :=
  (Params.linesOf s.cfg pa n).foldl (fun s ln =>
    State.mapCpus (Cpu.mapL1 fun c => Cache.drop c ln)
      { s with l2 := s.l2.map (fun c => Cache.drop c ln), l3 := Cache.drop s.l3 ln }) s

end Sys2Proof.Machine
end

