-- ==== Sys2Proof/Machine/StoreBuffer.lean ====
section
/-! DEFINITION. The completion of a store and the store buffer (20_memory.md R170 to R178, R181, R190, R192). -/

namespace Sys2Proof.Machine

/-- The cache line of a physical address as `lock_line` holds it: `pa AND NOT (LINE_SIZE − 1)` (10_state.md R63). -/
def Params.lockLineOf (p : Params) (pa : Nat) : Word :=
  BitVec.ofNat 64 (Params.lineOf p pa * Params.lineSize p)

/-- A store of `n` bytes from `pa` up writes some byte of the line `line` (20_memory.md R181). -/
def Params.writesLine (p : Params) (pa n : Nat) (line : Word) : Bool :=
  (Params.linesOf p pa n).any fun ln => BitVec.ofNat 64 (ln * Params.lineSize p) == line

/-- A completed store clears the reservation on a line it writes (20_memory.md R181). -/
def Cpu.loseLock (p : Params) (pa n : Nat) (c : Cpu) : Cpu :=
  if c.lockFlag && Params.writesLine p pa n c.lockLine then { c with lockFlag := false } else c

/-- Every CPU's reservation on the lines of a completed store is cleared (20_memory.md R181). -/
def State.loseLocks (s : State) (pa n : Nat) : State := State.mapCpus (Cpu.loseLock s.cfg pa n) s

/-- With `ICACHE_COHERENT` = false, every CPU remembers what memory held before the store (20_memory.md R192; log 25). -/
def State.remember (s : State) (pa n : Nat) : State :=
  if s.cfg.icacheCoherent then s
  else State.mapCpus (fun c => { c with icHist := Memory.cells s.mem pa n :: c.icHist }) s

/-- A store completes: its bytes reach memory (20_memory.md R172, R181, R190). -/
def State.completeStore (s : State) (pa : Nat) (bytes : List Byte) : State :=
  let s := State.remember s pa bytes.length
  let s := { s with mem := Memory.setBytes s.mem pa bytes }
  State.cacheWrite (State.loseLocks s pa bytes.length) pa bytes.length

/-- Complete the current CPU's store-buffer entries in order, oldest first. -/
def State.completeAll : List SbEntry → State → State
  | [], s => s
  | .store pa bytes :: es, s => State.completeAll es (State.completeStore s pa bytes)
  | .wmb :: es, s => State.completeAll es s

/-- Wait until the current CPU's store buffer is empty (20_memory.md R173, R176): its entries drain in order (log 8). -/
def State.drainAll (s : State) : State :=
  State.completeAll s.cpu.sb { s with cpu := { s.cpu with sb := [] } }

/-- Two byte ranges overlap. -/
def rangesOverlap (a n b m : Nat) : Bool := decide (a < b + m) && decide (b < a + n)

/-- The conditions (a) and (b) of 20_memory.md R172 for draining a store behind the older entries `older`. -/
def SbEntry.canPass (older : List SbEntry) (pa n : Nat) : Bool :=
  older.all fun e =>
    match e with
    | .wmb => false
    | .store pa' bytes => !rangesOverlap pa n pa' bytes.length

/-- `wmb` markers with no older entries are removed (20_memory.md R172). -/
def SbEntry.dropMarkers : List SbEntry → List SbEntry
  | .wmb :: es => SbEntry.dropMarkers es
  | es => es

/-- The drain step of 20_memory.md R172 on entry `i` of the current CPU's store buffer; none where it is not eligible. -/
def State.drainOne (s : State) (i : Nat) : Option State :=
  match s.cpu.sb[i]? with
  | some (.store pa bytes) =>
    if SbEntry.canPass (s.cpu.sb.take i) pa bytes.length then
      some (State.completeStore
        { s with cpu := { s.cpu with sb := SbEntry.dropMarkers (s.cpu.sb.eraseIdx i) } } pa bytes)
    else none
  | _ => none

/-- The byte a data load of the current CPU sees at `a`: of the youngest store-buffer entry that covers it, else of memory
(20_memory.md R171). -/
def SbEntry.forward : List SbEntry → Nat → Byte → Byte
  | [], _, b => b
  | .wmb :: es, a, b => SbEntry.forward es a b
  | .store pa bytes :: es, a, b =>
    SbEntry.forward es a (if pa ≤ a then (bytes[a - pa]?).getD b else b)

/-- The byte a data load of the current CPU returns (20_memory.md R171). -/
def State.loadByte (s : State) (a : Nat) : Byte := SbEntry.forward s.cpu.sb a (Memory.get s.mem a)

/-- The bytes a data load of the current CPU returns. -/
def State.loadBytes (s : State) (pa n : Nat) : List Byte := (List.range n).map fun k => State.loadByte s (pa + k)

/-- Append a store to the current CPU's store buffer (20_memory.md R170). -/
def State.bufferStore (s : State) (pa : Nat) (bytes : List Byte) : State :=
  { s with cpu := { s.cpu with sb := s.cpu.sb ++ [.store pa bytes] } }

/-- What memory held at `a` before the events `hist`, the newest first (20_memory.md R192; log 25). -/
def staleByte : List (List Host.Cell) → Nat → Byte → Byte
  | [], _, b => b
  | ev :: hist, a, b => staleByte hist a ((ev.lookup a).getD b)

/-- The bytes an instruction fetch from RAM returns: memory's (20_memory.md R178), or with `ICACHE_COHERENT` = false those
memory held at a drawn time since the last IC_FLUSH (R192; log 25). -/
def State.fetchBytes (s : State) (pa n : Nat) : List Byte :=
  let hist := if s.cfg.icacheCoherent then [] else s.cpu.icHist.take (Config.staleDepth s.draws)
  (List.range n).map fun k => staleByte hist (pa + k) (Memory.get s.mem (pa + k))

end Sys2Proof.Machine
end

