-- ==== Sys2Proof/Machine/Tlb.lean ====
section
/-! DEFINITION. The TLBs (20_memory.md R203 to R226) and the page-table entries (R205), as operations on plain data; the
access that uses them is Machine/Translate.lean. -/

namespace Sys2Proof.Machine

/-! Page-table entries (20_memory.md R205). -/

/-- [0] V. -/
def Pte.valid (e : Word) : Bool := e.getLsbD 0

/-- [4] ASM: the entry is global. -/
def Pte.global (e : Word) : Bool := e.getLsbD 4

/-- [6:5] GH: the granularity hint. -/
def Pte.gh (e : Word) : Nat := (e.extractLsb' 5 2).toNat

/-- [63:32] PFN, as the physical address of its page. -/
def Pte.page (e : Word) : Word := (e.extractLsb' 32 32).setWidth 64 <<< 13

/-- Whether `PAGE_SIZES` has the size 8 KB · 8^k (00_scope.md R7). -/
def Params.hasPage (p : Params) (k : Nat) : Bool := p.pageSizes.contains (0x2000 * 8 ^ k)

/-- The largest `k ≤ gh` with 8 KB · 8^k in `PAGE_SIZES` (20_memory.md R207), which always has 8 KB (`Params.pageSizesOk`). -/
def Params.pageLog (p : Params) : Nat → Nat
  | 0 => 0
  | k + 1 => if Params.hasPage p (k + 1) then k + 1 else Params.pageLog p k

/-- A word with its low `s` bits cleared. -/
def clearLow (v : Word) (s : Nat) : Word := (v >>> s) <<< s

/-! The TLB. -/

/-- The entry maps `va`, whatever its ASN: `va[63:shift] = vpn_tag` (20_memory.md R203). -/
def TlbEntry.maps (e : TlbEntry) (va : Word) : Bool := va.toNat >>> e.shift == e.tag

/-- The match of 20_memory.md R203. -/
def TlbEntry.matches (e : TlbEntry) (va : Word) (asn : BitVec 8) : Bool :=
  TlbEntry.maps e va && (e.global || e.asn == asn)

/-- Lookup (20_memory.md R203). At most one entry matches, since fills remove overlapping entries. -/
def Tlb.lookup (t : Tlb) (va : Word) (asn : BitVec 8) : Option TlbEntry :=
  t.entries.find? fun e => TlbEntry.matches e va asn

/-- Two entries can match one access: their ranges overlap (one contains the other) and so do their address spaces. -/
def TlbEntry.overlaps (a b : TlbEntry) : Bool :=
  let s := max a.shift b.shift
  (a.tag <<< a.shift) >>> s == (b.tag <<< b.shift) >>> s && (a.global || b.global || a.asn == b.asn)

/-- The set of a virtual address, by the low bits of `va[63:13]` (20_memory.md R222). -/
def tlbSet (entries ways : Nat) (va : Word) : Nat := (va.toNat >>> 13) % (entries / ways)

/-- The TLB entry of a leaf PTE for `va` (20_memory.md R207, R209). -/
def TlbEntry.ofLeaf (p : Params) (entries : Nat) (va : Word) (asn : BitVec 8) (leaf : Word) : TlbEntry :=
  let s := 13 + 3 * Params.pageLog p (Pte.gh leaf)
  { set := tlbSet entries p.tlbWays va
    tag := va.toNat >>> s
    asn := asn
    global := Pte.global leaf
    base := clearLow (Pte.page leaf) s
    perms := leaf.extractLsb' 8 8
    fo := leaf.extractLsb' 1 3
    shift := s
    dirty := false
    referenced := false }

/-- Fill (20_memory.md R209, R222; log 21, log 22): entries that overlap the new one are removed; if its set is then full,
the way a draw names is replaced. -/
def Tlb.fill (ways draw : Nat) (t : Tlb) (e : TlbEntry) : Tlb :=
  let rest := t.entries.filter fun x => !TlbEntry.overlaps x e
  let set := rest.filter fun x => x.set == e.set
  let rest := if set.length < ways then rest
    else match set[Config.tlbWay draw % set.length]? with
      | some v => rest.erase v
      | none => rest
  { t with entries := e :: rest }

/-- Remove every entry that satisfies `p`. -/
def Tlb.remove (p : TlbEntry → Bool) (t : Tlb) : Tlb := { t with entries := t.entries.filter fun e => !p e }

/-- A hit, or a miss, counted (20_memory.md R215). -/
def Tlb.countHit (t : Tlb) : Tlb := { t with hits := t.hits + 1 }

/-- A miss counted (20_memory.md R215). -/
def Tlb.countMiss (t : Tlb) : Tlb := { t with misses := t.misses + 1 }

/-- An invalidation command on one CPU's TLBs (20_memory.md R225, R226): TBIAR uses that CPU's own ASNs. -/
def Cpu.tbi (c : Cpu) (cmd : TbiCmd) : Cpu :=
  match cmd with
  | .tbia => { c with itb := Tlb.remove (fun _ => true) c.itb, dtb := Tlb.remove (fun _ => true) c.dtb }
  | .tbiap => { c with itb := Tlb.remove (fun e => !e.global) c.itb, dtb := Tlb.remove (fun e => !e.global) c.dtb }
  | .tbis va => { c with itb := Tlb.remove (TlbEntry.maps · va) c.itb, dtb := Tlb.remove (TlbEntry.maps · va) c.dtb }
  | .tbisi va => { c with itb := Tlb.remove (TlbEntry.maps · va) c.itb }
  | .tbisd va => { c with dtb := Tlb.remove (TlbEntry.maps · va) c.dtb }
  | .tbiar va =>
    let here (asn : Word) (e : TlbEntry) : Bool := !e.global && TlbEntry.maps e va && e.asn == asn.setWidth 8
    { c with itb := Tlb.remove (here c.itbAsn) c.itb, dtb := Tlb.remove (here c.dtbAsn) c.dtb }

end Sys2Proof.Machine
end

