-- ==== Sys2Proof/Machine/Ops.lean ====
section
/-! DEFINITION. The named operations over registers and processor state: reading and writing registers, taking an exception
(60_exceptions.md R801, R820 to R830, R840) and returning from one (44_misc_pal.md R760). -/

namespace Sys2Proof.Machine

/-! Registers (00_scope.md R11, 10_state.md R50, R51, R54). -/

/-- `x[r]`: R31 reads 0. -/
def State.x (s : State) (r : Reg) : Word := (s.cpu.regs[r.toNat]?).getD 0

/-- `f[r]`: F31 reads 0. -/
def State.f (s : State) (r : Reg) : Word := (s.cpu.fregs[r.toNat]?).getD 0

/-- `x[r] <- v`: a write to R31 is discarded. -/
def State.setX (s : State) (r : Reg) (v : Word) : State :=
  { s with cpu := { s.cpu with regs := s.cpu.regs.setIfInBounds r.toNat v } }

/-- `f[r] <- v`: a write to F31 is discarded. -/
def State.setF (s : State) (r : Reg) (v : Word) : State :=
  { s with cpu := { s.cpu with fregs := s.cpu.fregs.setIfInBounds r.toNat v } }

/-- `pc <- v`. -/
def State.setPc (s : State) (v : Word) : State := { s with cpu := { s.cpu with pc := v } }

/-- `pc <- pc + 4` (10_state.md R55, R56). -/
def State.advance (s : State) : State := State.setPc s (s.cpu.pc + 4)

/-- A draw has been taken (log 9). -/
def State.bump (s : State) : State := { s with draws := s.draws + 1 }

/-- The FPCR sticky bits of raised conditions are set (43_float.md R605). -/
def State.raiseConds (s : State) (c : Conds) : State :=
  { s with cpu := { s.cpu with fpcr := Fpcr.raise s.cpu.fpcr c } }

/-- Record an arithmetic trap (60_exceptions.md R821). -/
def State.recordTrap (s : State) (sum mask : Word) : State :=
  { s with cpu := { s.cpu with pend := Pend.record s.cpu.pend sum mask } }

/-- The current mode is PAL (10_state.md R58). -/
def State.inPal (s : State) : Bool := Ps.pal s.cpu.ps

/-- PS.FEN. -/
def State.fen (s : State) : Bool := Ps.fen s.cpu.ps

/-! Extensions (30_encoding.md R309). -/

/-- The gating table of 30_encoding.md R309. -/
def CpuModel.has (m : CpuModel) (e : Ext) : Bool :=
  match e, m with
  | .bwx, .ev56 | .bwx, .pca56 | .bwx, .ev6 | .bwx, .ev67 | .bwx, .ev68 | .bwx, .ev7 | .bwx, .ev78 => true
  | .fix, .ev6 | .fix, .ev67 | .fix, .ev68 | .fix, .ev7 | .fix, .ev78 => true
  | .cix, .ev67 | .cix, .ev68 | .cix, .ev7 | .cix, .ev78 => true
  | .mvi, .pca56 | .mvi, .ev6 | .mvi, .ev67 | .mvi, .ev68 | .mvi, .ev7 | .mvi, .ev78 => true
  | _, _ => false

/-- The CPU has the extension. -/
def State.has (s : State) (e : Ext) : Bool := CpuModel.has s.cfg.cpuModel e

/-! Exceptions. -/

/-- A synchronous exception an instruction or its fetch raises (60_exceptions.md R800, R811 to R815, R840). -/
inductive Exc where
  /-- MM_FAULT: who accessed, the cause and the faulting virtual address. -/
  | mmFault (a : Access) (cause : MmCause) (va : Word)
  /-- A machine check with its cause (R842). -/
  | mchk (cause : BitVec 8)
  | opcdec
  | priv
  | fen
  deriving DecidableEq, Repr

/-- What an operation of an instruction answers: a value and the state, or the exception it raises and the state with the
effects that outlive it (TLB fills and counters, handler calls, drawn values, drained stores; 60_exceptions.md R826). -/
inductive Res (α : Type) where
  | ok (a : α) (s : State)
  | exc (e : Exc) (s : State)
  deriving DecidableEq, Repr

/-- Go on with the value, or keep the exception. -/
def Res.bind {α β : Type} (r : Res α) (f : α → State → Res β) : Res β :=
  match r with
  | .ok a s => f a s
  | .exc e s => .exc e s

/-- The PAL entry of 60_exceptions.md R830: the store buffer drains; EXC_ADDR and EXC_PS are saved; PALM is set; the
reservation is lost; the pc goes to the target. The class's own IPRs are written by the caller, and are not affected by the
drain. -/
def State.enterPal (s : State) (saved target : Word) : State :=
  let s := State.drainAll s
  { s with cpu := { s.cpu with
      excAddr := saved
      excPs := s.cpu.ps
      ps := s.cpu.ps ||| psPalm
      lockFlag := false
      pc := target } }

/-- The entry of an exception class with EXC_ADDR = `pc` (60_exceptions.md R801, R830). -/
def State.enterExc (s : State) (c : ExcClass) : State :=
  State.enterPal s s.cpu.pc (palEntryExc s.cfg.palScheme s.cpu.palBase c)

/-- Deliver the pending arithmetic trap (60_exceptions.md R823). -/
def State.deliverArith (s : State) : State :=
  State.enterExc
    { s with cpu := { s.cpu with
        excSum := s.cpu.pend.sum
        excMask := s.cpu.pend.mask
        pend := ⟨false, 0, 0⟩ } } .arith

/-- A machine check: the entry with its cause in MCES, or the halted state if one is being handled (60_exceptions.md R840,
R851; log 34). It does not deliver a pending trap (R822). -/
def State.machineCheck (s : State) (cause : BitVec 8) : State :=
  if s.cpu.mces.getLsbD 0 then { s with cpu := { s.cpu with halted := true } }
  else State.enterExc { s with cpu := { s.cpu with mces := (cause.setWidth 64 <<< 8) ||| 1 } } .mchk

/-- TAKING A SYNCHRONOUS EXCEPTION (60_exceptions.md R822, R830): a machine check at once; any other only if no arithmetic
trap is pending, for a pending one is delivered in its place. DESIGN CHOICE: R825 puts every entry of its rows 1 to 6, the machine
check of a fetch among them, behind a pending trap, while R822 says that a machine check does not force its delivery; R822 is
followed for the machine checks of fetches too (log 42). -/
def State.take (s : State) (e : Exc) : State :=
  match e with
  | .mchk cause => State.machineCheck s cause
  | .mmFault a cause va =>
    if s.cpu.pend.valid then State.deliverArith s
    else
      State.enterExc { s with cpu := { s.cpu with mmStat := mmStatOf a cause, va := va } }
        (match a.kind with
          | .fetch => .mmFetch
          | .read | .write => .mmData)
  | .opcdec => if s.cpu.pend.valid then State.deliverArith s else State.enterExc s .opcdec
  | .priv => if s.cpu.pend.valid then State.deliverArith s else State.enterExc s .priv
  | .fen => if s.cpu.pend.valid then State.deliverArith s else State.enterExc s .fen

/-- RETURNING FROM AN EXCEPTION (HW_REI, 44_misc_pal.md R760): PS and pc are restored; `lock_flag` and the pending trap
are unchanged. -/
def State.returnFromPal (s : State) : State :=
  { s with cpu := { s.cpu with ps := s.cpu.excPs, pc := s.cpu.excAddr } }

/-- Taking an interrupt request (60_exceptions.md R832): it leaves `IRQ`, INTID takes its vector, PS.IPL is unchanged. -/
def State.takeInterrupt (s : State) (q : Irq) : State :=
  State.enterExc
    { s with cpu := { s.cpu with
        intid := q.vector.setWidth 64
        irq := s.cpu.irq.erase q } } .interrupt

/-! The outcome of an instruction. -/

/-- What an instruction answers: the next state, an exception being taken. -/
abbrev Outcome := Host.Outcome State Fault Refusal

/-- An instruction that has run: its exception, if any, is taken (60_exceptions.md R826, R830). -/
def Res.run (r : Res Unit) : Outcome :=
  match r with
  | .ok _ s => .next s
  | .exc e s => .next (State.take s e)

/-- Raise an exception with no effect before it. -/
def raise (s : State) (e : Exc) : Outcome := .next (State.take s e)

/-- Run `k` if the CPU has the extension, else raise OPCDEC (30_encoding.md R309). -/
def needExt (e : Ext) (s : State) (k : Outcome) : Outcome := if State.has s e then k else raise s .opcdec

/-- Run `k` if PS.FEN = 1, else raise FEN (43_float.md R611, 60_exceptions.md R815). -/
def needFen (s : State) (k : Outcome) : Outcome := if State.fen s then k else raise s .fen

/-- Run `k` in PAL mode, else raise PRIV (44_misc_pal.md R761). -/
def needPal (s : State) (k : Outcome) : Outcome := if State.inPal s then k else raise s .priv

end Sys2Proof.Machine
end

