-- ==== Sys2Proof/Machine/Physical.lean ====
section
/-! DEFINITION. Physical accesses: the MMIO router, RAM, ROM and unmapped space (20_memory.md section 9, R176, R177). -/

namespace Sys2Proof.Machine

/-- Where a physical access goes, by its first byte (20_memory.md R240). -/
inductive Target where
  | tooHigh
  | mmio (r : MmioRegion)
  | ram
  | rom
  | unmapped
  deriving DecidableEq, Repr

/-- The router of 20_memory.md R240. -/
def State.route (s : State) (pa : Nat) : Target :=
  if 2 ^ 48 ≤ pa then .tooHigh
  else
    match s.regions.find? fun r => decide (r.start ≤ pa) && decide (pa ≤ r.stop) with
    | some r => .mmio r
    | none =>
      if pa < s.cfg.ramTop then .ram
      else if s.cfg.romBase ≤ pa ∧ pa < s.cfg.romTop then .rom
      else .unmapped

/-- The low `n` bytes of a word. -/
def lowBytes (n : Nat) (v : Word) : Word := ofBytes (bytesOf n v)

/-- A call of an MMIO handler (20_memory.md R243): it is logged, the device's answer and whether it reports an error are
draws (log 17). The answer to a write is not used. -/
def State.mmioCall (s : State) (r : MmioRegion) (pa n : Nat) (w : Option Word) : Res Word :=
  let off := pa - r.start
  let s' := { s with mmioLog := s.mmioLog ++ [⟨r.dev, off, n, w⟩], draws := s.draws + 1 }
  if Config.mmioError s.draws then .exc (.mchk 1) s'
  else .ok (lowBytes n (Config.mmioRead s.draws r.dev off n)) s'

/-- Whether the memory back-end reports an error for a read of RAM (60_exceptions.md R842 cause 3; log 18). -/
def State.backend (s : State) (v : Word) : Res Word :=
  if s.cfg.backendErrs then
    if Config.backendError s.draws then .exc (.mchk 3) (State.bump s) else .ok v (State.bump s)
  else .ok v s

/-- The value of an access that no region answers: all ones, or in strict mode a bus error (20_memory.md R244). -/
def State.unmappedRead (s : State) (n : Nat) : Res Word :=
  if s.cfg.mmioStrict then .exc (.mchk 1) s else .ok (lowBytes n (BitVec.allOnes 64)) s

/-- A dropped write, or in strict mode a bus error (20_memory.md R242, R244). -/
def State.droppedWrite (s : State) : Res Unit :=
  if s.cfg.mmioStrict then .exc (.mchk 1) s else .ok () s

/-- `PhysRead(pa, n)` of a data access (20_memory.md R171, R177, R240 to R245): MMIO and ROM accesses wait for the store
buffer; RAM is read through it. -/
def State.physRead (n : Nat) (s : State) (pa : Nat) : Res Word :=
  match State.route s pa with
  | .tooHigh => .exc (.mchk 2) s
  | .mmio r => State.mmioCall (State.drainAll s) r pa n none
  | .ram => State.backend (State.cacheRead .data s pa n) (ofBytes (State.loadBytes s pa n))
  | .rom => .ok (ofBytes (Memory.getBytes s.rom pa n)) (State.drainAll s)
  | .unmapped => State.unmappedRead s n

/-- `PhysWrite(pa, n, v)` of an ordinary store (20_memory.md R170, R177, R240 to R245): into the store buffer for RAM;
at once, after the store buffer has drained, for MMIO and ROM. A store to MMIO clears the reservations on its line (log 29). -/
def State.physWrite (n : Nat) (v : Word) (s : State) (pa : Nat) : Res Unit :=
  match State.route s pa with
  | .tooHigh => .exc (.mchk 2) s
  | .mmio r =>
    Res.bind (State.mmioCall (State.drainAll s) r pa n (some (lowBytes n v))) fun _ s => .ok () (State.loseLocks s pa n)
  | .ram => .ok () (State.bufferStore s pa (bytesOf n v))
  | .rom => State.droppedWrite (State.drainAll s)
  | .unmapped => State.droppedWrite s

/-- The physical store of a successful STx_C, the store buffer being empty: it completes at once (20_memory.md R183). -/
def State.physWriteNow (n : Nat) (v : Word) (s : State) (pa : Nat) : Res Unit :=
  match State.route s pa with
  | .ram => .ok () (State.completeStore s pa (bytesOf n v))
  | _ => State.physWrite n v s pa

/-- The physical read of an instruction fetch (20_memory.md R178, R192, R240; log 26): 4 bytes, not through the store
buffer and without waiting for it. -/
def State.physFetch (s : State) (pa : Nat) : Res Word :=
  match State.route s pa with
  | .tooHigh => .exc (.mchk 2) s
  | .mmio r => State.mmioCall s r pa 4 none
  | .ram =>
    let v := ofBytes (State.fetchBytes s pa 4)
    let s := if s.cfg.icacheCoherent then s else State.bump s
    State.backend (State.cacheRead .inst s pa 4) v
  | .rom => .ok (ofBytes (Memory.getBytes s.rom pa 4)) s
  | .unmapped => State.unmappedRead s 4

/-- The physical read of the page-table walker: 8 bytes of memory, not through the store buffer (20_memory.md R208, R221;
log 23): cause 2 above 2^48, cause 4 outside RAM. -/
def State.physWalk (s : State) (pa : Nat) : Res Word :=
  match State.route s pa with
  | .tooHigh => .exc (.mchk 2) s
  | .ram => State.backend s (ofBytes (Memory.getBytes s.mem pa 8))
  | .mmio _ | .rom | .unmapped => .exc (.mchk 4) s

end Sys2Proof.Machine
end

