-- ==== Sys2Proof/Machine/Translate.lean ====
section
/-! DEFINITION. Translation: the canonical checks, the TLBs, the page-table walk and the protection checks
(20_memory.md section 8). -/

namespace Sys2Proof.Machine

/-- An access is translated iff the mode is not PAL and MMU_CTL.TE = 1 (20_memory.md R200). -/
def State.translates (s : State) : Bool := !State.inPal s && s.cpu.mmuCtl.getLsbD 0

/-- `va[63:48]` is 16 copies of `va[47]` (20_memory.md R196). -/
def canonical (va : Word) : Bool := (va.setWidth 48).signExtend 64 == va

/-- `va[47:43]` is five copies of `va[42]` (20_memory.md R202). -/
def inXlateRange (va : Word) : Bool := ((va.setWidth 43).signExtend 48).extractLsb' 43 5 == va.extractLsb' 43 5

/-- The TLB an access uses (20_memory.md R203). -/
def Cpu.tlb (c : Cpu) (k : Kind) : Tlb :=
  match k with
  | .fetch => c.itb
  | .read | .write => c.dtb

/-- The address-space number an access uses (20_memory.md R203). -/
def Cpu.asn (c : Cpu) (k : Kind) : BitVec 8 :=
  match k with
  | .fetch => c.itbAsn.setWidth 8
  | .read | .write => c.dtbAsn.setWidth 8

/-- Replace the TLB an access uses. -/
def State.withTlb (s : State) (k : Kind) (t : Tlb) : State :=
  match k with
  | .fetch => { s with cpu := { s.cpu with itb := t } }
  | .read | .write => { s with cpu := { s.cpu with dtb := t } }

/-- The number of entries of the TLB an access uses (00_scope.md R7). -/
def Params.tlbEntries (p : Params) (k : Kind) : Nat :=
  match k with
  | .fetch => p.itbEntries
  | .read | .write => p.dtbEntries

/-- One level of the walk: the PTE at a table's physical address and an index, which must be valid (20_memory.md R206). -/
def State.walkLevel (s : State) (a : Access) (va table : Word) (index : BitVec 10) : Res Word :=
  Res.bind (State.physWalk s (table + 8 * index.setWidth 64).toNat) fun pte s =>
    if Pte.valid pte then .ok pte s else .exc (.mmFault a .tnv va) s

/-- The page-table walk: the leaf PTE of `va` (20_memory.md R206). -/
def State.walk (s : State) (a : Access) (va : Word) : Res Word :=
  Res.bind (State.walkLevel s a va (((s.cpu.ptbr.setWidth 35).setWidth 64) <<< 13) (va.extractLsb' 33 10)) fun pte1 s =>
  Res.bind (State.walkLevel s a va (Pte.page pte1) (va.extractLsb' 23 10)) fun pte2 s =>
  State.walkLevel s a va (Pte.page pte2) (va.extractLsb' 13 10)

/-- The TLB entry of a translated access: a hit, or a miss, a walk and a fill (20_memory.md R203, R204, R215). -/
def State.tlbEntry (s : State) (a : Access) (va : Word) : Res TlbEntry :=
  let t := Cpu.tlb s.cpu a.kind
  let asn := Cpu.asn s.cpu a.kind
  match Tlb.lookup t va asn with
  | some e => .ok e (State.withTlb s a.kind (Tlb.countHit t))
  | none =>
    Res.bind (State.walk (State.withTlb s a.kind (Tlb.countMiss t)) a va) fun leaf s =>
      let e := TlbEntry.ofLeaf s.cfg (Params.tlbEntries s.cfg a.kind) va asn leaf
      .ok e (State.bump (State.withTlb s a.kind (Tlb.fill s.cfg.tlbWays s.draws (Cpu.tlb s.cpu a.kind) e)))

/-- The read enable of mode `m` (20_memory.md R205, R213): bit `m` of the permissions. -/
def TlbEntry.canRead (e : TlbEntry) (m : BitVec 2) : Bool := e.perms.getLsbD m.toNat

/-- The write enable of mode `m` (20_memory.md R205, R213). -/
def TlbEntry.canWrite (e : TlbEntry) (m : BitVec 2) : Bool := e.perms.getLsbD (4 + m.toNat)

/-- The check of an entry, in the order of 20_memory.md R211: mode protection (R212), access type (R213), fault-on (R214). -/
def TlbEntry.check (e : TlbEntry) (k : Kind) (m : BitVec 2) : Option MmCause :=
  if !TlbEntry.canRead e m && !TlbEntry.canWrite e m then some .acv
  else
    match k with
    | .read => if !TlbEntry.canRead e m then some .acv else if e.fo.getLsbD 0 then some .for_ else none
    | .write => if !TlbEntry.canWrite e m then some .acv else if e.fo.getLsbD 1 then some .fow else none
    | .fetch => if !TlbEntry.canRead e m then some .acv else if e.fo.getLsbD 2 then some .foe else none

/-- The physical address of a translated access (20_memory.md R217). -/
def TlbEntry.pa (e : TlbEntry) (va : Word) : Word := e.base + BitVec.ofNat 64 (va.toNat % 2 ^ e.shift)

/-- The physical address of an access, all checks but alignment done (20_memory.md R200 to R217). -/
def State.translate (s : State) (a : Access) (va : Word) : Res Word :=
  if !State.translates s then .ok va s
  else if !canonical va || !inXlateRange va then .exc (.mmFault a .acv va) s
  else
    Res.bind (State.tlbEntry s a va) fun e s =>
      match TlbEntry.check e a.kind (Ps.cm s.cpu.ps) with
      | some c => .exc (.mmFault a c va) s
      | none => .ok (TlbEntry.pa e va) s

end Sys2Proof.Machine
end

