-- ==== Sys2Proof/Machine/Access.lean ====
section
/-! DEFINITION. `MemRead` and `MemWrite` (00_scope.md R12): alignment and splitting (20_memory.md R160 to R164), translation,
then the physical access; the locked accesses (R180 to R186); the untranslated accesses of HW_LD and HW_ST. -/

namespace Sys2Proof.Machine

/-- The address is a multiple of the size (20_memory.md R160). -/
def aligned (n : Nat) (va : Word) : Bool := va.toNat % n == 0

/-- Translate the bytes of an access one by one, in increasing address order (20_memory.md R161). -/
def State.translateEach (a : Access) (va : Word) : Nat → State → Res (List Nat)
  | 0, s => .ok [] s
  | k + 1, s =>
    Res.bind (State.translate s a va) fun pa s =>
    Res.bind (State.translateEach a (va + 1) k s) fun pas s => .ok (pa.toNat :: pas) s

/-- Where an access goes: one aligned access, or one single-byte access for each byte (20_memory.md R161). -/
inductive Place where
  | whole (pa : Nat)
  | split (pas : List Nat)
  deriving DecidableEq, Repr

/-- The access goes to an MMIO region (20_memory.md R164). -/
def State.toMmio (s : State) (pa : Nat) : Bool :=
  match State.route s pa with
  | .mmio _ => true
  | .tooHigh | .ram | .rom | .unmapped => false

/-- Translate and check an access of `n` bytes at `va`; the alignment check comes last (20_memory.md R161, R164, R211). In
tolerate mode a misaligned access is split, unless its first byte routes to MMIO. -/
def State.place (n : Nat) (a : Access) (va : Word) (s : State) : Res Place :=
  Res.bind (State.translate s a va) fun pa s =>
    if aligned n va then .ok (.whole pa.toNat) s
    else if s.cfg.strictAlignment || State.toMmio s pa.toNat then .exc (.mmFault a .align va) s
    else Res.bind (State.translateEach a (va + 1) (n - 1) s) fun pas s => .ok (.split (pa.toNat :: pas)) s

/-- Translate and check an access that is never split (20_memory.md R163). -/
def State.placeAligned (n : Nat) (a : Access) (va : Word) (s : State) : Res Nat :=
  Res.bind (State.translate s a va) fun pa s =>
    if aligned n va then .ok pa.toNat s else .exc (.mmFault a .align va) s

/-- Read single bytes in order and assemble them, the first the least significant (20_memory.md R161). -/
def State.readEach : List Nat → State → Res Word
  | [], s => .ok 0 s
  | pa :: pas, s =>
    Res.bind (State.physRead 1 s pa) fun b s =>
    Res.bind (State.readEach pas s) fun v s => .ok ((v <<< 8) ||| b) s

/-- Write single bytes in order, the least significant first (20_memory.md R161). -/
def State.writeEach : List Nat → Word → State → Res Unit
  | [], _, s => .ok () s
  | pa :: pas, v, s => Res.bind (State.physWrite 1 v s pa) fun _ s => State.writeEach pas (v >>> 8) s

/-- The machine check that a byte of a split store raises whatever the devices answer (20_memory.md R242, R244, R245), and the
state it is raised in: an access to ROM has waited until the store buffer is empty (R176, R177). -/
def State.writeCheck (s : State) (pa : Nat) : Option (BitVec 8 × State) :=
  match State.route s pa with
  | .tooHigh => some (2, s)
  | .rom => if s.cfg.mmioStrict then some (1, State.drainAll s) else none
  | .unmapped => if s.cfg.mmioStrict then some (1, s) else none
  | .mmio _ | .ram => none

/-- `MemRead(va, n, read)` (00_scope.md R12). -/
def State.memRead (n : Nat) (a : Access) (va : Word) (s : State) : Res Word :=
  Res.bind (State.place n a va s) fun p s =>
    match p with
    | .whole pa => State.physRead n s pa
    | .split pas => State.readEach pas s

/-- `MemWrite(va, n, v, write)` (00_scope.md R12). A split store that faults on any byte writes no byte (20_memory.md R161):
its machine checks come first, and if a device reports an error what it wrote before is undone, but the handler calls and their
draws are not (60_exceptions.md R826; log 27), nor the drain of the older stores, which the access to the device has waited for
(20_memory.md R176). -/
def State.memWrite (n : Nat) (a : Access) (va : Word) (v : Word) (s : State) : Res Unit :=
  Res.bind (State.place n a va s) fun p s =>
    match p with
    | .whole pa => State.physWrite n v s pa
    | .split pas =>
      match pas.findSome? (State.writeCheck s) with
      | some (c, s) => .exc (.mchk c) s
      | none =>
        match State.writeEach pas v s with
        | .ok u s' => .ok u s'
        | .exc e s' => .exc e { State.drainAll s with mmioLog := s'.mmioLog, draws := s'.draws }

/-- The read of LDx_L: the store buffer drains, the access is made, and the reservation is set on its line
(20_memory.md R180). -/
def State.memReadLocked (n : Nat) (a : Access) (va : Word) (s : State) : Res Word :=
  Res.bind (State.placeAligned n a va (State.drainAll s)) fun pa s =>
  Res.bind (State.physRead n s pa) fun v s =>
    .ok v { s with cpu := { s.cpu with lockFlag := true, lockLine := Params.lockLineOf s.cfg pa } }

/-- The write of STx_C: the store buffer drains, the address is translated and checked as a write, and the store happens
iff the reservation is on its line (20_memory.md R183 to R186; log 28). The answer is whether it did; the flag is 0 after. -/
def State.memWriteConditional (n : Nat) (a : Access) (va : Word) (v : Word) (s : State) : Res Bool :=
  Res.bind (State.placeAligned n a va (State.drainAll s)) fun pa s =>
    if s.cpu.lockFlag && (Params.lockLineOf s.cfg pa == s.cpu.lockLine) then
      Res.bind (State.physWriteNow n v s pa) fun _ s => .ok true { s with cpu := { s.cpu with lockFlag := false } }
    else .ok false { s with cpu := { s.cpu with lockFlag := false } }

/-- The read of HW_LD: physical, always aligned (44_misc_pal.md R755, 20_memory.md R163). -/
def State.hwRead (n : Nat) (a : Access) (pa : Word) (s : State) : Res Word :=
  if aligned n pa then State.physRead n s pa.toNat else .exc (.mmFault a .align pa) s

/-- The write of HW_ST: physical, always aligned, through the store buffer (44_misc_pal.md R756). -/
def State.hwWrite (n : Nat) (a : Access) (pa : Word) (v : Word) (s : State) : Res Unit :=
  if aligned n pa then State.physWrite n v s pa.toNat else .exc (.mmFault a .align pa) s

/-- `Fetch` (20_memory.md R165, R178, 60_exceptions.md R812): the instruction word at the pc. -/
def State.fetchWord (s : State) : Res IWord :=
  if !aligned 4 s.cpu.pc then .exc (.mmFault Access.fetch .acv s.cpu.pc) s
  else
    Res.bind (State.translate s Access.fetch s.cpu.pc) fun pa s =>
    Res.bind (State.physFetch s pa.toNat) fun w s => .ok (w.setWidth 32) s

end Sys2Proof.Machine
end

