-- ==== Sys2Proof/Machine/Operands.lean ====
section
/-! DEFINITION. The operand forms (30_encoding.md R302 to R310), and the templates that instructions of one shape run
(40_integer.md R400, 41_loadstore.md R500, 42_control.md R550 and section 5). -/

namespace Sys2Proof.Machine

/-- `Rbv`: `x[rb]`, or the literal, never sign-extended (40_integer.md R400). -/
def State.rbv (s : State) (o : Operand) : Word :=
  match o with
  | .reg rb => State.x s rb
  | .lit v => v.setWidth 64

/-- The effective address `x[rb] + sext_16(disp)` (41_loadstore.md R500). -/
def State.ea (s : State) (rb : Reg) (disp : BitVec 16) : Word := State.x s rb + disp.signExtend 64

/-- The address of HW_LD and HW_ST: `x[rb] + sext_12(disp)` (44_misc_pal.md R755). -/
def State.hwEa (s : State) (rb : Reg) (disp : BitVec 12) : Word := State.x s rb + disp.signExtend 64

/-- The size of HW_LD and HW_ST (44_misc_pal.md R755). -/
def hwSize (quad : Bool) : Nat := if quad then 8 else 4

/-- The branch target `pc + 4 + 4 * sext_21(disp)` (42_control.md R550). -/
def State.branchTarget (s : State) (disp : BitVec 21) : Word := s.cpu.pc + 4 + 4 * disp.signExtend 64

/-- The jump target `x[rb] AND NOT 3` (42_control.md section 5). -/
def State.jumpTarget (s : State) (rb : Reg) : Word := State.x s rb &&& ~~~3

/-- An instruction ends by writing `x[rc]` and advancing the pc (40_integer.md R400). -/
def State.finishX (s : State) (rc : Reg) (v : Word) : State := State.advance (State.setX s rc v)

/-- An instruction ends by writing `f[fc]` and advancing the pc. -/
def State.finishF (s : State) (fc : Reg) (v : Word) : State := State.advance (State.setF s fc v)

/-- The template of the integer operate instructions (40_integer.md R400). -/
def intOp (f : Word → Word → Word) (ra : Reg) (o : Operand) (rc : Reg) (s : State) : Outcome :=
  .next (State.finishX s rc (f (State.x s ra) (State.rbv s o)))

/-- The template of the one-operand integer instructions (40_integer.md R400). -/
def intOp1 (f : Word → Word) (o : Operand) (rc : Reg) (s : State) : Outcome :=
  .next (State.finishX s rc (f (State.rbv s o)))

/-- The template of the /V instructions: the wrapped result is written, and an overflow records the integer overflow trap
(40_integer.md R493, 60_exceptions.md R821). `wrap` makes the result of the exact value. -/
def intOpV (exact : Word → Word → Int) (wrap : Int → Word) (overflows : Int → Bool) (ra : Reg) (o : Operand) (rc : Reg)
    (s : State) : Outcome :=
  let n := exact (State.x s ra) (State.rbv s o)
  let s' := State.finishX s rc (wrap n)
  .next (if overflows n then State.recordTrap s' (excSumOf .none Conds.iov) (excMaskInt rc) else s')

/-- The template of the conditional moves (40_integer.md R431 to R438): when the condition is false nothing is written. -/
def cmov (cond : Word → Bool) (ra : Reg) (o : Operand) (rc : Reg) (s : State) : Outcome :=
  .next (if cond (State.x s ra) then State.finishX s rc (State.rbv s o) else State.advance s)

/-- The predicates against zero of the conditional moves and branches (40_integer.md R431 to R438, 42_control.md R550). -/
inductive ZeroTest where
  | eq | ne | lt | ge | le | gt | lbs | lbc
  deriving DecidableEq, Repr

/-- Whether a register value satisfies a predicate, signed (42_control.md R550). -/
def ZeroTest.holds (t : ZeroTest) (v : Word) : Bool :=
  match t with
  | .eq => v == 0
  | .ne => v != 0
  | .lt => decide (v.toInt < 0)
  | .ge => decide (0 ≤ v.toInt)
  | .le => decide (v.toInt ≤ 0)
  | .gt => decide (0 < v.toInt)
  | .lbs => v.getLsbD 0
  | .lbc => !v.getLsbD 0

/-- The template of the conditional branches (42_control.md R550). -/
def branchIf (taken : Bool) (disp : BitVec 21) (s : State) : Outcome :=
  .next (if taken then State.setPc s (State.branchTarget s disp) else State.advance s)

/-- The template of BR and BSR (42_control.md R551, R552). -/
def branchLink (ra : Reg) (disp : BitVec 21) (s : State) : Outcome :=
  .next (State.setPc (State.setX s ra (s.cpu.pc + 4)) (State.branchTarget s disp))

/-- The template of the jumps (42_control.md section 5): the target is read before Ra is written. -/
def jumpLink (ra rb : Reg) (s : State) : Outcome :=
  .next (State.setPc (State.setX s ra (s.cpu.pc + 4)) (State.jumpTarget s rb))

/-- The template of the integer loads (41_loadstore.md R500): read `n` bytes, extend, write Ra. -/
def loadX (r : State → Res Word) (ext : Word → Word) (ra : Reg) (s : State) : Outcome :=
  Res.run (Res.bind (r s) fun v s => .ok () (State.finishX s ra (ext v)))

/-- The template of the floating loads (41_loadstore.md R500 and section 5). -/
def loadF (n : Nat) (opcode : BitVec 6) (conv : Word → Word) (fa rb : Reg) (disp : BitVec 16) (s : State) : Outcome :=
  needFen s (Res.run (Res.bind (State.memRead n ⟨.read, fa, opcode⟩ (State.ea s rb disp) s) fun v s =>
    .ok () (State.finishF s fa (conv v))))

/-- The template of the stores (41_loadstore.md R500): write, advance the pc. -/
def store (w : State → Res Unit) (s : State) : Outcome :=
  Res.run (Res.bind (w s) fun _ s => .ok () (State.advance s))

/-- The template of the floating stores (41_loadstore.md section 5). -/
def storeF (n : Nat) (opcode : BitVec 6) (conv : Word → Word) (fa rb : Reg) (disp : BitVec 16) (s : State) : Outcome :=
  needFen s (store (State.memWrite n ⟨.write, fa, opcode⟩ (State.ea s rb disp) (conv (State.f s fa))) s)

/-! Lanes: a word made of eight bytes or four words (40_integer.md rules R445 to R492). -/

/-- `v[8i+7:8i]`. -/
def byteAt (v : Word) (i : Nat) : Byte := v.extractLsb' (8 * i) 8

/-- `v[16i+15:16i]`. -/
def wordAt (v : Word) (i : Nat) : BitVec 16 := v.extractLsb' (16 * i) 16

/-- The word with byte `i` equal to `f i`. -/
def ofByteLanes (f : Nat → Byte) : Word := f 7 ++ f 6 ++ f 5 ++ f 4 ++ f 3 ++ f 2 ++ f 1 ++ f 0

/-- The word with 16-bit lane `i` equal to `f i`. -/
def ofWordLanes (f : Nat → BitVec 16) : Word := f 3 ++ f 2 ++ f 1 ++ f 0

/-- `byte_zap(v, m)` (40_integer.md R441). -/
def byteZap (v : Word) (m : BitVec 8) : Word := ofByteLanes fun i => if m.getLsbD i then 0 else byteAt v i

/-- `byte_zapnot(v, m)` (40_integer.md R441). -/
def byteZapnot (v : Word) (m : BitVec 8) : Word := ofByteLanes fun i => if m.getLsbD i then byteAt v i else 0

/-- `off = Rbv[2:0]` (40_integer.md R441). -/
def byteOff (b : Word) : Nat := (b.extractLsb' 0 3).toNat

/-- The element widths of the MSK, EXT and INS family. -/
inductive Width where
  | byte | word | long | quad
  deriving DecidableEq, Repr

/-- `wmask(width)` (40_integer.md R441). -/
def Width.mask (w : Width) : BitVec 8 :=
  match w with
  | .byte => 0x01
  | .word => 0x03
  | .long => 0x0F
  | .quad => 0xFF

/-- `bm = wmask(width) << off` (40_integer.md R441). -/
def byteMask (w : Width) (b : Word) : BitVec 16 := (Width.mask w).setWidth 16 <<< byteOff b

/-- `bm[7:0]`. -/
def maskLow (w : Width) (b : Word) : BitVec 8 := (byteMask w b).extractLsb' 0 8

/-- `bm[15:8]`. -/
def maskHigh (w : Width) (b : Word) : BitVec 8 := (byteMask w b).extractLsb' 8 8

/-- `hloc = (64 − 8·off)[5:0]` (40_integer.md R441). -/
def hloc (b : Word) : Nat := (64 - 8 * byteOff b) % 64

/-- MSKxL (40_integer.md R447 to R450). -/
def mskLow (w : Width) (a b : Word) : Word := byteZap a (maskLow w b)
/-- MSKxH (40_integer.md R451 to R453). -/
def mskHigh (w : Width) (a b : Word) : Word := byteZap a (maskHigh w b)
/-- EXTxL (40_integer.md R454 to R457). -/
def extLow (w : Width) (a b : Word) : Word := byteZapnot (a >>> (8 * byteOff b)) (Width.mask w)
/-- EXTxH (40_integer.md R458 to R460). -/
def extHigh (w : Width) (a b : Word) : Word := byteZapnot (a <<< hloc b) (Width.mask w)
/-- INSxL (40_integer.md R461 to R464). -/
def insLow (w : Width) (a b : Word) : Word := byteZapnot (a <<< (8 * byteOff b)) (maskLow w b)
/-- INSxH (40_integer.md R465 to R467). -/
def insHigh (w : Width) (a b : Word) : Word := byteZapnot (a >>> hloc b) (maskHigh w b)

end Sys2Proof.Machine
end

