-- ==== Sys2Proof/Machine/FloatValue.lean ====
section
/-! DEFINITION. The floating formats: register layouts, memory conversions and the values of registers (43_float.md section
1), and the compare with zero of the floating branches and conditional moves (42_control.md R561). -/

namespace Sys2Proof.Machine

/-! Memory conversions (43_float.md R601). -/

/-- `S_mem_to_reg`. -/
def sMemToReg (v : Word) : Word :=
  let e := v.extractLsb' 23 8
  let e11 : BitVec 11 := if e = 0xFF then 0x7FF else if e = 0 then 0 else e.setWidth 11 + 896
  v.extractLsb' 31 1 ++ e11 ++ v.extractLsb' 0 23 ++ (0 : BitVec 29)

/-- `S_reg_to_mem`, zero-extended. -/
def sRegToMem (r : Word) : Word :=
  (r.extractLsb' 63 1 ++ r.extractLsb' 62 1 ++ r.extractLsb' 52 7 ++ r.extractLsb' 29 23).setWidth 64

/-- `F_mem_to_reg`. -/
def fMemToReg (v : Word) : Word :=
  let e := v.extractLsb' 7 8
  let e11 : BitVec 11 := if e = 0 then 0 else e.setWidth 11 + 896
  v.extractLsb' 15 1 ++ e11 ++ v.extractLsb' 0 7 ++ v.extractLsb' 16 16 ++ (0 : BitVec 29)

/-- `F_reg_to_mem`, zero-extended. -/
def fRegToMem (r : Word) : Word :=
  (r.extractLsb' 29 16 ++ r.extractLsb' 63 1 ++ r.extractLsb' 62 1 ++ r.extractLsb' 52 7 ++ r.extractLsb' 45 7).setWidth 64

/-- `G_mem_to_reg`: the word swap. -/
def gMemToReg (v : Word) : Word :=
  v.extractLsb' 0 16 ++ v.extractLsb' 16 16 ++ v.extractLsb' 32 16 ++ v.extractLsb' 48 16

/-- `G_reg_to_mem`: the inverse word swap. -/
def gRegToMem (r : Word) : Word :=
  r.extractLsb' 0 16 ++ r.extractLsb' 16 16 ++ r.extractLsb' 32 16 ++ r.extractLsb' 48 16

/-! Values (43_float.md R602, R603). -/

/-- The floating formats with a value (43_float.md R600). -/
inductive Fmt where
  | s | t | f | g | d
  deriving DecidableEq, Repr

/-- A register's value: a NaN with its register pattern, an infinity, a VAX reserved operand, or the number
(−1)^neg · m · 2^e, where `m = 0` is a zero. -/
inductive FVal where
  | nan (signaling : Bool) (bits : Word)
  | inf (neg : Bool)
  | reserved
  | num (neg : Bool) (m : Nat) (e : Int)
  deriving DecidableEq, Repr

/-- [63]: the sign. -/
def fpSign (r : Word) : Bool := r.getLsbD 63

/-- [62:52]: the exponent of S, T, F and G registers. -/
def fpExp (r : Word) : Nat := (r.extractLsb' 52 11).toNat

/-- [51:0]: the fraction of T and G registers. -/
def fpFrac (r : Word) : Nat := (r.extractLsb' 0 52).toNat

/-- [51:29]: the fraction of S and F registers. -/
def fpFrac23 (r : Word) : Nat := (r.extractLsb' 29 23).toNat

/-- The quiet bit of a NaN (43_float.md R602). -/
def fpQuiet : Word := 0x0008000000000000

/-- A valid operand of the format: S and F registers must be in their format (43_float.md R602, R603). -/
def Fmt.valid (fm : Fmt) (r : Word) : Bool :=
  match fm with
  | .t | .g | .d => true
  | .s => r.extractLsb' 0 29 == 0
      && (fpExp r == 0 || fpExp r == 0x7FF || (decide (0x381 ≤ fpExp r) && decide (fpExp r ≤ 0x47E)))
  | .f => r.extractLsb' 0 29 == 0 && (fpExp r == 0 || (decide (897 ≤ fpExp r) && decide (fpExp r ≤ 1151)))

/-- The value of an all-ones exponent (43_float.md R602). -/
def fpSpecial (r : Word) : FVal :=
  if fpFrac r = 0 then .inf (fpSign r) else .nan (!r.getLsbD 51) r

/-- The value of a register in a format (43_float.md R602, R603); with `dnz` an IEEE denormal is a zero of its sign
(R609). -/
def Fmt.value (fm : Fmt) (dnz : Bool) (r : Word) : FVal :=
  let neg := fpSign r
  match fm with
  | .t =>
    if fpExp r = 0x7FF then fpSpecial r
    else if fpExp r = 0 then .num neg (if dnz then 0 else fpFrac r) (-1074)
    else .num neg (2 ^ 52 + fpFrac r) ((fpExp r : Int) - 1075)
  | .s =>
    if fpExp r = 0x7FF then fpSpecial r
    else if fpExp r = 0 then .num neg (if dnz then 0 else fpFrac23 r) (-149)
    else .num neg (2 ^ 23 + fpFrac23 r) ((fpExp r : Int) - 1046)
  | .g =>
    if fpExp r = 0 then (if neg then .reserved else .num false 0 0)
    else .num neg (2 ^ 52 + fpFrac r) ((fpExp r : Int) - 1077)
  | .f =>
    if fpExp r = 0 then (if neg then .reserved else .num false 0 0)
    else .num neg (2 ^ 23 + fpFrac23 r) ((fpExp r : Int) - 1048)
  | .d =>
    let e := (r.extractLsb' 55 8).toNat
    if e = 0 then (if neg then .reserved else .num false 0 0)
    else .num neg (2 ^ 55 + (r.extractLsb' 0 55).toNat) ((e : Int) - 184)

/-- A sign and an absolute value as an integer. -/
def signedInt (neg : Bool) (m : Nat) : Int := if neg then -(m : Int) else m

/-- The order of two numbers: of a − b by its sign. -/
def compareNum (na : Bool) (ma : Nat) (ea : Int) (nb : Bool) (mb : Nat) (eb : Int) : Ordering :=
  let e := min ea eb
  compare (signedInt na (ma * 2 ^ (ea - e).toNat)) (signedInt nb (mb * 2 ^ (eb - e).toNat))

/-- The IEEE comparison: none when unordered (43_float.md R628 to R631). A reserved operand compares with nothing. -/
def FVal.compare (a b : FVal) : Option Ordering :=
  match a, b with
  | .num na ma ea, .num nb mb eb => some (compareNum na ma ea nb mb eb)
  | .inf na, .inf nb => some (if na = nb then .eq else if na then .lt else .gt)
  | .inf na, .num _ _ _ => some (if na then .lt else .gt)
  | .num _ _ _, .inf nb => some (if nb then .gt else .lt)
  | _, _ => none

/-- The IEEE comparison of a T register with +0.0 of the floating branches and conditional moves (42_control.md R561):
FPCR.DNZ does not apply, a NaN satisfies only `ne`. The low-bit tests have no floating form. -/
def fpZeroTest (t : ZeroTest) (r : Word) : Bool :=
  match FVal.compare (Fmt.value .t false r) (.num false 0 0), t with
  | none, .ne => true
  | none, _ => false
  | some o, .eq => o == .eq
  | some o, .ne => o != .eq
  | some o, .lt => o == .lt
  | some o, .ge => o != .lt
  | some o, .le => o != .gt
  | some o, .gt => o == .gt
  | some _, .lbs => false
  | some _, .lbc => false

end Sys2Proof.Machine
end

