-- ==== Sys2Proof/Machine/Control.lean ====
section
/-! DEFINITION. Branches and jumps (42_control.md R550 to R572). A floating branch raises FEN when PS.FEN = 0 (R561). -/

namespace Sys2Proof.Machine

/-- BR (42_control.md R551). -/
def execBr (ra : Reg) (disp : BitVec 21) (s : State) : Outcome :=
  branchLink ra disp s

/-- BSR (42_control.md R552). -/
def execBsr (ra : Reg) (disp : BitVec 21) (s : State) : Outcome :=
  branchLink ra disp s

/-- BEQ (42_control.md R553). -/
def execBeq (ra : Reg) (disp : BitVec 21) (s : State) : Outcome :=
  branchIf (ZeroTest.holds .eq (State.x s ra)) disp s

/-- BNE (42_control.md R554). -/
def execBne (ra : Reg) (disp : BitVec 21) (s : State) : Outcome :=
  branchIf (ZeroTest.holds .ne (State.x s ra)) disp s

/-- BLT (42_control.md R555). -/
def execBlt (ra : Reg) (disp : BitVec 21) (s : State) : Outcome :=
  branchIf (ZeroTest.holds .lt (State.x s ra)) disp s

/-- BLE (42_control.md R556). -/
def execBle (ra : Reg) (disp : BitVec 21) (s : State) : Outcome :=
  branchIf (ZeroTest.holds .le (State.x s ra)) disp s

/-- BGT (42_control.md R557). -/
def execBgt (ra : Reg) (disp : BitVec 21) (s : State) : Outcome :=
  branchIf (ZeroTest.holds .gt (State.x s ra)) disp s

/-- BGE (42_control.md R558). -/
def execBge (ra : Reg) (disp : BitVec 21) (s : State) : Outcome :=
  branchIf (ZeroTest.holds .ge (State.x s ra)) disp s

/-- BLBC (42_control.md R559). -/
def execBlbc (ra : Reg) (disp : BitVec 21) (s : State) : Outcome :=
  branchIf (ZeroTest.holds .lbc (State.x s ra)) disp s

/-- BLBS (42_control.md R560). -/
def execBlbs (ra : Reg) (disp : BitVec 21) (s : State) : Outcome :=
  branchIf (ZeroTest.holds .lbs (State.x s ra)) disp s

/-- FBEQ (42_control.md R561). -/
def execFbeq (ra : Reg) (disp : BitVec 21) (s : State) : Outcome :=
  needFen s (branchIf (fpZeroTest .eq (State.f s ra)) disp s)

/-- FBNE (42_control.md R562). -/
def execFbne (ra : Reg) (disp : BitVec 21) (s : State) : Outcome :=
  needFen s (branchIf (fpZeroTest .ne (State.f s ra)) disp s)

/-- FBLT (42_control.md R563). -/
def execFblt (ra : Reg) (disp : BitVec 21) (s : State) : Outcome :=
  needFen s (branchIf (fpZeroTest .lt (State.f s ra)) disp s)

/-- FBLE (42_control.md R564). -/
def execFble (ra : Reg) (disp : BitVec 21) (s : State) : Outcome :=
  needFen s (branchIf (fpZeroTest .le (State.f s ra)) disp s)

/-- FBGT (42_control.md R565). -/
def execFbgt (ra : Reg) (disp : BitVec 21) (s : State) : Outcome :=
  needFen s (branchIf (fpZeroTest .gt (State.f s ra)) disp s)

/-- FBGE (42_control.md R566). -/
def execFbge (ra : Reg) (disp : BitVec 21) (s : State) : Outcome :=
  needFen s (branchIf (fpZeroTest .ge (State.f s ra)) disp s)

/-- JMP (42_control.md R567): the hint is ignored. -/
def execJmp (ra rb : Reg) (_hint : BitVec 14) (s : State) : Outcome :=
  jumpLink ra rb s

/-- JSR (42_control.md R568): the hint is ignored. -/
def execJsr (ra rb : Reg) (_hint : BitVec 14) (s : State) : Outcome :=
  jumpLink ra rb s

/-- RET (42_control.md R569): the hint is ignored. -/
def execRet (ra rb : Reg) (_hint : BitVec 14) (s : State) : Outcome :=
  jumpLink ra rb s

/-- JSR_COROUTINE (42_control.md R570): the hint is ignored. -/
def execJsrCoroutine (ra rb : Reg) (_hint : BitVec 14) (s : State) : Outcome :=
  jumpLink ra rb s

end Sys2Proof.Machine
end

