-- ==== Sys2Proof/Machine/FloatRound.lean ====
section
/-! DEFINITION. Rounding an exact value to a format, and the floating operate template (43_float.md R604 to R613). The exact
value is always a natural number times a power of two; quotients and square roots carry a sticky low bit. -/

namespace Sys2Proof.Machine

/-- The rounding modes (43_float.md R604, R612): `away` is VAX normal rounding, to nearest with ties away from zero. -/
inductive RMode where
  | chop | minus | plus | even | away
  deriving DecidableEq, Repr

/-- The mode of an IEEE instruction's qualifier (43_float.md R604). -/
def ieeeMode (r : Rounding) (fpcr : Word) : RMode :=
  match r with
  | .chopped => .chop
  | .minus => .minus
  | .normal => .even
  | .dynamic =>
    match (Fpcr.dyn fpcr).toNat with
    | 0 => .chop
    | 1 => .minus
    | 2 => .even
    | _ => .plus

/-- The mode of a VAX instruction's qualifier, which never depends on the FPCR (43_float.md R612). -/
def vaxMode (r : Rounding) : RMode :=
  match r with
  | .chopped => .chop
  | .normal | .minus | .dynamic => .away

/-- Whether the magnitude `q` (the value cut off) is increased, `rem` of `2 ^ k` being cut off (43_float.md R604). -/
def roundsUp (mode : RMode) (neg : Bool) (q rem k : Nat) : Bool :=
  match mode with
  | .chop => false
  | .minus => neg && decide (0 < rem)
  | .plus => !neg && decide (0 < rem)
  | .even => decide (2 ^ k < 2 * rem) || (decide (2 * rem = 2 ^ k) && decide (0 < k) && decide (q % 2 = 1))
  | .away => decide (2 ^ k ≤ 2 * rem) && decide (0 < k)

/-- `m · 2^e` rounded to a multiple of `2^q`: the multiple, and whether it is inexact. -/
def roundAt (mode : RMode) (neg : Bool) (m : Nat) (e q : Int) : Nat × Bool :=
  if q ≤ e then (m * 2 ^ (e - q).toNat, false)
  else
    let k := (q - e).toNat
    let rem := m % 2 ^ k
    let n := m / 2 ^ k
    (if roundsUp mode neg n rem k then n + 1 else n, decide (rem ≠ 0))

/-- The number of bits of the significand (43_float.md R600). -/
def Fmt.prec (fm : Fmt) : Nat :=
  match fm with
  | .s | .f => 24
  | .t | .g => 53
  | .d => 56

/-- The least exponent E of a normal value 1.f · 2^E (43_float.md R600, R602, R603; log 13). -/
def Fmt.eMin (fm : Fmt) : Int :=
  match fm with
  | .s => -126
  | .t => -1022
  | .f | .d => -128
  | .g => -1024

/-- The greatest exponent E of a normal value 1.f · 2^E (log 13). -/
def Fmt.eMax (fm : Fmt) : Int :=
  match fm with
  | .s => 127
  | .t => 1023
  | .f | .d => 126
  | .g => 1022

/-- A register of sign, 11-bit exponent and 52-bit fraction. -/
def packFp (neg : Bool) (e f : Nat) : Word := BitVec.ofBool neg ++ BitVec.ofNat 11 e ++ BitVec.ofNat 52 f

/-- The register of the normal value `n · 2^q`, where `n` has the format's precision (43_float.md R600). -/
def Fmt.packNormal (fm : Fmt) (neg : Bool) (n : Nat) (q : Int) : Word :=
  match fm with
  | .t => packFp neg (q + 1075).toNat (n % 2 ^ 52)
  | .s => packFp neg (q + 1046).toNat (n % 2 ^ 23 * 2 ^ 29)
  | .g => packFp neg (q + 1077).toNat (n % 2 ^ 52)
  | .f => packFp neg (q + 1048).toNat (n % 2 ^ 23 * 2 ^ 29)
  | .d => BitVec.ofBool neg ++ BitVec.ofNat 8 (q + 184).toNat ++ BitVec.ofNat 55 n

/-- The register of `n` times the least denormal of an IEEE format; `n` may be the least normal (43_float.md R600, R602;
log 15). -/
def Fmt.packTiny (fm : Fmt) (neg : Bool) (n : Nat) : Word :=
  match fm with
  | .s => if n / 2 ^ 23 = 0 then packFp neg 0 (n * 2 ^ 29) else packFp neg 0x381 (n % 2 ^ 23 * 2 ^ 29)
  | .t | .f | .g | .d => packFp neg (n / 2 ^ 52) (n % 2 ^ 52)

/-- ±∞. -/
def fpInf (neg : Bool) : Word := packFp neg 0x7FF 0

/-- ±0. -/
def fpZero (neg : Bool) : Word := packFp neg 0 0

/-- The free values of one floating instruction, all taken at one draw (log 9, log 10, log 11). -/
structure FpFree where
  nanFirst : Bool
  invalidResult : Word
  invalidConds : Conds
  vaxUnstated : Word

/-- What controls an operation: the mode, FPCR.DNZ, whether a tiny result becomes zero (43_float.md R609), DEFAULT_NAN
(R608), and the free values. -/
structure FpCtl where
  mode : RMode
  dnz : Bool
  tinyToZero : Bool
  nan : Word
  free : FpFree

/-- What an operation delivers: the untrapped result, the conditions it raises, and those of them that always trap. -/
structure FpOut where
  bits : Word
  conds : Conds
  always : Conds
  deriving DecidableEq, Repr

/-- A result that raises nothing. -/
def FpOut.exact (v : Word) : FpOut := ⟨v, Conds.none, Conds.none⟩

/-- A result with its conditions. -/
def FpOut.raising (v : Word) (c : Conds) : FpOut := ⟨v, c, Conds.none⟩

/-- An invalid S or F operand: the result and the conditions are draws (43_float.md R602, R603). -/
def FpOut.invalidOperand (k : FpCtl) : FpOut := ⟨k.free.invalidResult, k.free.invalidConds, Conds.none⟩

/-- A VAX reserved operand: INV, always trapped (43_float.md R610). The untrapped result never appears. -/
def FpOut.vaxReserved (k : FpCtl) : FpOut := ⟨k.free.vaxUnstated, Conds.inv, Conds.inv⟩

/-- A condition of a VAX operation whose untrapped result the spec does not state (log 11). -/
def FpOut.vaxOpen (k : FpCtl) (c : Conds) : FpOut := ⟨k.free.vaxUnstated, c, Conds.none⟩

/-- The overflow result of an IEEE operation (43_float.md R607). -/
def Fmt.overflow (fm : Fmt) (mode : RMode) (neg : Bool) : Word :=
  let max := Fmt.packNormal fm neg (2 ^ Fmt.prec fm - 1) (Fmt.eMax fm - Fmt.prec fm + 1)
  match mode with
  | .even | .away => fpInf neg
  | .chop => max
  | .minus => if neg then fpInf neg else max
  | .plus => if neg then max else fpInf neg

/-- Round a nonzero exact value with an unbounded exponent: the significand of full precision and its exponent. -/
def Fmt.roundFree (fm : Fmt) (mode : RMode) (neg : Bool) (m : Nat) (e : Int) : Nat × Int × Bool :=
  let q := e + (Nat.log2 m + 1 : Nat) - Fmt.prec fm
  let (n, inexact) := roundAt mode neg m e q
  if n = 2 ^ Fmt.prec fm then (2 ^ (Fmt.prec fm - 1), q + 1, inexact) else (n, q, inexact)

/-- Round a nonzero exact value to an IEEE format: rounded with an unbounded exponent, then checked for overflow and
underflow (43_float.md R604, R605, R607, R609). -/
def Fmt.roundIeee (fm : Fmt) (k : FpCtl) (neg : Bool) (m : Nat) (e : Int) : FpOut :=
  let (n, q, inexact) := Fmt.roundFree fm k.mode neg m e
  let top := q + Fmt.prec fm - 1
  if Fmt.eMax fm < top then .raising (Fmt.overflow fm k.mode neg) (Conds.ovf ||| Conds.ine)
  else if top < Fmt.eMin fm then
    if k.tinyToZero then .raising (fpZero neg) (Conds.unf ||| Conds.ine)
    else
      let (n, inexact) := roundAt k.mode neg m e (Fmt.eMin fm - Fmt.prec fm + 1)
      .raising (Fmt.packTiny fm neg n) (Conds.when inexact (Conds.unf ||| Conds.ine))
  else .raising (Fmt.packNormal fm neg n q) (Conds.when inexact Conds.ine)

/-- Round a nonzero exact value to a VAX format (43_float.md R605, R610, R612; log 13, log 14). An underflow is a condition like
others: R610 says that it traps iff /U, and R606 that FPCR.UNFD suppresses it under /S; R606 is followed (DEDUCED, log 12), so
that its trap is not among those that always happen. -/
def Fmt.roundVax (fm : Fmt) (k : FpCtl) (neg : Bool) (m : Nat) (e : Int) : FpOut :=
  let (n, q, _) := Fmt.roundFree fm k.mode neg m e
  let top := q + Fmt.prec fm - 1
  if Fmt.eMax fm < top then ⟨k.free.vaxUnstated, Conds.ovf, Conds.ovf⟩
  else if top < Fmt.eMin fm then .raising 0 Conds.unf
  else .exact (Fmt.packNormal fm neg n q)

/-- Whether a format is VAX. -/
def Fmt.vax (fm : Fmt) : Bool :=
  match fm with
  | .f | .g | .d => true
  | .s | .t => false

/-- Round an exact value to a format; a zero has the sign `neg` in IEEE formats and is true zero in VAX formats
(43_float.md R607, R610). -/
def Fmt.round (fm : Fmt) (k : FpCtl) (neg : Bool) (m : Nat) (e : Int) : FpOut :=
  if m = 0 then .exact (if Fmt.vax fm then 0 else fpZero neg)
  else if Fmt.vax fm then Fmt.roundVax fm k neg m e
  else Fmt.roundIeee fm k neg m e

/-- DEFAULT_NAN in the format: its S form has the low 29 bits clear (43_float.md R608; log 16). -/
def Fmt.defaultNan (fm : Fmt) (k : FpCtl) : Word :=
  match fm with
  | .s => (k.nan >>> 29) <<< 29
  | .t | .f | .g | .d => k.nan

/-- An invalid operation with no NaN operand (43_float.md R608). -/
def Fmt.invalid (fm : Fmt) (k : FpCtl) : FpOut := .raising (Fmt.defaultNan fm k) Conds.inv

/-- The free values of the floating instruction at this state. -/
def State.fpFree (s : State) : FpFree where
  nanFirst := Config.nanFirst s.draws
  invalidResult := Config.invalidResult s.draws
  invalidConds := Config.invalidConds s.draws
  vaxUnstated := Config.vaxUnstated s.draws

/-- The controls of an IEEE instruction (43_float.md R604, R608, R609). -/
def State.ieeeCtl (s : State) (q : Qual) : FpCtl where
  mode := ieeeMode q.rnd s.cpu.fpcr
  dnz := Fpcr.dnz s.cpu.fpcr
  tinyToZero := Fpcr.undz s.cpu.fpcr && Fpcr.unfd s.cpu.fpcr && trapHasS q.trap
  nan := s.cfg.defaultNan
  free := State.fpFree s

/-- The controls of a VAX instruction (43_float.md R612). -/
def State.vaxCtl (s : State) (q : Qual) : FpCtl where
  mode := vaxMode q.rnd
  dnz := false
  tinyToZero := false
  nan := s.cfg.defaultNan
  free := State.fpFree s

/-- The template of the floating operate instructions (43_float.md R606, R607, R613), after the FEN check: the sticky bits
are set; if a raised condition traps, the trap is recorded and the destination takes a draw, else it takes the result. -/
def fpOperate (t : Trap) (fc : Reg) (out : FpOut) (s : State) : Outcome :=
  let c := trapping t s.cpu.fpcr out.conds out.always
  let s' := State.bump (State.raiseConds s out.conds)
  if c = 0 then .next (State.finishF s' fc out.bits)
  else .next (State.recordTrap (State.finishF s' fc (Config.fpTrapResult s.draws)) (excSumOf t c) (excMaskFp fc))

/-- An IEEE instruction of two operands. -/
def ieeeOp2 (op : FpCtl → Word → Word → FpOut) (q : Qual) (fa fb fc : Reg) (s : State) : Outcome :=
  needFen s (fpOperate q.trap fc (op (State.ieeeCtl s q) (State.f s fa) (State.f s fb)) s)

/-- An IEEE instruction of one operand. -/
def ieeeOp1 (op : FpCtl → Word → FpOut) (q : Qual) (fb fc : Reg) (s : State) : Outcome :=
  needFen s (fpOperate q.trap fc (op (State.ieeeCtl s q) (State.f s fb)) s)

/-- A VAX instruction of two operands. -/
def vaxOp2 (op : FpCtl → Word → Word → FpOut) (q : Qual) (fa fb fc : Reg) (s : State) : Outcome :=
  needFen s (fpOperate q.trap fc (op (State.vaxCtl s q) (State.f s fa) (State.f s fb)) s)

/-- A VAX instruction of one operand. -/
def vaxOp1 (op : FpCtl → Word → FpOut) (q : Qual) (fb fc : Reg) (s : State) : Outcome :=
  needFen s (fpOperate q.trap fc (op (State.vaxCtl s q) (State.f s fb)) s)

end Sys2Proof.Machine
end

