-- ==== Sys2Proof/Machine/FloatArith.lean ====
section
/-! DEFINITION. The floating operations on register values: exact arithmetic, then rounding (43_float.md R605 to R610). An
operation of an IEEE format is also the operation of a VAX format, where infinities and NaNs do not occur. -/

namespace Sys2Proof.Machine

/-- The exact sum of two numbers at their least exponent. -/
def addExact (na : Bool) (ma : Nat) (ea : Int) (nb : Bool) (mb : Nat) (eb : Int) : Int × Int :=
  let e := min ea eb
  (signedInt na (ma * 2 ^ (ea - e).toNat) + signedInt nb (mb * 2 ^ (eb - e).toNat), e)

/-- a + b: a zero sum has the common sign, or is +0, −0 when rounding toward minus infinity (43_float.md R620, R622). -/
def Fmt.addNum (fm : Fmt) (k : FpCtl) (na : Bool) (ma : Nat) (ea : Int) (nb : Bool) (mb : Nat) (eb : Int) : FpOut :=
  let (n, e) := addExact na ma ea nb mb eb
  let neg := if n = 0 then (if na = nb then na else decide (k.mode = .minus)) else decide (n < 0)
  Fmt.round fm k neg n.natAbs e

/-- The exact quotient of nonzero numbers: enough bits to round to the format, and a sticky low bit. -/
def Fmt.divNum (fm : Fmt) (k : FpCtl) (neg : Bool) (ma : Nat) (ea : Int) (mb : Nat) (eb : Int) : FpOut :=
  let j := Fmt.prec fm + 2 + (Nat.log2 mb + 1)
  let n := ma * 2 ^ j
  Fmt.round fm k neg (2 * (n / mb) + (if n % mb = 0 then 0 else 1)) (ea - eb - j - 1)

/-- The integer square root, by its bits from bit `k - 1` down, above the root `r` found so far. -/
def isqrtFrom (n : Nat) : Nat → Nat → Nat
  | 0, r => r
  | k + 1, r => isqrtFrom n k (if (r + 2 ^ k) * (r + 2 ^ k) ≤ n then r + 2 ^ k else r)

/-- The exact square root of a positive number: enough bits to round to the format, and a sticky low bit. The significand is
shifted so that its exponent is even and it has more than `2 · (prec + 2)` bits. -/
def Fmt.sqrtNum (fm : Fmt) (k : FpCtl) (m : Nat) (e : Int) : FpOut :=
  let j := 2 * (Fmt.prec fm + 2)
  let j := if (e - j) % 2 = 0 then j else j + 1
  let n := m * 2 ^ j
  let r := isqrtFrom n (Nat.log2 n / 2 + 1) 0
  Fmt.round fm k false (2 * r + (if r * r = n then 0 else 1)) ((e - j) / 2 - 1)

/-- A NaN made quiet (43_float.md R608). -/
def quietNan (v : Word) : Word := v ||| fpQuiet

/-- The result of an operation with a NaN operand: that NaN made quiet; of two, the one the draw names; INV iff one is
signaling (43_float.md R605, R608). None where neither is a NaN. -/
def nanResult (k : FpCtl) (a b : FVal) : Option FpOut :=
  match a, b with
  | .nan sa va, .nan sb vb =>
    some (.raising (quietNan (if k.free.nanFirst then va else vb)) (Conds.when (sa || sb) Conds.inv))
  | .nan sa va, _ => some (.raising (quietNan va) (Conds.when sa Conds.inv))
  | _, .nan sb vb => some (.raising (quietNan vb) (Conds.when sb Conds.inv))
  | _, _ => none

/-- An operation of two operands: invalid operands (43_float.md R602, R603), reserved operands (R610), NaNs (R608), then the
operation on infinities and numbers. -/
def Fmt.op2 (fm : Fmt) (k : FpCtl) (a b : Word) (f : FVal → FVal → FpOut) : FpOut :=
  if !Fmt.valid fm a || !Fmt.valid fm b then .invalidOperand k
  else
    let x := Fmt.value fm k.dnz a
    let y := Fmt.value fm k.dnz b
    if x = .reserved ∨ y = .reserved then .vaxReserved k
    else (nanResult k x y).getD (f x y)

/-- An operation of one operand. -/
def Fmt.op1 (fm : Fmt) (k : FpCtl) (b : Word) (f : FVal → FpOut) : FpOut :=
  if !Fmt.valid fm b then .invalidOperand k
  else
    let y := Fmt.value fm k.dnz b
    if y = .reserved then .vaxReserved k else f y

/-- −a. -/
def FVal.negate (a : FVal) : FVal :=
  match a with
  | .inf n => .inf (!n)
  | .num n m e => .num (!n) m e
  | .nan g v => .nan g v
  | .reserved => .reserved

/-- a + b on infinities and numbers (43_float.md R605, R620). -/
def Fmt.addVal (fm : Fmt) (k : FpCtl) (a b : FVal) : FpOut :=
  match a, b with
  | .inf na, .inf nb => if na = nb then .exact (fpInf na) else Fmt.invalid fm k
  | .inf na, _ => .exact (fpInf na)
  | _, .inf nb => .exact (fpInf nb)
  | .num na ma ea, .num nb mb eb => Fmt.addNum fm k na ma ea nb mb eb
  | _, _ => Fmt.invalid fm k

/-- ADDx. -/
def Fmt.add (fm : Fmt) (k : FpCtl) (a b : Word) : FpOut := Fmt.op2 fm k a b (Fmt.addVal fm k)

/-- SUBx. -/
def Fmt.sub (fm : Fmt) (k : FpCtl) (a b : Word) : FpOut :=
  Fmt.op2 fm k a b fun x y => Fmt.addVal fm k x (FVal.negate y)

/-- MULx (43_float.md R605: 0 × ∞ is invalid). -/
def Fmt.mul (fm : Fmt) (k : FpCtl) (a b : Word) : FpOut :=
  Fmt.op2 fm k a b fun x y =>
    match x, y with
    | .inf na, .inf nb => .exact (fpInf (na != nb))
    | .inf na, .num nb m _ => if m = 0 then Fmt.invalid fm k else .exact (fpInf (na != nb))
    | .num na m _, .inf nb => if m = 0 then Fmt.invalid fm k else .exact (fpInf (na != nb))
    | .num na ma ea, .num nb mb eb => Fmt.round fm k (na != nb) (ma * mb) (ea + eb)
    | _, _ => Fmt.invalid fm k

/-- DIVx (43_float.md R605, R607: 0/0 and ∞/∞ are invalid, a finite nonzero value over zero is a division by zero). What an
untrapped VAX 0/0 or division by zero delivers is not stated (log 11). -/
def Fmt.div (fm : Fmt) (k : FpCtl) (a b : Word) : FpOut :=
  Fmt.op2 fm k a b fun x y =>
    match x, y with
    | .inf _, .inf _ => Fmt.invalid fm k
    | .inf na, .num nb _ _ => .exact (fpInf (na != nb))
    | .num na _ _, .inf nb => .exact (fpZero (na != nb))
    | .num na ma ea, .num nb mb eb =>
      if mb = 0 then
        if ma = 0 then (if Fmt.vax fm then .vaxOpen k Conds.inv else Fmt.invalid fm k)
        else (if Fmt.vax fm then .vaxOpen k Conds.dze else .raising (fpInf (na != nb)) Conds.dze)
      else if ma = 0 then Fmt.round fm k (na != nb) 0 0
      else Fmt.divNum fm k (na != nb) ma ea mb eb
    | _, _ => Fmt.invalid fm k

/-- SQRTx (43_float.md R605, R663 to R666): −0 is its own root, a negative operand is invalid. -/
def Fmt.sqrt (fm : Fmt) (k : FpCtl) (b : Word) : FpOut :=
  Fmt.op1 fm k b fun y =>
    match y with
    | .nan sg v => .raising (quietNan v) (Conds.when sg Conds.inv)
    | .inf neg => if neg then Fmt.invalid fm k else .exact (fpInf false)
    | .num neg m e =>
      if m = 0 then Fmt.round fm k neg 0 0
      else if neg then (if Fmt.vax fm then .vaxOpen k Conds.inv else Fmt.invalid fm k)
      else Fmt.sqrtNum fm k m e
    | .reserved => Fmt.invalid fm k

/-- The value of a true compare: T 2.0 and G 0.5 (43_float.md sections 3 and 4). -/
def fpTrue : Word := 0x4000000000000000

/-- The result of a compare. -/
def fpBool (b : Bool) : Word := if b then fpTrue else 0

/-- The IEEE compares (43_float.md R628 to R631): `test` is given none for unordered; with `quiet` only a signaling NaN is
invalid, else any NaN. -/
def compareT (test : Option Ordering → Bool) (quiet : Bool) (k : FpCtl) (a b : Word) : FpOut :=
  let x := Fmt.value .t k.dnz a
  let y := Fmt.value .t k.dnz b
  let bad (v : FVal) : Bool := match v with
    | .nan sg _ => sg || !quiet
    | _ => false
  .raising (fpBool (test (FVal.compare x y))) (Conds.when (bad x || bad y) Conds.inv)

/-- The VAX compares (43_float.md R648 to R650). -/
def compareG (test : Ordering → Bool) (k : FpCtl) (a b : Word) : FpOut :=
  Fmt.op2 .g k a b fun x y => .exact (fpBool ((FVal.compare x y).any test))

/-- A conversion of a value to a floating format: CVTTS, CVTST, CVTGF, CVTGD, CVTDG (43_float.md R632, R636, R651 to R653).
A NaN narrows by keeping the top 23 fraction bits and setting the quiet bit (R608). -/
def convert (src dst : Fmt) (k : FpCtl) (b : Word) : FpOut :=
  Fmt.op1 src k b fun y =>
    match y with
    | .nan sg v =>
      .raising (quietNan (match dst with
        | .s => (v >>> 29) <<< 29
        | .t | .f | .g | .d => v)) (Conds.when sg Conds.inv)
    | .inf neg => .exact (fpInf neg)
    | .num neg m e => Fmt.round dst k neg m e
    | .reserved => Fmt.invalid dst k

/-- A conversion of a value to a quadword (43_float.md R633, R654): the low 64 bits of the rounded integer; IOV if it does
not fit; INE, for T only, if it differs from the value. -/
def convertToQ (src : Fmt) (k : FpCtl) (b : Word) : FpOut :=
  Fmt.op1 src k b fun y =>
    match y with
    | .num neg m e =>
      let (n, inexact) := roundAt k.mode neg m e 0
      let v := signedInt neg n
      .raising (BitVec.ofInt 64 v)
        (Conds.when (overflows64 v) Conds.iov ||| Conds.when (inexact && !Fmt.vax src) Conds.ine)
    | .nan _ _ | .inf _ | .reserved => .raising 0 Conds.inv

/-- A conversion of a quadword to a floating format (43_float.md R634, R635, R655, R656). -/
def convertFromQ (dst : Fmt) (k : FpCtl) (b : Word) : FpOut :=
  Fmt.round dst k (decide (b.toInt < 0)) b.toInt.natAbs 0

end Sys2Proof.Machine
end

