-- ==== Sys2Proof/Machine/FloatFix.lean ====
section
/-! DEFINITION. Opcode 0x14 (ITOFx, square root) and FTOIx of opcode 0x1C (43_float.md R660 to R668): the extension the source
calls SQRT; each raises OPCDEC when it is absent (30_encoding.md R309). -/

namespace Sys2Proof.Machine

/-- ITOFS (43_float.md R660). -/
def execItofs (ra fc : Reg) (s : State) : Outcome :=
  needExt .fix s (needFen s (.next (State.finishF s fc (sMemToReg (State.x s ra)))))

/-- ITOFF (43_float.md R661). -/
def execItoff (ra fc : Reg) (s : State) : Outcome :=
  needExt .fix s (needFen s (.next (State.finishF s fc (fMemToReg (State.x s ra)))))

/-- ITOFT (43_float.md R662). -/
def execItoft (ra fc : Reg) (s : State) : Outcome :=
  needExt .fix s (needFen s (.next (State.finishF s fc (id (State.x s ra)))))

/-- SQRTF (43_float.md R663). -/
def execSqrtf (q : Qual) (fb fc : Reg) (s : State) : Outcome :=
  needExt .fix s (vaxOp1 (Fmt.sqrt .f) q fb fc s)

/-- SQRTG (43_float.md R664). -/
def execSqrtg (q : Qual) (fb fc : Reg) (s : State) : Outcome :=
  needExt .fix s (vaxOp1 (Fmt.sqrt .g) q fb fc s)

/-- SQRTS (43_float.md R665). -/
def execSqrts (q : Qual) (fb fc : Reg) (s : State) : Outcome :=
  needExt .fix s (ieeeOp1 (Fmt.sqrt .s) q fb fc s)

/-- SQRTT (43_float.md R666). -/
def execSqrtt (q : Qual) (fb fc : Reg) (s : State) : Outcome :=
  needExt .fix s (ieeeOp1 (Fmt.sqrt .t) q fb fc s)

/-- FTOIT (43_float.md R667). -/
def execFtoit (fa rc : Reg) (s : State) : Outcome :=
  needExt .fix s (needFen s (.next (State.finishX s rc (State.f s fa))))

/-- FTOIS (43_float.md R668). -/
def execFtois (fa rc : Reg) (s : State) : Outcome :=
  needExt .fix s (needFen s (.next (State.finishX s rc (sext32 (sRegToMem (State.f s fa))))))

end Sys2Proof.Machine
end

