-- ==== Sys2Proof/Machine/FloatIeee.lean ====
section
/-! DEFINITION. Opcode 0x16: IEEE arithmetic, compare and convert (43_float.md R620 to R636). -/

namespace Sys2Proof.Machine

/-- ADDS (43_float.md R620). -/
def execAdds (q : Qual) (fa fb fc : Reg) (s : State) : Outcome :=
  ieeeOp2 (Fmt.add .s) q fa fb fc s

/-- ADDT (43_float.md R621). -/
def execAddt (q : Qual) (fa fb fc : Reg) (s : State) : Outcome :=
  ieeeOp2 (Fmt.add .t) q fa fb fc s

/-- SUBS (43_float.md R622). -/
def execSubs (q : Qual) (fa fb fc : Reg) (s : State) : Outcome :=
  ieeeOp2 (Fmt.sub .s) q fa fb fc s

/-- SUBT (43_float.md R623). -/
def execSubt (q : Qual) (fa fb fc : Reg) (s : State) : Outcome :=
  ieeeOp2 (Fmt.sub .t) q fa fb fc s

/-- MULS (43_float.md R624). -/
def execMuls (q : Qual) (fa fb fc : Reg) (s : State) : Outcome :=
  ieeeOp2 (Fmt.mul .s) q fa fb fc s

/-- MULT (43_float.md R625). -/
def execMult (q : Qual) (fa fb fc : Reg) (s : State) : Outcome :=
  ieeeOp2 (Fmt.mul .t) q fa fb fc s

/-- DIVS (43_float.md R626). -/
def execDivs (q : Qual) (fa fb fc : Reg) (s : State) : Outcome :=
  ieeeOp2 (Fmt.div .s) q fa fb fc s

/-- DIVT (43_float.md R627). -/
def execDivt (q : Qual) (fa fb fc : Reg) (s : State) : Outcome :=
  ieeeOp2 (Fmt.div .t) q fa fb fc s

/-- CMPTUN (43_float.md R628). -/
def execCmptun (q : Qual) (fa fb fc : Reg) (s : State) : Outcome :=
  ieeeOp2 (compareT (fun o => o == none) true) q fa fb fc s

/-- CMPTEQ (43_float.md R629). -/
def execCmpteq (q : Qual) (fa fb fc : Reg) (s : State) : Outcome :=
  ieeeOp2 (compareT (fun o => o == some .eq) true) q fa fb fc s

/-- CMPTLT (43_float.md R630). -/
def execCmptlt (q : Qual) (fa fb fc : Reg) (s : State) : Outcome :=
  ieeeOp2 (compareT (fun o => o == some .lt) false) q fa fb fc s

/-- CMPTLE (43_float.md R631). -/
def execCmptle (q : Qual) (fa fb fc : Reg) (s : State) : Outcome :=
  ieeeOp2 (compareT (fun o => o == some .lt || o == some .eq) false) q fa fb fc s

/-- CVTTS (43_float.md R632). -/
def execCvtts (q : Qual) (fb fc : Reg) (s : State) : Outcome :=
  ieeeOp1 (convert .t .s) q fb fc s

/-- CVTTQ (43_float.md R633). -/
def execCvttq (q : Qual) (fb fc : Reg) (s : State) : Outcome :=
  ieeeOp1 (convertToQ .t) q fb fc s

/-- CVTQS (43_float.md R634). -/
def execCvtqs (q : Qual) (fb fc : Reg) (s : State) : Outcome :=
  ieeeOp1 (convertFromQ .s) q fb fc s

/-- CVTQT (43_float.md R635). -/
def execCvtqt (q : Qual) (fb fc : Reg) (s : State) : Outcome :=
  ieeeOp1 (convertFromQ .t) q fb fc s

/-- CVTST (43_float.md R636): the conversion is exact, so no rounding qualifier applies. -/
def execCvtst (sw : Bool) (fb fc : Reg) (s : State) : Outcome :=
  ieeeOp1 (convert .s .t) ⟨if sw then .s else .none, .normal⟩ fb fc s

end Sys2Proof.Machine
end

