-- ==== Sys2Proof/Machine/FloatMisc.lean ====
section
/-! DEFINITION. Opcode 0x17: floating miscellany (43_float.md R670 to R682). -/

namespace Sys2Proof.Machine

/-- CVTLQ's conversion (43_float.md R600, R670). -/
def longToQuad (v : Word) : Word := (v.extractLsb' 62 2 ++ v.extractLsb' 29 30).signExtend 64

/-- CVTQL's conversion (43_float.md R600, R671): IOV if the value does not fit 32 bits. -/
def quadToLong (v : Word) : FpOut :=
  .raising (v.extractLsb' 30 2 ++ (0 : BitVec 3) ++ v.extractLsb' 0 30 ++ (0 : BitVec 29))
    (Conds.when (overflows32 v.toInt) Conds.iov)

/-- The template of the floating conditional moves (43_float.md R677 to R682). -/
def fcmov (t : ZeroTest) (fa fb fc : Reg) (s : State) : Outcome :=
  needFen s (.next
    (if fpZeroTest t (State.f s fa) then State.finishF s fc (State.f s fb) else State.advance s))

/-- CVTLQ (43_float.md R670). -/
def execCvtlq (fb fc : Reg) (s : State) : Outcome :=
  needFen s (.next (State.finishF s fc (longToQuad (State.f s fb))))

/-- CVTQL (43_float.md R671). -/
def execCvtql (tr : Trap) (fb fc : Reg) (s : State) : Outcome :=
  needFen s (fpOperate tr fc (quadToLong (State.f s fb)) s)

/-- CPYS (43_float.md R672). -/
def execCpys (fa fb fc : Reg) (s : State) : Outcome :=
  needFen s (.next (State.finishF s fc
    ((State.f s fa).extractLsb' 63 1 ++ (State.f s fb).extractLsb' 0 63)))

/-- CPYSN (43_float.md R673). -/
def execCpysn (fa fb fc : Reg) (s : State) : Outcome :=
  needFen s (.next (State.finishF s fc
    (~~~(State.f s fa).extractLsb' 63 1 ++ (State.f s fb).extractLsb' 0 63)))

/-- CPYSE (43_float.md R674). -/
def execCpyse (fa fb fc : Reg) (s : State) : Outcome :=
  needFen s (.next (State.finishF s fc
    ((State.f s fa).extractLsb' 52 12 ++ (State.f s fb).extractLsb' 0 52)))

/-- MT_FPCR (43_float.md R675): bits 63 and 47:0 are not stored. -/
def execMtFpcr (fa _fb _fc : Reg) (s : State) : Outcome :=
  needFen s (.next (State.advance
    { s with cpu := { s.cpu with fpcr := State.f s fa &&& fpcrMask } }))

/-- MF_FPCR (43_float.md R676). -/
def execMfFpcr (fa _fb _fc : Reg) (s : State) : Outcome :=
  needFen s (.next (State.finishF s fa (Fpcr.value s.cpu.fpcr)))

/-- FCMOVEQ (43_float.md R677). -/
def execFcmoveq (fa fb fc : Reg) (s : State) : Outcome :=
  fcmov .eq fa fb fc s

/-- FCMOVNE (43_float.md R678). -/
def execFcmovne (fa fb fc : Reg) (s : State) : Outcome :=
  fcmov .ne fa fb fc s

/-- FCMOVLT (43_float.md R679). -/
def execFcmovlt (fa fb fc : Reg) (s : State) : Outcome :=
  fcmov .lt fa fb fc s

/-- FCMOVGE (43_float.md R680). -/
def execFcmovge (fa fb fc : Reg) (s : State) : Outcome :=
  fcmov .ge fa fb fc s

/-- FCMOVLE (43_float.md R681). -/
def execFcmovle (fa fb fc : Reg) (s : State) : Outcome :=
  fcmov .le fa fb fc s

/-- FCMOVGT (43_float.md R682). -/
def execFcmovgt (fa fb fc : Reg) (s : State) : Outcome :=
  fcmov .gt fa fb fc s

end Sys2Proof.Machine
end

