-- ==== Sys2Proof/Machine/FloatVax.lean ====
section
/-! DEFINITION. Opcode 0x15: VAX floating (43_float.md R640 to R656). -/

namespace Sys2Proof.Machine

/-- ADDF (43_float.md R640). -/
def execAddf (q : Qual) (fa fb fc : Reg) (s : State) : Outcome :=
  vaxOp2 (Fmt.add .f) q fa fb fc s

/-- ADDG (43_float.md R641). -/
def execAddg (q : Qual) (fa fb fc : Reg) (s : State) : Outcome :=
  vaxOp2 (Fmt.add .g) q fa fb fc s

/-- SUBF (43_float.md R642). -/
def execSubf (q : Qual) (fa fb fc : Reg) (s : State) : Outcome :=
  vaxOp2 (Fmt.sub .f) q fa fb fc s

/-- SUBG (43_float.md R643). -/
def execSubg (q : Qual) (fa fb fc : Reg) (s : State) : Outcome :=
  vaxOp2 (Fmt.sub .g) q fa fb fc s

/-- MULF (43_float.md R644). -/
def execMulf (q : Qual) (fa fb fc : Reg) (s : State) : Outcome :=
  vaxOp2 (Fmt.mul .f) q fa fb fc s

/-- MULG (43_float.md R645). -/
def execMulg (q : Qual) (fa fb fc : Reg) (s : State) : Outcome :=
  vaxOp2 (Fmt.mul .g) q fa fb fc s

/-- DIVF (43_float.md R646). -/
def execDivf (q : Qual) (fa fb fc : Reg) (s : State) : Outcome :=
  vaxOp2 (Fmt.div .f) q fa fb fc s

/-- DIVG (43_float.md R647). -/
def execDivg (q : Qual) (fa fb fc : Reg) (s : State) : Outcome :=
  vaxOp2 (Fmt.div .g) q fa fb fc s

/-- CMPGEQ (43_float.md R648). -/
def execCmpgeq (q : Qual) (fa fb fc : Reg) (s : State) : Outcome :=
  vaxOp2 (compareG (fun o => o == .eq)) q fa fb fc s

/-- CMPGLT (43_float.md R649). -/
def execCmpglt (q : Qual) (fa fb fc : Reg) (s : State) : Outcome :=
  vaxOp2 (compareG (fun o => o == .lt)) q fa fb fc s

/-- CMPGLE (43_float.md R650). -/
def execCmpgle (q : Qual) (fa fb fc : Reg) (s : State) : Outcome :=
  vaxOp2 (compareG (fun o => o != .gt)) q fa fb fc s

/-- CVTGF (43_float.md R651). -/
def execCvtgf (q : Qual) (fb fc : Reg) (s : State) : Outcome :=
  vaxOp1 (convert .g .f) q fb fc s

/-- CVTGD (43_float.md R652). -/
def execCvtgd (q : Qual) (fb fc : Reg) (s : State) : Outcome :=
  vaxOp1 (convert .g .d) q fb fc s

/-- CVTDG (43_float.md R653). -/
def execCvtdg (q : Qual) (fb fc : Reg) (s : State) : Outcome :=
  vaxOp1 (convert .d .g) q fb fc s

/-- CVTGQ (43_float.md R654). -/
def execCvtgq (q : Qual) (fb fc : Reg) (s : State) : Outcome :=
  vaxOp1 (convertToQ .g) q fb fc s

/-- CVTQF (43_float.md R655). -/
def execCvtqf (q : Qual) (fb fc : Reg) (s : State) : Outcome :=
  vaxOp1 (convertFromQ .f) q fb fc s

/-- CVTQG (43_float.md R656). -/
def execCvtqg (q : Qual) (fb fc : Reg) (s : State) : Outcome :=
  vaxOp1 (convertFromQ .g) q fb fc s

end Sys2Proof.Machine
end

