-- ==== Sys2Proof/Machine/IntArith.lean ====
section
/-! DEFINITION. Opcode 0x10: integer arithmetic and compare (40_integer.md R401 to R422). -/

namespace Sys2Proof.Machine

/-- `sext_32(exact[31:0])` (40_integer.md R402). -/
def wrap32 (n : Int) : Word := (BitVec.ofInt 32 n).signExtend 64

/-- `exact mod 2^64` (40_integer.md R404). -/
def wrap64 (n : Int) : Word := BitVec.ofInt 64 n

/-- Bit `i` of the result is set iff byte `i` of `a` is at least byte `i` of `b`, unsigned (40_integer.md R422). -/
def cmpBytesGe (a b : Word) : Word :=
  let g (i : Nat) : BitVec 1 := BitVec.ofBool (decide ((byteAt b i).toNat ≤ (byteAt a i).toNat))
  (g 7 ++ g 6 ++ g 5 ++ g 4 ++ g 3 ++ g 2 ++ g 1 ++ g 0).setWidth 64

/-- ADDL (40_integer.md R401). -/
def execAddl (ra : Reg) (o : Operand) (rc : Reg) (s : State) : Outcome :=
  intOp (fun a b => sext32 (a + b)) ra o rc s

/-- ADDL/V (40_integer.md R402). -/
def execAddlV (ra : Reg) (o : Operand) (rc : Reg) (s : State) : Outcome :=
  intOpV (fun a b => (a.setWidth 32).toInt + (b.setWidth 32).toInt) wrap32 overflows32 ra o rc s

/-- ADDQ (40_integer.md R403). -/
def execAddq (ra : Reg) (o : Operand) (rc : Reg) (s : State) : Outcome :=
  intOp (fun a b => a + b) ra o rc s

/-- ADDQ/V (40_integer.md R404). -/
def execAddqV (ra : Reg) (o : Operand) (rc : Reg) (s : State) : Outcome :=
  intOpV (fun a b => a.toInt + b.toInt) wrap64 overflows64 ra o rc s

/-- SUBL (40_integer.md R405). -/
def execSubl (ra : Reg) (o : Operand) (rc : Reg) (s : State) : Outcome :=
  intOp (fun a b => sext32 (a - b)) ra o rc s

/-- SUBL/V (40_integer.md R406). -/
def execSublV (ra : Reg) (o : Operand) (rc : Reg) (s : State) : Outcome :=
  intOpV (fun a b => (a.setWidth 32).toInt - (b.setWidth 32).toInt) wrap32 overflows32 ra o rc s

/-- SUBQ (40_integer.md R407). -/
def execSubq (ra : Reg) (o : Operand) (rc : Reg) (s : State) : Outcome :=
  intOp (fun a b => a - b) ra o rc s

/-- SUBQ/V (40_integer.md R408). -/
def execSubqV (ra : Reg) (o : Operand) (rc : Reg) (s : State) : Outcome :=
  intOpV (fun a b => a.toInt - b.toInt) wrap64 overflows64 ra o rc s

/-- S4ADDL (40_integer.md R409). -/
def execS4addl (ra : Reg) (o : Operand) (rc : Reg) (s : State) : Outcome :=
  intOp (fun a b => sext32 ((a <<< 2) + b)) ra o rc s

/-- S4ADDQ (40_integer.md R411). -/
def execS4addq (ra : Reg) (o : Operand) (rc : Reg) (s : State) : Outcome :=
  intOp (fun a b => (a <<< 2) + b) ra o rc s

/-- S4SUBL (40_integer.md R413). -/
def execS4subl (ra : Reg) (o : Operand) (rc : Reg) (s : State) : Outcome :=
  intOp (fun a b => sext32 ((a <<< 2) - b)) ra o rc s

/-- S4SUBQ (40_integer.md R415). -/
def execS4subq (ra : Reg) (o : Operand) (rc : Reg) (s : State) : Outcome :=
  intOp (fun a b => (a <<< 2) - b) ra o rc s

/-- S8ADDL (40_integer.md R410). -/
def execS8addl (ra : Reg) (o : Operand) (rc : Reg) (s : State) : Outcome :=
  intOp (fun a b => sext32 ((a <<< 3) + b)) ra o rc s

/-- S8ADDQ (40_integer.md R412). -/
def execS8addq (ra : Reg) (o : Operand) (rc : Reg) (s : State) : Outcome :=
  intOp (fun a b => (a <<< 3) + b) ra o rc s

/-- S8SUBL (40_integer.md R414). -/
def execS8subl (ra : Reg) (o : Operand) (rc : Reg) (s : State) : Outcome :=
  intOp (fun a b => sext32 ((a <<< 3) - b)) ra o rc s

/-- S8SUBQ (40_integer.md R416). -/
def execS8subq (ra : Reg) (o : Operand) (rc : Reg) (s : State) : Outcome :=
  intOp (fun a b => (a <<< 3) - b) ra o rc s

/-- CMPEQ (40_integer.md R417). -/
def execCmpeq (ra : Reg) (o : Operand) (rc : Reg) (s : State) : Outcome :=
  intOp (fun a b => ofBool (a == b)) ra o rc s

/-- CMPLT (40_integer.md R418). -/
def execCmplt (ra : Reg) (o : Operand) (rc : Reg) (s : State) : Outcome :=
  intOp (fun a b => ofBool (decide (a.toInt < b.toInt))) ra o rc s

/-- CMPLE (40_integer.md R419). -/
def execCmple (ra : Reg) (o : Operand) (rc : Reg) (s : State) : Outcome :=
  intOp (fun a b => ofBool (decide (a.toInt ≤ b.toInt))) ra o rc s

/-- CMPULT (40_integer.md R420). -/
def execCmpult (ra : Reg) (o : Operand) (rc : Reg) (s : State) : Outcome :=
  intOp (fun a b => ofBool (decide (a.toNat < b.toNat))) ra o rc s

/-- CMPULE (40_integer.md R421). -/
def execCmpule (ra : Reg) (o : Operand) (rc : Reg) (s : State) : Outcome :=
  intOp (fun a b => ofBool (decide (a.toNat ≤ b.toNat))) ra o rc s

/-- CMPBGE (40_integer.md R422). -/
def execCmpbge (ra : Reg) (o : Operand) (rc : Reg) (s : State) : Outcome :=
  intOp cmpBytesGe ra o rc s

end Sys2Proof.Machine
end

