-- ==== Sys2Proof/Machine/IntExt.lean ====
section
/-! DEFINITION. Opcode 0x1C: BWX sign extension, CIX counts and MVI (40_integer.md R475 to R492). Each raises OPCDEC when its
extension is absent (30_encoding.md R309). -/

namespace Sys2Proof.Machine

/-- The number of one bits (40_integer.md R477). -/
def popCount (v : Word) : Word := BitVec.ofNat 64 ((List.range 64).countP fun i => v.getLsbD i)

/-- The zero bits above the most significant one bit; 64 for 0 (40_integer.md R478). -/
def leadingZeros (v : Word) : Word := BitVec.ofNat 64 (((List.range 64).takeWhile fun i => !v.getLsbD (63 - i)).length)

/-- The zero bits below the least significant one bit; 64 for 0 (40_integer.md R479). -/
def trailingZeros (v : Word) : Word := BitVec.ofNat 64 (((List.range 64).takeWhile fun i => !v.getLsbD i).length)

/-- The sum of the absolute differences of the unsigned bytes (40_integer.md R480). -/
def pixelError (a b : Word) : Word :=
  BitVec.ofNat 64 ((List.range 8).foldl (fun n i =>
    let x := (byteAt a i).toNat
    let y := (byteAt b i).toNat
    n + (x - y) + (y - x)) 0)

/-- The signed minimum of two lanes. -/
def minS {n : Nat} (x y : BitVec n) : BitVec n := if x.toInt ≤ y.toInt then x else y
/-- The unsigned minimum of two lanes. -/
def minU {n : Nat} (x y : BitVec n) : BitVec n := if x.toNat ≤ y.toNat then x else y
/-- The signed maximum of two lanes. -/
def maxS {n : Nat} (x y : BitVec n) : BitVec n := if x.toInt ≤ y.toInt then y else x
/-- The unsigned maximum of two lanes. -/
def maxU {n : Nat} (x y : BitVec n) : BitVec n := if x.toNat ≤ y.toNat then y else x

/-- An operation on the eight byte lanes. -/
def byteLanes (f : Byte → Byte → Byte) (a b : Word) : Word := ofByteLanes fun i => f (byteAt a i) (byteAt b i)

/-- An operation on the four word lanes. -/
def wordLanes (f : BitVec 16 → BitVec 16 → BitVec 16) (a b : Word) : Word :=
  ofWordLanes fun i => f (wordAt a i) (wordAt b i)

/-- PKWB's packing (40_integer.md R489). -/
def packWords (v : Word) : Word := ofByteLanes fun i => if i < 4 then (wordAt v i).setWidth 8 else 0

/-- PKLB's packing (40_integer.md R490). -/
def packLongs (v : Word) : Word := ofByteLanes fun i => if i = 0 then byteAt v 0 else if i = 1 then byteAt v 4 else 0

/-- UNPKBW's unpacking (40_integer.md R491). -/
def unpackWords (v : Word) : Word := ofWordLanes fun i => (byteAt v i).setWidth 16

/-- UNPKBL's unpacking (40_integer.md R492). -/
def unpackLongs (v : Word) : Word := (byteAt v 1).setWidth 32 ++ (byteAt v 0).setWidth 32

/-- SEXTB (40_integer.md R475). -/
def execSextb (o : Operand) (rc : Reg) (s : State) : Outcome :=
  needExt .bwx s (intOp1 (fun b => (b.setWidth 8).signExtend 64) o rc s)

/-- SEXTW (40_integer.md R476). -/
def execSextw (o : Operand) (rc : Reg) (s : State) : Outcome :=
  needExt .bwx s (intOp1 (fun b => (b.setWidth 16).signExtend 64) o rc s)

/-- CTPOP (40_integer.md R477). -/
def execCtpop (o : Operand) (rc : Reg) (s : State) : Outcome :=
  needExt .cix s (intOp1 popCount o rc s)

/-- CTLZ (40_integer.md R478). -/
def execCtlz (o : Operand) (rc : Reg) (s : State) : Outcome :=
  needExt .cix s (intOp1 leadingZeros o rc s)

/-- CTTZ (40_integer.md R479). -/
def execCttz (o : Operand) (rc : Reg) (s : State) : Outcome :=
  needExt .cix s (intOp1 trailingZeros o rc s)

/-- PERR (40_integer.md R480). -/
def execPerr (ra : Reg) (o : Operand) (rc : Reg) (s : State) : Outcome :=
  needExt .mvi s (intOp pixelError ra o rc s)

/-- MINSB8 (40_integer.md R481). -/
def execMinsb8 (ra : Reg) (o : Operand) (rc : Reg) (s : State) : Outcome :=
  needExt .mvi s (intOp (byteLanes minS) ra o rc s)

/-- MINSW4 (40_integer.md R482). -/
def execMinsw4 (ra : Reg) (o : Operand) (rc : Reg) (s : State) : Outcome :=
  needExt .mvi s (intOp (wordLanes minS) ra o rc s)

/-- MINUB8 (40_integer.md R483). -/
def execMinub8 (ra : Reg) (o : Operand) (rc : Reg) (s : State) : Outcome :=
  needExt .mvi s (intOp (byteLanes minU) ra o rc s)

/-- MINUW4 (40_integer.md R484). -/
def execMinuw4 (ra : Reg) (o : Operand) (rc : Reg) (s : State) : Outcome :=
  needExt .mvi s (intOp (wordLanes minU) ra o rc s)

/-- MAXUB8 (40_integer.md R485). -/
def execMaxub8 (ra : Reg) (o : Operand) (rc : Reg) (s : State) : Outcome :=
  needExt .mvi s (intOp (byteLanes maxU) ra o rc s)

/-- MAXUW4 (40_integer.md R486). -/
def execMaxuw4 (ra : Reg) (o : Operand) (rc : Reg) (s : State) : Outcome :=
  needExt .mvi s (intOp (wordLanes maxU) ra o rc s)

/-- MAXSB8 (40_integer.md R487). -/
def execMaxsb8 (ra : Reg) (o : Operand) (rc : Reg) (s : State) : Outcome :=
  needExt .mvi s (intOp (byteLanes maxS) ra o rc s)

/-- MAXSW4 (40_integer.md R488). -/
def execMaxsw4 (ra : Reg) (o : Operand) (rc : Reg) (s : State) : Outcome :=
  needExt .mvi s (intOp (wordLanes maxS) ra o rc s)

/-- PKWB (40_integer.md R489). -/
def execPkwb (o : Operand) (rc : Reg) (s : State) : Outcome :=
  needExt .mvi s (intOp1 packWords o rc s)

/-- PKLB (40_integer.md R490). -/
def execPklb (o : Operand) (rc : Reg) (s : State) : Outcome :=
  needExt .mvi s (intOp1 packLongs o rc s)

/-- UNPKBW (40_integer.md R491). -/
def execUnpkbw (o : Operand) (rc : Reg) (s : State) : Outcome :=
  needExt .mvi s (intOp1 unpackWords o rc s)

/-- UNPKBL (40_integer.md R492). -/
def execUnpkbl (o : Operand) (rc : Reg) (s : State) : Outcome :=
  needExt .mvi s (intOp1 unpackLongs o rc s)

end Sys2Proof.Machine
end

