-- ==== Sys2Proof/Machine/IntLogical.lean ====
section
/-! DEFINITION. Opcode 0x11: logical, conditional move, AMASK, IMPLVER (40_integer.md R425 to R440). -/

namespace Sys2Proof.Machine

/-- `amask(CPU_MODEL)`: BWX bit 0, FIX bit 1, CIX bit 2, MVI bit 8 (40_integer.md R439). -/
def amaskOf (m : CpuModel) : Word :=
  ofBool (CpuModel.has m .bwx) ||| (ofBool (CpuModel.has m .fix) <<< 1) ||| (ofBool (CpuModel.has m .cix) <<< 2)
    ||| (ofBool (CpuModel.has m .mvi) <<< 8)

/-- The value of IMPLVER (40_integer.md R440). -/
def implverOf (m : CpuModel) : Word :=
  match m with
  | .ev4 => 0
  | .ev5 | .ev56 | .pca56 => 1
  | .ev6 | .ev67 | .ev68 | .ev7 | .ev78 => 2

/-- AND (40_integer.md R425). -/
def execAnd (ra : Reg) (o : Operand) (rc : Reg) (s : State) : Outcome :=
  intOp (fun a b => a &&& b) ra o rc s

/-- BIC (40_integer.md R426). -/
def execBic (ra : Reg) (o : Operand) (rc : Reg) (s : State) : Outcome :=
  intOp (fun a b => a &&& ~~~b) ra o rc s

/-- BIS (40_integer.md R427). -/
def execBis (ra : Reg) (o : Operand) (rc : Reg) (s : State) : Outcome :=
  intOp (fun a b => a ||| b) ra o rc s

/-- ORNOT (40_integer.md R428). -/
def execOrnot (ra : Reg) (o : Operand) (rc : Reg) (s : State) : Outcome :=
  intOp (fun a b => a ||| ~~~b) ra o rc s

/-- XOR (40_integer.md R429). -/
def execXor (ra : Reg) (o : Operand) (rc : Reg) (s : State) : Outcome :=
  intOp (fun a b => a ^^^ b) ra o rc s

/-- EQV (40_integer.md R430). -/
def execEqv (ra : Reg) (o : Operand) (rc : Reg) (s : State) : Outcome :=
  intOp (fun a b => a ^^^ ~~~b) ra o rc s

/-- CMOVEQ (40_integer.md R431). -/
def execCmoveq (ra : Reg) (o : Operand) (rc : Reg) (s : State) : Outcome :=
  cmov (ZeroTest.holds .eq) ra o rc s

/-- CMOVNE (40_integer.md R432). -/
def execCmovne (ra : Reg) (o : Operand) (rc : Reg) (s : State) : Outcome :=
  cmov (ZeroTest.holds .ne) ra o rc s

/-- CMOVLT (40_integer.md R433). -/
def execCmovlt (ra : Reg) (o : Operand) (rc : Reg) (s : State) : Outcome :=
  cmov (ZeroTest.holds .lt) ra o rc s

/-- CMOVGE (40_integer.md R434). -/
def execCmovge (ra : Reg) (o : Operand) (rc : Reg) (s : State) : Outcome :=
  cmov (ZeroTest.holds .ge) ra o rc s

/-- CMOVLE (40_integer.md R435). -/
def execCmovle (ra : Reg) (o : Operand) (rc : Reg) (s : State) : Outcome :=
  cmov (ZeroTest.holds .le) ra o rc s

/-- CMOVGT (40_integer.md R436). -/
def execCmovgt (ra : Reg) (o : Operand) (rc : Reg) (s : State) : Outcome :=
  cmov (ZeroTest.holds .gt) ra o rc s

/-- CMOVLBS (40_integer.md R437). -/
def execCmovlbs (ra : Reg) (o : Operand) (rc : Reg) (s : State) : Outcome :=
  cmov (ZeroTest.holds .lbs) ra o rc s

/-- CMOVLBC (40_integer.md R438). -/
def execCmovlbc (ra : Reg) (o : Operand) (rc : Reg) (s : State) : Outcome :=
  cmov (ZeroTest.holds .lbc) ra o rc s

/-- AMASK (40_integer.md R439). -/
def execAmask (o : Operand) (rc : Reg) (s : State) : Outcome :=
  intOp1 (fun b => b &&& ~~~amaskOf s.cfg.cpuModel) o rc s

/-- IMPLVER (40_integer.md R440): any Rbv is ignored. -/
def execImplver (o : Operand) (rc : Reg) (s : State) : Outcome :=
  intOp1 (fun _ => implverOf s.cfg.cpuModel) o rc s

end Sys2Proof.Machine
end

