-- ==== Sys2Proof/Machine/IntMul.lean ====
section
/-! DEFINITION. Opcode 0x13: multiply (40_integer.md R468 to R472). -/

namespace Sys2Proof.Machine

/-- MULL (40_integer.md R468). -/
def execMull (ra : Reg) (o : Operand) (rc : Reg) (s : State) : Outcome :=
  intOp (fun a b => sext32 (a * b)) ra o rc s

/-- MULL/V (40_integer.md R469). -/
def execMullV (ra : Reg) (o : Operand) (rc : Reg) (s : State) : Outcome :=
  intOpV (fun a b => (a.setWidth 32).toInt * (b.setWidth 32).toInt) wrap32 overflows32 ra o rc s

/-- MULQ (40_integer.md R470). -/
def execMulq (ra : Reg) (o : Operand) (rc : Reg) (s : State) : Outcome :=
  intOp (fun a b => a * b) ra o rc s

/-- MULQ/V (40_integer.md R471). -/
def execMulqV (ra : Reg) (o : Operand) (rc : Reg) (s : State) : Outcome :=
  intOpV (fun a b => a.toInt * b.toInt) wrap64 overflows64 ra o rc s

/-- UMULH (40_integer.md R472). -/
def execUmulh (ra : Reg) (o : Operand) (rc : Reg) (s : State) : Outcome :=
  intOp (fun a b => BitVec.ofNat 64 (a.toNat * b.toNat / 2 ^ 64)) ra o rc s

end Sys2Proof.Machine
end

