-- ==== Sys2Proof/Machine/IntShift.lean ====
section
/-! DEFINITION. Opcode 0x12: shifts and byte manipulation (40_integer.md R442 to R467). -/

namespace Sys2Proof.Machine

/-- SLL (40_integer.md R442). -/
def execSll (ra : Reg) (o : Operand) (rc : Reg) (s : State) : Outcome :=
  intOp (fun a b => a <<< (b.extractLsb' 0 6).toNat) ra o rc s

/-- SRL (40_integer.md R443). -/
def execSrl (ra : Reg) (o : Operand) (rc : Reg) (s : State) : Outcome :=
  intOp (fun a b => a >>> (b.extractLsb' 0 6).toNat) ra o rc s

/-- SRA (40_integer.md R444). -/
def execSra (ra : Reg) (o : Operand) (rc : Reg) (s : State) : Outcome :=
  intOp (fun a b => a.sshiftRight (b.extractLsb' 0 6).toNat) ra o rc s

/-- ZAP (40_integer.md R445). -/
def execZap (ra : Reg) (o : Operand) (rc : Reg) (s : State) : Outcome :=
  intOp (fun a b => byteZap a (b.setWidth 8)) ra o rc s

/-- ZAPNOT (40_integer.md R446). -/
def execZapnot (ra : Reg) (o : Operand) (rc : Reg) (s : State) : Outcome :=
  intOp (fun a b => byteZapnot a (b.setWidth 8)) ra o rc s

/-- MSKBL (40_integer.md R447). -/
def execMskbl (ra : Reg) (o : Operand) (rc : Reg) (s : State) : Outcome :=
  intOp (mskLow .byte) ra o rc s

/-- MSKWL (40_integer.md R448). -/
def execMskwl (ra : Reg) (o : Operand) (rc : Reg) (s : State) : Outcome :=
  intOp (mskLow .word) ra o rc s

/-- MSKLL (40_integer.md R449). -/
def execMskll (ra : Reg) (o : Operand) (rc : Reg) (s : State) : Outcome :=
  intOp (mskLow .long) ra o rc s

/-- MSKQL (40_integer.md R450). -/
def execMskql (ra : Reg) (o : Operand) (rc : Reg) (s : State) : Outcome :=
  intOp (mskLow .quad) ra o rc s

/-- MSKWH (40_integer.md R451). -/
def execMskwh (ra : Reg) (o : Operand) (rc : Reg) (s : State) : Outcome :=
  intOp (mskHigh .word) ra o rc s

/-- MSKLH (40_integer.md R452). -/
def execMsklh (ra : Reg) (o : Operand) (rc : Reg) (s : State) : Outcome :=
  intOp (mskHigh .long) ra o rc s

/-- MSKQH (40_integer.md R453). -/
def execMskqh (ra : Reg) (o : Operand) (rc : Reg) (s : State) : Outcome :=
  intOp (mskHigh .quad) ra o rc s

/-- EXTBL (40_integer.md R454). -/
def execExtbl (ra : Reg) (o : Operand) (rc : Reg) (s : State) : Outcome :=
  intOp (extLow .byte) ra o rc s

/-- EXTWL (40_integer.md R455). -/
def execExtwl (ra : Reg) (o : Operand) (rc : Reg) (s : State) : Outcome :=
  intOp (extLow .word) ra o rc s

/-- EXTLL (40_integer.md R456). -/
def execExtll (ra : Reg) (o : Operand) (rc : Reg) (s : State) : Outcome :=
  intOp (extLow .long) ra o rc s

/-- EXTQL (40_integer.md R457). -/
def execExtql (ra : Reg) (o : Operand) (rc : Reg) (s : State) : Outcome :=
  intOp (extLow .quad) ra o rc s

/-- EXTWH (40_integer.md R458). -/
def execExtwh (ra : Reg) (o : Operand) (rc : Reg) (s : State) : Outcome :=
  intOp (extHigh .word) ra o rc s

/-- EXTLH (40_integer.md R459). -/
def execExtlh (ra : Reg) (o : Operand) (rc : Reg) (s : State) : Outcome :=
  intOp (extHigh .long) ra o rc s

/-- EXTQH (40_integer.md R460). -/
def execExtqh (ra : Reg) (o : Operand) (rc : Reg) (s : State) : Outcome :=
  intOp (extHigh .quad) ra o rc s

/-- INSBL (40_integer.md R461). -/
def execInsbl (ra : Reg) (o : Operand) (rc : Reg) (s : State) : Outcome :=
  intOp (insLow .byte) ra o rc s

/-- INSWL (40_integer.md R462). -/
def execInswl (ra : Reg) (o : Operand) (rc : Reg) (s : State) : Outcome :=
  intOp (insLow .word) ra o rc s

/-- INSLL (40_integer.md R463). -/
def execInsll (ra : Reg) (o : Operand) (rc : Reg) (s : State) : Outcome :=
  intOp (insLow .long) ra o rc s

/-- INSQL (40_integer.md R464). -/
def execInsql (ra : Reg) (o : Operand) (rc : Reg) (s : State) : Outcome :=
  intOp (insLow .quad) ra o rc s

/-- INSWH (40_integer.md R465). -/
def execInswh (ra : Reg) (o : Operand) (rc : Reg) (s : State) : Outcome :=
  intOp (insHigh .word) ra o rc s

/-- INSLH (40_integer.md R466). -/
def execInslh (ra : Reg) (o : Operand) (rc : Reg) (s : State) : Outcome :=
  intOp (insHigh .long) ra o rc s

/-- INSQH (40_integer.md R467). -/
def execInsqh (ra : Reg) (o : Operand) (rc : Reg) (s : State) : Outcome :=
  intOp (insHigh .quad) ra o rc s

end Sys2Proof.Machine
end

