-- ==== Sys2Proof/Machine/LoadStore.lean ====
section
/-! DEFINITION. Loads, stores and address instructions (41_loadstore.md R500 to R526). -/

namespace Sys2Proof.Machine

/-- The template of STx_C: Ra becomes 1 if the store happened, else 0 (20_memory.md R183, R184). -/
def storeConditional (n : Nat) (a : Access) (ea : Word) (ra : Reg) (s : State) : Outcome :=
  Res.run (Res.bind (State.memWriteConditional n a ea (State.x s ra) s) fun done s =>
    .ok () (State.finishX s ra (ofBool done)))

/-- LDA (41_loadstore.md R501). -/
def execLda (ra rb : Reg) (disp : BitVec 16) (s : State) : Outcome :=
  .next (State.finishX s ra (State.ea s rb disp))

/-- LDAH (41_loadstore.md R502). -/
def execLdah (ra rb : Reg) (disp : BitVec 16) (s : State) : Outcome :=
  .next (State.finishX s ra (State.x s rb + disp.signExtend 64 * 65536))

/-- LDBU (41_loadstore.md R503). -/
def execLdbu (ra rb : Reg) (disp : BitVec 16) (s : State) : Outcome :=
  needExt .bwx s (loadX (State.memRead 1 ⟨.read, ra, 0x0a⟩ (State.ea s rb disp)) id ra s)

/-- LDWU (41_loadstore.md R504). -/
def execLdwu (ra rb : Reg) (disp : BitVec 16) (s : State) : Outcome :=
  needExt .bwx s (loadX (State.memRead 2 ⟨.read, ra, 0x0c⟩ (State.ea s rb disp)) id ra s)

/-- LDL (41_loadstore.md R505). -/
def execLdl (ra rb : Reg) (disp : BitVec 16) (s : State) : Outcome :=
  loadX (State.memRead 4 ⟨.read, ra, 0x28⟩ (State.ea s rb disp)) sext32 ra s

/-- LDQ (41_loadstore.md R506). -/
def execLdq (ra rb : Reg) (disp : BitVec 16) (s : State) : Outcome :=
  loadX (State.memRead 8 ⟨.read, ra, 0x29⟩ (State.ea s rb disp)) id ra s

/-- LDQ_U (41_loadstore.md R507). -/
def execLdqU (ra rb : Reg) (disp : BitVec 16) (s : State) : Outcome :=
  loadX (State.memRead 8 ⟨.read, ra, 0x0b⟩ (State.ea s rb disp &&& ~~~7)) id ra s

/-- LDL_L (41_loadstore.md R508). -/
def execLdlL (ra rb : Reg) (disp : BitVec 16) (s : State) : Outcome :=
  loadX (State.memReadLocked 4 ⟨.read, ra, 0x2a⟩ (State.ea s rb disp)) sext32 ra s

/-- LDQ_L (41_loadstore.md R509). -/
def execLdqL (ra rb : Reg) (disp : BitVec 16) (s : State) : Outcome :=
  loadX (State.memReadLocked 8 ⟨.read, ra, 0x2b⟩ (State.ea s rb disp)) id ra s

/-- STB (41_loadstore.md R510). -/
def execStb (ra rb : Reg) (disp : BitVec 16) (s : State) : Outcome :=
  needExt .bwx s (store (State.memWrite 1 ⟨.write, ra, 0x0e⟩ (State.ea s rb disp) (State.x s ra)) s)

/-- STW (41_loadstore.md R511). -/
def execStw (ra rb : Reg) (disp : BitVec 16) (s : State) : Outcome :=
  needExt .bwx s (store (State.memWrite 2 ⟨.write, ra, 0x0d⟩ (State.ea s rb disp) (State.x s ra)) s)

/-- STL (41_loadstore.md R512). -/
def execStl (ra rb : Reg) (disp : BitVec 16) (s : State) : Outcome :=
  store (State.memWrite 4 ⟨.write, ra, 0x2c⟩ (State.ea s rb disp) (State.x s ra)) s

/-- STQ (41_loadstore.md R513). -/
def execStq (ra rb : Reg) (disp : BitVec 16) (s : State) : Outcome :=
  store (State.memWrite 8 ⟨.write, ra, 0x2d⟩ (State.ea s rb disp) (State.x s ra)) s

/-- STQ_U (41_loadstore.md R514). -/
def execStqU (ra rb : Reg) (disp : BitVec 16) (s : State) : Outcome :=
  store (State.memWrite 8 ⟨.write, ra, 0x0f⟩ (State.ea s rb disp &&& ~~~7) (State.x s ra)) s

/-- STL_C (41_loadstore.md R515). -/
def execStlC (ra rb : Reg) (disp : BitVec 16) (s : State) : Outcome :=
  storeConditional 4 ⟨.write, ra, 0x2e⟩ (State.ea s rb disp) ra s

/-- STQ_C (41_loadstore.md R516). -/
def execStqC (ra rb : Reg) (disp : BitVec 16) (s : State) : Outcome :=
  storeConditional 8 ⟨.write, ra, 0x2f⟩ (State.ea s rb disp) ra s

/-- LDF (41_loadstore.md R517). -/
def execLdf (fa rb : Reg) (disp : BitVec 16) (s : State) : Outcome :=
  loadF 4 0x20 fMemToReg fa rb disp s

/-- LDG (41_loadstore.md R518). -/
def execLdg (fa rb : Reg) (disp : BitVec 16) (s : State) : Outcome :=
  loadF 8 0x21 gMemToReg fa rb disp s

/-- LDS (41_loadstore.md R519). -/
def execLds (fa rb : Reg) (disp : BitVec 16) (s : State) : Outcome :=
  loadF 4 0x22 sMemToReg fa rb disp s

/-- LDT (41_loadstore.md R520). -/
def execLdt (fa rb : Reg) (disp : BitVec 16) (s : State) : Outcome :=
  loadF 8 0x23 id fa rb disp s

/-- STF (41_loadstore.md R521). -/
def execStf (fa rb : Reg) (disp : BitVec 16) (s : State) : Outcome :=
  storeF 4 0x24 fRegToMem fa rb disp s

/-- STG (41_loadstore.md R522). -/
def execStg (fa rb : Reg) (disp : BitVec 16) (s : State) : Outcome :=
  storeF 8 0x25 gRegToMem fa rb disp s

/-- STS (41_loadstore.md R523). -/
def execSts (fa rb : Reg) (disp : BitVec 16) (s : State) : Outcome :=
  storeF 4 0x26 sRegToMem fa rb disp s

/-- STT (41_loadstore.md R524). -/
def execStt (fa rb : Reg) (disp : BitVec 16) (s : State) : Outcome :=
  storeF 8 0x27 id fa rb disp s

end Sys2Proof.Machine
end

