-- ==== Sys2Proof/Machine/Misc.lean ====
section
/-! DEFINITION. Opcode 0x18: the miscellaneous instructions (44_misc_pal.md R700 to R711). None reads PS.FEN, translates an
address or raises a memory fault; fields an instruction ignores may hold any value. -/

namespace Sys2Proof.Machine

/-- What TRAPB and EXCB do (44_misc_pal.md R701, R702): a pending arithmetic trap is delivered with EXC_ADDR the barrier's
own address; with none pending only the pc changes. -/
def trapBarrier (s : State) : State := if s.cpu.pend.valid then State.deliverArith s else State.advance s

/-- A `wmb` marker is appended to the store buffer; on an empty one it has no effect (20_memory.md R174). -/
def State.appendWmb (s : State) : State :=
  if s.cpu.sb = [] then s else { s with cpu := { s.cpu with sb := s.cpu.sb ++ [.wmb] } }

/-- TRAPB (44_misc_pal.md R701). -/
def execTrapb (_ra _rb : Reg) (s : State) : Outcome := .next (trapBarrier s)

/-- EXCB (44_misc_pal.md R702). -/
def execExcb (_ra _rb : Reg) (s : State) : Outcome := .next (trapBarrier s)

/-- MB (44_misc_pal.md R703, 20_memory.md R173): it completes when the store buffer is empty (log 8). -/
def execMb (_ra _rb : Reg) (s : State) : Outcome := .next (State.advance (State.drainAll s))

/-- WMB (44_misc_pal.md R704, 20_memory.md R174). -/
def execWmb (_ra _rb : Reg) (s : State) : Outcome := .next (State.advance (State.appendWmb s))

/-- FETCH (44_misc_pal.md R705, 20_memory.md R227): a hint. -/
def execFetch (_ra _rb : Reg) (s : State) : Outcome := .next (State.advance s)

/-- FETCH_M (44_misc_pal.md R706, 20_memory.md R227): a hint. -/
def execFetchM (_ra _rb : Reg) (s : State) : Outcome := .next (State.advance s)

/-- RPCC (44_misc_pal.md R707): the cycle counter at the start of this instruction. -/
def execRpcc (ra _rb : Reg) (s : State) : Outcome := .next (State.finishX s ra s.cpu.cc)

/-- RC (44_misc_pal.md R708). -/
def execRc (ra _rb : Reg) (s : State) : Outcome :=
  .next (State.finishX { s with cpu := { s.cpu with intrFlag := false } } ra (ofBool s.cpu.intrFlag))

/-- RS (44_misc_pal.md R709). -/
def execRs (ra _rb : Reg) (s : State) : Outcome :=
  .next (State.finishX { s with cpu := { s.cpu with intrFlag := true } } ra (ofBool s.cpu.intrFlag))

/-- ECB (44_misc_pal.md R710, 20_memory.md R227): a hint with no visible effect. -/
def execEcb (_ra _rb : Reg) (s : State) : Outcome := .next (State.advance s)

/-- WH64 (44_misc_pal.md R711): the spec refuses it. -/
def execWh64 (_ra _rb : Reg) (_s : State) : Outcome := .refused .wh64

/-- WH64EN (44_misc_pal.md R711): the spec refuses it. -/
def execWh64en (_ra _rb : Reg) (_s : State) : Outcome := .refused .wh64en

end Sys2Proof.Machine
end

