-- ==== Sys2Proof/Machine/Pal.lean ====
section
/-! DEFINITION. CALL_PAL and the hardware-privileged instructions (44_misc_pal.md sections 2 and 3): the internal processor
registers (10_state.md R67) and every effect of writing one. -/

namespace Sys2Proof.Machine

/-- CALL_PAL (44_misc_pal.md R720 to R723): an illegal function is OPCDEC; a privileged one below Kernel is PRIV; a pending
arithmetic trap is delivered first; then the PAL entry with EXC_ADDR = `pc + 4`. -/
def execCallPal (fn : BitVec 26) (s : State) : Outcome :=
  if !palLegal fn then raise s .opcdec
  else if palPrivileged fn && decide (Ps.rank s.cpu.ps < 3) then raise s .priv
  else if s.cpu.pend.valid then .next (State.deliverArith s)
  else .next (State.enterPal s (s.cpu.pc + 4) (palEntryCall s.cfg.palScheme s.cpu.palBase fn))

/-- The internal processor registers (10_state.md R67). -/
inductive Ipr where
  | ps | excAddr | excPs | palBase | mmStat | va | ptbr | pcbb | itbAsn | dtbAsn | unique | ipir | intid | excSum | excMask
  | whami | cc | mmuCtl | mces | tbia | tbiap | tbis | tbisi | tbisd | tbiar | icFlush | sleep | halt
  deriving DecidableEq, Repr

/-- The index table of 10_state.md R67; none for a reserved index (44_misc_pal.md R752). -/
def Ipr.ofIndex (i : BitVec 16) : Option Ipr :=
  match i.toNat with
  | 0x00 => some .ps
  | 0x01 => some .excAddr
  | 0x02 => some .excPs
  | 0x03 => some .palBase
  | 0x04 => some .mmStat
  | 0x05 => some .va
  | 0x06 => some .ptbr
  | 0x07 => some .pcbb
  | 0x08 => some .itbAsn
  | 0x09 => some .dtbAsn
  | 0x0A => some .unique
  | 0x0B => some .ipir
  | 0x0C => some .intid
  | 0x0D => some .excSum
  | 0x0E => some .excMask
  | 0x0F => some .whami
  | 0x10 => some .cc
  | 0x11 => some .mmuCtl
  | 0x12 => some .mces
  | 0x20 => some .tbia
  | 0x21 => some .tbiap
  | 0x22 => some .tbis
  | 0x23 => some .tbisi
  | 0x24 => some .tbisd
  | 0x25 => some .tbiar
  | 0x26 => some .icFlush
  | 0x27 => some .sleep
  | 0x28 => some .halt
  | _ => none

/-- `read_ipr` (44_misc_pal.md R750): a write-only register reads 0. -/
def Cpu.readIpr (c : Cpu) (r : Ipr) : Word :=
  match r with
  | .ps => c.ps
  | .excAddr => c.excAddr
  | .excPs => c.excPs
  | .palBase => c.palBase
  | .mmStat => c.mmStat
  | .va => c.va
  | .ptbr => c.ptbr
  | .pcbb => c.pcbb
  | .itbAsn => c.itbAsn
  | .dtbAsn => c.dtbAsn
  | .unique => c.unique
  | .intid => c.intid
  | .excSum => c.excSum
  | .excMask => c.excMask
  | .whami => c.whami.setWidth 64
  | .cc => c.cc
  | .mmuCtl => c.mmuCtl
  | .mces => c.mces
  | .ipir | .tbia | .tbiap | .tbis | .tbisi | .tbisd | .tbiar | .icFlush | .sleep | .halt => 0

/-- Bits [34:0] of PTBR are stored (10_state.md R67). -/
def ptbrMask : Word := 0x7FFFFFFFF
/-- Bits [7:0] of an ASN are stored (10_state.md R67). -/
def asnMask : Word := 0xFF
/-- Bits [63:15] of PAL_BASE are stored (10_state.md R68). -/
def palBaseMask : Word := 0xFFFFFFFFFFFF8000
/-- Bits [18:0] of MM_STAT exist (10_state.md R69). -/
def mmStatMask : Word := 0x7FFFF
/-- Bits [15:8] and [0] of MCES are stored (10_state.md R67). -/
def mcesMask : Word := 0xFF01

/-- Add a request to `IRQ`, kept in the order of vectors; a vector already present changes nothing
(60_exceptions.md R835). -/
def insertIrq (q : Irq) : List Irq → List Irq
  | [] => [q]
  | r :: rs =>
    if q.vector.toNat < r.vector.toNat then q :: r :: rs
    else if q.vector = r.vector then r :: rs
    else r :: insertIrq q rs

/-- A CPU gains an interrupt request. -/
def Cpu.addIrq (q : Irq) (c : Cpu) : Cpu := { c with irq := insertIrq q c.irq }

/-- An inter-processor interrupt to CPU `target`; none if there is no such CPU (60_exceptions.md R838). -/
def State.sendIpi (s : State) (target : BitVec 16) : State :=
  State.mapCpus (fun c => if c.whami = target then Cpu.addIrq ⟨s.cfg.ipiVector, s.cfg.ipiIpl⟩ c else c) s

/-- A TLB invalidation: at once on this CPU, into the inbox of every other (20_memory.md R225, R226). -/
def State.broadcastTbi (s : State) (cmd : TbiCmd) : State :=
  { s with cpu := Cpu.tbi s.cpu cmd, peers := s.peers.map fun c => { c with tbiIn := c.tbiIn ++ [cmd] } }

/-- The IMB action on an empty store buffer (20_memory.md R191): the I-cache is invalidated, and no earlier contents of
memory can be fetched any more (R192). -/
def Cpu.flushIcache (c : Cpu) : Cpu := { c with icache := ⟨[]⟩, icHist := [] }

/-- `write_ipr` (44_misc_pal.md R751), the store buffer being empty. -/
def State.writeIpr (s : State) (r : Ipr) (v : Word) : State :=
  match r with
  | .ps => { s with cpu := { s.cpu with ps := v &&& psMask } }
  | .excPs => { s with cpu := { s.cpu with excPs := v &&& psMask } }
  | .excAddr => { s with cpu := { s.cpu with excAddr := v } }
  | .pcbb => { s with cpu := { s.cpu with pcbb := v } }
  | .unique => { s with cpu := { s.cpu with unique := v } }
  | .ptbr => { s with cpu := { s.cpu with ptbr := v &&& ptbrMask } }
  | .itbAsn => { s with cpu := { s.cpu with itbAsn := v &&& asnMask } }
  | .dtbAsn => { s with cpu := { s.cpu with dtbAsn := v &&& asnMask } }
  | .mmuCtl => { s with cpu := { s.cpu with mmuCtl := v &&& 1 } }
  | .palBase =>
    if s.cpu.palBaseLocked then s
    else { s with cpu := { s.cpu with palBase := v &&& palBaseMask, palBaseLocked := true } }
  | .mces => { s with cpu := { s.cpu with mces := v &&& mcesMask } }
  | .mmStat | .va | .intid | .excSum | .excMask | .whami | .cc => s
  | .ipir => State.sendIpi s (v.setWidth 16)
  | .tbia => State.broadcastTbi s .tbia
  | .tbiap => State.broadcastTbi s .tbiap
  | .tbis => State.broadcastTbi s (.tbis v)
  | .tbisi => State.broadcastTbi s (.tbisi v)
  | .tbisd => State.broadcastTbi s (.tbisd v)
  | .tbiar => State.broadcastTbi s (.tbiar v)
  | .icFlush => { s with cpu := Cpu.flushIcache s.cpu }
  | .sleep => { s with cpu := { s.cpu with sleeping := true } }
  | .halt => { s with cpu := { s.cpu with halted := true } }

/-- HW_MFPR (44_misc_pal.md R750, R752, R761). -/
def execHwMfpr (ra : Reg) (index : BitVec 16) (s : State) : Outcome :=
  needPal s
    (match Ipr.ofIndex index with
      | none => raise s .opcdec
      | some r => .next (State.finishX s ra (Cpu.readIpr s.cpu r)))

/-- HW_MTPR (44_misc_pal.md R751, R752, R761): the store buffer drains before the write (20_memory.md R176). -/
def execHwMtpr (ra : Reg) (index : BitVec 16) (s : State) : Outcome :=
  needPal s
    (match Ipr.ofIndex index with
      | none => raise s .opcdec
      | some r => .next (State.advance (State.writeIpr (State.drainAll s) r (State.x s ra))))

/-- HW_LD (44_misc_pal.md R755, R761). -/
def execHwLd (ra rb : Reg) (quad : Bool) (disp : BitVec 12) (s : State) : Outcome :=
  needPal s (loadX (State.hwRead (hwSize quad) ⟨.read, ra, 0x1B⟩ (State.hwEa s rb disp))
    (if quad then id else sext32) ra s)

/-- HW_ST (44_misc_pal.md R756, R761). -/
def execHwSt (ra rb : Reg) (quad : Bool) (disp : BitVec 12) (s : State) : Outcome :=
  needPal s (store (State.hwWrite (hwSize quad) ⟨.write, ra, 0x1F⟩ (State.hwEa s rb disp) (State.x s ra)) s)

/-- HW_REI (44_misc_pal.md R760, R761). -/
def execHwRei (s : State) : Outcome := needPal s (.next (State.returnFromPal s))

end Sys2Proof.Machine
end

