-- ==== Sys2Proof/Machine/Dispatch.lean ====
section
/-! DEFINITION. The meaning of every instruction: one arm per constructor of `Instr`, each a direct call of its meaning. -/

namespace Sys2Proof.Machine

/-- What an instruction does in a state (00_scope.md R13, R14). -/
def exec (i : Instr) (s : State) : Host.Outcome State Fault Refusal :=
  match i with
  | .callPal fn => Sys2Proof.Machine.execCallPal fn s
  | .lda ra rb disp => Sys2Proof.Machine.execLda ra rb disp s
  | .ldah ra rb disp => Sys2Proof.Machine.execLdah ra rb disp s
  | .ldbu ra rb disp => Sys2Proof.Machine.execLdbu ra rb disp s
  | .ldqU ra rb disp => Sys2Proof.Machine.execLdqU ra rb disp s
  | .ldwu ra rb disp => Sys2Proof.Machine.execLdwu ra rb disp s
  | .stw ra rb disp => Sys2Proof.Machine.execStw ra rb disp s
  | .stb ra rb disp => Sys2Proof.Machine.execStb ra rb disp s
  | .stqU ra rb disp => Sys2Proof.Machine.execStqU ra rb disp s
  | .ldf ra rb disp => Sys2Proof.Machine.execLdf ra rb disp s
  | .ldg ra rb disp => Sys2Proof.Machine.execLdg ra rb disp s
  | .lds ra rb disp => Sys2Proof.Machine.execLds ra rb disp s
  | .ldt ra rb disp => Sys2Proof.Machine.execLdt ra rb disp s
  | .stf ra rb disp => Sys2Proof.Machine.execStf ra rb disp s
  | .stg ra rb disp => Sys2Proof.Machine.execStg ra rb disp s
  | .sts ra rb disp => Sys2Proof.Machine.execSts ra rb disp s
  | .stt ra rb disp => Sys2Proof.Machine.execStt ra rb disp s
  | .ldl ra rb disp => Sys2Proof.Machine.execLdl ra rb disp s
  | .ldq ra rb disp => Sys2Proof.Machine.execLdq ra rb disp s
  | .ldlL ra rb disp => Sys2Proof.Machine.execLdlL ra rb disp s
  | .ldqL ra rb disp => Sys2Proof.Machine.execLdqL ra rb disp s
  | .stl ra rb disp => Sys2Proof.Machine.execStl ra rb disp s
  | .stq ra rb disp => Sys2Proof.Machine.execStq ra rb disp s
  | .stlC ra rb disp => Sys2Proof.Machine.execStlC ra rb disp s
  | .stqC ra rb disp => Sys2Proof.Machine.execStqC ra rb disp s
  | .addl ra o rc => Sys2Proof.Machine.execAddl ra o rc s
  | .s4addl ra o rc => Sys2Proof.Machine.execS4addl ra o rc s
  | .subl ra o rc => Sys2Proof.Machine.execSubl ra o rc s
  | .s4subl ra o rc => Sys2Proof.Machine.execS4subl ra o rc s
  | .cmpbge ra o rc => Sys2Proof.Machine.execCmpbge ra o rc s
  | .s8addl ra o rc => Sys2Proof.Machine.execS8addl ra o rc s
  | .s8subl ra o rc => Sys2Proof.Machine.execS8subl ra o rc s
  | .cmpult ra o rc => Sys2Proof.Machine.execCmpult ra o rc s
  | .addq ra o rc => Sys2Proof.Machine.execAddq ra o rc s
  | .s4addq ra o rc => Sys2Proof.Machine.execS4addq ra o rc s
  | .subq ra o rc => Sys2Proof.Machine.execSubq ra o rc s
  | .s4subq ra o rc => Sys2Proof.Machine.execS4subq ra o rc s
  | .cmpeq ra o rc => Sys2Proof.Machine.execCmpeq ra o rc s
  | .s8addq ra o rc => Sys2Proof.Machine.execS8addq ra o rc s
  | .s8subq ra o rc => Sys2Proof.Machine.execS8subq ra o rc s
  | .cmpule ra o rc => Sys2Proof.Machine.execCmpule ra o rc s
  | .addlV ra o rc => Sys2Proof.Machine.execAddlV ra o rc s
  | .sublV ra o rc => Sys2Proof.Machine.execSublV ra o rc s
  | .cmplt ra o rc => Sys2Proof.Machine.execCmplt ra o rc s
  | .addqV ra o rc => Sys2Proof.Machine.execAddqV ra o rc s
  | .subqV ra o rc => Sys2Proof.Machine.execSubqV ra o rc s
  | .cmple ra o rc => Sys2Proof.Machine.execCmple ra o rc s
  | .and ra o rc => Sys2Proof.Machine.execAnd ra o rc s
  | .bic ra o rc => Sys2Proof.Machine.execBic ra o rc s
  | .cmovlbs ra o rc => Sys2Proof.Machine.execCmovlbs ra o rc s
  | .cmovlbc ra o rc => Sys2Proof.Machine.execCmovlbc ra o rc s
  | .bis ra o rc => Sys2Proof.Machine.execBis ra o rc s
  | .cmoveq ra o rc => Sys2Proof.Machine.execCmoveq ra o rc s
  | .cmovne ra o rc => Sys2Proof.Machine.execCmovne ra o rc s
  | .ornot ra o rc => Sys2Proof.Machine.execOrnot ra o rc s
  | .xor ra o rc => Sys2Proof.Machine.execXor ra o rc s
  | .cmovlt ra o rc => Sys2Proof.Machine.execCmovlt ra o rc s
  | .cmovge ra o rc => Sys2Proof.Machine.execCmovge ra o rc s
  | .eqv ra o rc => Sys2Proof.Machine.execEqv ra o rc s
  | .amask o rc => Sys2Proof.Machine.execAmask o rc s
  | .cmovle ra o rc => Sys2Proof.Machine.execCmovle ra o rc s
  | .cmovgt ra o rc => Sys2Proof.Machine.execCmovgt ra o rc s
  | .implver o rc => Sys2Proof.Machine.execImplver o rc s
  | .mskbl ra o rc => Sys2Proof.Machine.execMskbl ra o rc s
  | .extbl ra o rc => Sys2Proof.Machine.execExtbl ra o rc s
  | .insbl ra o rc => Sys2Proof.Machine.execInsbl ra o rc s
  | .mskwl ra o rc => Sys2Proof.Machine.execMskwl ra o rc s
  | .extwl ra o rc => Sys2Proof.Machine.execExtwl ra o rc s
  | .inswl ra o rc => Sys2Proof.Machine.execInswl ra o rc s
  | .mskll ra o rc => Sys2Proof.Machine.execMskll ra o rc s
  | .extll ra o rc => Sys2Proof.Machine.execExtll ra o rc s
  | .insll ra o rc => Sys2Proof.Machine.execInsll ra o rc s
  | .zap ra o rc => Sys2Proof.Machine.execZap ra o rc s
  | .zapnot ra o rc => Sys2Proof.Machine.execZapnot ra o rc s
  | .mskql ra o rc => Sys2Proof.Machine.execMskql ra o rc s
  | .srl ra o rc => Sys2Proof.Machine.execSrl ra o rc s
  | .extql ra o rc => Sys2Proof.Machine.execExtql ra o rc s
  | .sll ra o rc => Sys2Proof.Machine.execSll ra o rc s
  | .insql ra o rc => Sys2Proof.Machine.execInsql ra o rc s
  | .sra ra o rc => Sys2Proof.Machine.execSra ra o rc s
  | .mskwh ra o rc => Sys2Proof.Machine.execMskwh ra o rc s
  | .inswh ra o rc => Sys2Proof.Machine.execInswh ra o rc s
  | .extwh ra o rc => Sys2Proof.Machine.execExtwh ra o rc s
  | .msklh ra o rc => Sys2Proof.Machine.execMsklh ra o rc s
  | .inslh ra o rc => Sys2Proof.Machine.execInslh ra o rc s
  | .extlh ra o rc => Sys2Proof.Machine.execExtlh ra o rc s
  | .mskqh ra o rc => Sys2Proof.Machine.execMskqh ra o rc s
  | .insqh ra o rc => Sys2Proof.Machine.execInsqh ra o rc s
  | .extqh ra o rc => Sys2Proof.Machine.execExtqh ra o rc s
  | .mull ra o rc => Sys2Proof.Machine.execMull ra o rc s
  | .mulq ra o rc => Sys2Proof.Machine.execMulq ra o rc s
  | .umulh ra o rc => Sys2Proof.Machine.execUmulh ra o rc s
  | .mullV ra o rc => Sys2Proof.Machine.execMullV ra o rc s
  | .mulqV ra o rc => Sys2Proof.Machine.execMulqV ra o rc s
  | .sextb o rc => Sys2Proof.Machine.execSextb o rc s
  | .sextw o rc => Sys2Proof.Machine.execSextw o rc s
  | .ctpop o rc => Sys2Proof.Machine.execCtpop o rc s
  | .perr ra o rc => Sys2Proof.Machine.execPerr ra o rc s
  | .ctlz o rc => Sys2Proof.Machine.execCtlz o rc s
  | .cttz o rc => Sys2Proof.Machine.execCttz o rc s
  | .unpkbw o rc => Sys2Proof.Machine.execUnpkbw o rc s
  | .unpkbl o rc => Sys2Proof.Machine.execUnpkbl o rc s
  | .pkwb o rc => Sys2Proof.Machine.execPkwb o rc s
  | .pklb o rc => Sys2Proof.Machine.execPklb o rc s
  | .minsb8 ra o rc => Sys2Proof.Machine.execMinsb8 ra o rc s
  | .minsw4 ra o rc => Sys2Proof.Machine.execMinsw4 ra o rc s
  | .minub8 ra o rc => Sys2Proof.Machine.execMinub8 ra o rc s
  | .minuw4 ra o rc => Sys2Proof.Machine.execMinuw4 ra o rc s
  | .maxub8 ra o rc => Sys2Proof.Machine.execMaxub8 ra o rc s
  | .maxuw4 ra o rc => Sys2Proof.Machine.execMaxuw4 ra o rc s
  | .maxsb8 ra o rc => Sys2Proof.Machine.execMaxsb8 ra o rc s
  | .maxsw4 ra o rc => Sys2Proof.Machine.execMaxsw4 ra o rc s
  | .ftoit fa rc => Sys2Proof.Machine.execFtoit fa rc s
  | .ftois fa rc => Sys2Proof.Machine.execFtois fa rc s
  | .adds q fa fb fc => Sys2Proof.Machine.execAdds q fa fb fc s
  | .subs q fa fb fc => Sys2Proof.Machine.execSubs q fa fb fc s
  | .muls q fa fb fc => Sys2Proof.Machine.execMuls q fa fb fc s
  | .divs q fa fb fc => Sys2Proof.Machine.execDivs q fa fb fc s
  | .addt q fa fb fc => Sys2Proof.Machine.execAddt q fa fb fc s
  | .subt q fa fb fc => Sys2Proof.Machine.execSubt q fa fb fc s
  | .mult q fa fb fc => Sys2Proof.Machine.execMult q fa fb fc s
  | .divt q fa fb fc => Sys2Proof.Machine.execDivt q fa fb fc s
  | .cmptun q fa fb fc => Sys2Proof.Machine.execCmptun q fa fb fc s
  | .cmpteq q fa fb fc => Sys2Proof.Machine.execCmpteq q fa fb fc s
  | .cmptlt q fa fb fc => Sys2Proof.Machine.execCmptlt q fa fb fc s
  | .cmptle q fa fb fc => Sys2Proof.Machine.execCmptle q fa fb fc s
  | .cvtts q fb fc => Sys2Proof.Machine.execCvtts q fb fc s
  | .cvttq q fb fc => Sys2Proof.Machine.execCvttq q fb fc s
  | .cvtqs q fb fc => Sys2Proof.Machine.execCvtqs q fb fc s
  | .cvtqt q fb fc => Sys2Proof.Machine.execCvtqt q fb fc s
  | .cvtst sw fb fc => Sys2Proof.Machine.execCvtst sw fb fc s
  | .addf q fa fb fc => Sys2Proof.Machine.execAddf q fa fb fc s
  | .subf q fa fb fc => Sys2Proof.Machine.execSubf q fa fb fc s
  | .mulf q fa fb fc => Sys2Proof.Machine.execMulf q fa fb fc s
  | .divf q fa fb fc => Sys2Proof.Machine.execDivf q fa fb fc s
  | .cvtdg q fb fc => Sys2Proof.Machine.execCvtdg q fb fc s
  | .addg q fa fb fc => Sys2Proof.Machine.execAddg q fa fb fc s
  | .subg q fa fb fc => Sys2Proof.Machine.execSubg q fa fb fc s
  | .mulg q fa fb fc => Sys2Proof.Machine.execMulg q fa fb fc s
  | .divg q fa fb fc => Sys2Proof.Machine.execDivg q fa fb fc s
  | .cmpgeq q fa fb fc => Sys2Proof.Machine.execCmpgeq q fa fb fc s
  | .cmpglt q fa fb fc => Sys2Proof.Machine.execCmpglt q fa fb fc s
  | .cmpgle q fa fb fc => Sys2Proof.Machine.execCmpgle q fa fb fc s
  | .cvtgf q fb fc => Sys2Proof.Machine.execCvtgf q fb fc s
  | .cvtgd q fb fc => Sys2Proof.Machine.execCvtgd q fb fc s
  | .cvtgq q fb fc => Sys2Proof.Machine.execCvtgq q fb fc s
  | .cvtqf q fb fc => Sys2Proof.Machine.execCvtqf q fb fc s
  | .cvtqg q fb fc => Sys2Proof.Machine.execCvtqg q fb fc s
  | .itofs ra fc => Sys2Proof.Machine.execItofs ra fc s
  | .itoff ra fc => Sys2Proof.Machine.execItoff ra fc s
  | .itoft ra fc => Sys2Proof.Machine.execItoft ra fc s
  | .sqrtf q fb fc => Sys2Proof.Machine.execSqrtf q fb fc s
  | .sqrtg q fb fc => Sys2Proof.Machine.execSqrtg q fb fc s
  | .sqrts q fb fc => Sys2Proof.Machine.execSqrts q fb fc s
  | .sqrtt q fb fc => Sys2Proof.Machine.execSqrtt q fb fc s
  | .cvtlq fb fc => Sys2Proof.Machine.execCvtlq fb fc s
  | .cpys fa fb fc => Sys2Proof.Machine.execCpys fa fb fc s
  | .cpysn fa fb fc => Sys2Proof.Machine.execCpysn fa fb fc s
  | .cpyse fa fb fc => Sys2Proof.Machine.execCpyse fa fb fc s
  | .mtFpcr fa fb fc => Sys2Proof.Machine.execMtFpcr fa fb fc s
  | .mfFpcr fa fb fc => Sys2Proof.Machine.execMfFpcr fa fb fc s
  | .fcmoveq fa fb fc => Sys2Proof.Machine.execFcmoveq fa fb fc s
  | .fcmovne fa fb fc => Sys2Proof.Machine.execFcmovne fa fb fc s
  | .fcmovlt fa fb fc => Sys2Proof.Machine.execFcmovlt fa fb fc s
  | .fcmovge fa fb fc => Sys2Proof.Machine.execFcmovge fa fb fc s
  | .fcmovle fa fb fc => Sys2Proof.Machine.execFcmovle fa fb fc s
  | .fcmovgt fa fb fc => Sys2Proof.Machine.execFcmovgt fa fb fc s
  | .cvtql tr fb fc => Sys2Proof.Machine.execCvtql tr fb fc s
  | .trapb ra rb => Sys2Proof.Machine.execTrapb ra rb s
  | .excb ra rb => Sys2Proof.Machine.execExcb ra rb s
  | .mb ra rb => Sys2Proof.Machine.execMb ra rb s
  | .wmb ra rb => Sys2Proof.Machine.execWmb ra rb s
  | .fetch ra rb => Sys2Proof.Machine.execFetch ra rb s
  | .fetchM ra rb => Sys2Proof.Machine.execFetchM ra rb s
  | .rpcc ra rb => Sys2Proof.Machine.execRpcc ra rb s
  | .rc ra rb => Sys2Proof.Machine.execRc ra rb s
  | .ecb ra rb => Sys2Proof.Machine.execEcb ra rb s
  | .rs ra rb => Sys2Proof.Machine.execRs ra rb s
  | .wh64 ra rb => Sys2Proof.Machine.execWh64 ra rb s
  | .wh64en ra rb => Sys2Proof.Machine.execWh64en ra rb s
  | .jmp ra rb hint => Sys2Proof.Machine.execJmp ra rb hint s
  | .jsr ra rb hint => Sys2Proof.Machine.execJsr ra rb hint s
  | .ret ra rb hint => Sys2Proof.Machine.execRet ra rb hint s
  | .jsrCoroutine ra rb hint => Sys2Proof.Machine.execJsrCoroutine ra rb hint s
  | .br ra disp => Sys2Proof.Machine.execBr ra disp s
  | .fbeq ra disp => Sys2Proof.Machine.execFbeq ra disp s
  | .fblt ra disp => Sys2Proof.Machine.execFblt ra disp s
  | .fble ra disp => Sys2Proof.Machine.execFble ra disp s
  | .bsr ra disp => Sys2Proof.Machine.execBsr ra disp s
  | .fbne ra disp => Sys2Proof.Machine.execFbne ra disp s
  | .fbge ra disp => Sys2Proof.Machine.execFbge ra disp s
  | .fbgt ra disp => Sys2Proof.Machine.execFbgt ra disp s
  | .blbc ra disp => Sys2Proof.Machine.execBlbc ra disp s
  | .beq ra disp => Sys2Proof.Machine.execBeq ra disp s
  | .blt ra disp => Sys2Proof.Machine.execBlt ra disp s
  | .ble ra disp => Sys2Proof.Machine.execBle ra disp s
  | .blbs ra disp => Sys2Proof.Machine.execBlbs ra disp s
  | .bne ra disp => Sys2Proof.Machine.execBne ra disp s
  | .bge ra disp => Sys2Proof.Machine.execBge ra disp s
  | .bgt ra disp => Sys2Proof.Machine.execBgt ra disp s
  | .hwMfpr ra index => Sys2Proof.Machine.execHwMfpr ra index s
  | .hwLd ra rb quad disp => Sys2Proof.Machine.execHwLd ra rb quad disp s
  | .hwMtpr ra index => Sys2Proof.Machine.execHwMtpr ra index s
  | .hwRei => Sys2Proof.Machine.execHwRei s
  | .hwSt ra rb quad disp => Sys2Proof.Machine.execHwSt ra rb quad disp s

end Sys2Proof.Machine
end

