-- ==== Sys2Proof/Machine/Boundary.lean ====
section
/-! DEFINITION. One step of the machine: the boundary step of a CPU in the order of 60_exceptions.md R855, the store-buffer
drain and the consumption of a TLB inbox as internal actions, and the scheduler's choice between them
(70_reset_and_hazards.md R930). -/

namespace Sys2Proof.Machine

/-- The cycle counter at a boundary: `CC + draw(cc_delta)` (10_state.md R64; log 3). -/
def State.tick (s : State) : State :=
  State.bump { s with cpu := { s.cpu with cc := s.cpu.cc + BitVec.ofNat 64 (Config.ccDelta s.draws) } }

/-- The requests of `IRQ` above an IPL (60_exceptions.md R831, R850). -/
def irqAbove (ipl : BitVec 5) (irq : List Irq) : List Irq := irq.filter fun q => decide (ipl.toNat < q.ipl.toNat)

/-- The request with the highest IPL; of several, the one with the smallest vector, which stands first in the list
(60_exceptions.md R832, R835). -/
def highestIrq : List Irq → Option Irq
  | [] => none
  | q :: qs =>
    match highestIrq qs with
    | none => some q
    | some r => some (if q.ipl.toNat < r.ipl.toNat then r else q)

/-- The interrupt this CPU takes at the boundary, if nothing higher is due (60_exceptions.md R831, R832). -/
def State.dueInterrupt (s : State) : Option Irq :=
  if State.inPal s || !Ps.ie s.cpu.ps then none
  else highestIrq (irqAbove (Ps.ipl s.cpu.ps) s.cpu.irq)

/-- A sleeping CPU wakes: `IRQ` holds a request above PS.IPL, whatever IE and the mode are (60_exceptions.md R850). -/
def State.wakes (s : State) : Bool := !(irqAbove (Ps.ipl s.cpu.ps) s.cpu.irq).isEmpty

/-- Apply the oldest commands of the TLB inbox, as many as this boundary consumes (20_memory.md R226). -/
def State.consumeTbi (s : State) : State :=
  if s.cpu.tbiIn = [] then s
  else
    let n := Config.tbiConsume s.draws
    let c := (s.cpu.tbiIn.take n).foldl Cpu.tbi s.cpu
    State.bump { s with cpu := { c with tbiIn := s.cpu.tbiIn.drop n } }

/-- The consumption of the whole TLB inbox as a step of its own (70_reset_and_hazards.md R930, 20_memory.md R226). -/
def State.consumeAll (s : State) : State :=
  { s with cpu := { s.cpu.tbiIn.foldl Cpu.tbi s.cpu with tbiIn := [] } }

/-- Execute a fetched word (30_encoding.md R312): an instruction, the reserved-opcode fault, or a refused word, which is
OPCDEC where the CPU lacks its extension (log 36). -/
def runWord (w : IWord) (s : State) : Outcome :=
  match decode w with
  | .instr i => exec i s
  | .reserved => raise s .opcdec
  | .refused none => .refused .shouldBeField
  | .refused (some e) => if State.has s e then .refused .shouldBeField else raise s .opcdec

/-- Fetch and execute the instruction at the pc (60_exceptions.md R855 step 6). -/
def fetchExecute (s : State) : Outcome :=
  match State.fetchWord s with
  | .ok w s' => runWord w s'
  | .exc e s' => .next (State.take s' e)

/-- The cycle counter advances at the end of a boundary step that goes on. -/
def tickAfter (o : Outcome) : Outcome :=
  match o with
  | .next s => .next (State.tick s)
  | .fault f => .fault f
  | .refused r => .refused r

/-- Steps 4 to 6 of 60_exceptions.md R855. A pending trap is due when the draw says so or an interrupt would be taken
(R822); the barriers and CALL_PAL that force it deliver it in their own meanings. -/
def deliverOrRun (s : State) : Outcome :=
  let due := s.cpu.pend.valid && (Config.trapDeliverNow s.draws || (State.dueInterrupt s).isSome)
  let s := if s.cpu.pend.valid then State.bump s else s
  if due then .next (State.deliverArith s)
  else
    match State.dueInterrupt s with
    | some q => .next (State.takeInterrupt s q)
    | none => fetchExecute s

/-- A boundary step of the current CPU (60_exceptions.md R855; log 32, log 33). A halted CPU keeps all its state (R860); only a
halt request it has still to observe is cleared. -/
def boundary (s : State) : Outcome :=
  if s.cpu.halted then .next { s with cpu := { s.cpu with haltReq := false } }
  else if s.cpu.haltReq then
    .next (State.tick { s with cpu := { s.cpu with halted := true, sleeping := false, haltReq := false } })
  else if s.cpu.sleeping && !State.wakes s then .next (State.tick s)
  else tickAfter (deliverOrRun (State.consumeTbi { s with cpu := { s.cpu with sleeping := false } }))

/-- A CPU put among others in the order of their numbers. -/
def insertCpu (c : Cpu) : List Cpu → List Cpu
  | [] => [c]
  | d :: ds => if c.whami.toNat < d.whami.toNat then c :: d :: ds else d :: insertCpu c ds

/-- Make CPU `n` the current one, if there is one (log 7). -/
def State.focus (s : State) (n : BitVec 16) : State :=
  if s.cpu.whami = n then s
  else
    match s.peers.find? fun c => c.whami == n with
    | none => s
    | some c => { s with cpu := c, peers := insertCpu s.cpu (s.peers.filter fun d => d.whami != n) }

/-- What the next step is: the state with the CPU that acts made the current one, and its action. With one CPU, an empty store
buffer and an empty TLB inbox there is nothing to choose; else the scheduler draws a CPU and an action, and an action that is
not eligible is the boundary step (70_reset_and_hazards.md R930, 20_memory.md R172, R226; log 7). -/
def State.choose (s : State) : State × Choice :=
  if s.peers.isEmpty && s.cpu.sb.isEmpty && s.cpu.tbiIn.isEmpty then (s, .boundary)
  else
    let u := State.focus (State.bump s) (Config.scheduleCpu s.draws)
    (u, match Config.schedule s.draws with
      | .boundary => .boundary
      | .drain i => if (State.drainOne u i).isSome then .drain i else .boundary
      | .consume => if u.cpu.tbiIn.isEmpty then .boundary else .consume)

/-- An action of the current CPU. -/
def perform (s : State) (c : Choice) : Outcome :=
  match c with
  | .boundary => boundary s
  | .drain i =>
    match State.drainOne s i with
    | some t => .next t
    | none => boundary s
  | .consume => .next (State.consumeAll s)

/-- One step (70_reset_and_hazards.md R930). -/
def stepOne (s : State) : Outcome := perform (State.choose s).1 (State.choose s).2

/-- The word of an instruction given as its low `nbits` bits. -/
def tableWord (nbits w : Nat) : IWord := BitVec.ofNat 32 (w % 2 ^ nbits)

/-- The physical address the next instruction is fetched from. -/
def State.fetchAddress (s : State) : Nat :=
  match State.translate s Access.fetch s.cpu.pc with
  | .ok pa _ => pa.toNat
  | .exc _ _ => s.cpu.pc.toNat

/-- The word is put where the next instruction is fetched from: 4 bytes of the ROM if the fetch goes there, else of memory, the
least significant first; with a stale I-cache possible, the older contents are forgotten (log 6). -/
def State.placeWord (s : State) (w : IWord) : State :=
  let a := State.fetchAddress s
  let bytes := bytesOf 4 (w.setWidth 64)
  let cpu := if s.cfg.icacheCoherent then s.cpu else { s.cpu with icHist := [] }
  match State.route s a with
  | .rom => { s with rom := Memory.setBytes s.rom a bytes, cpu := cpu }
  | .tooHigh | .mmio _ | .ram | .unmapped => { s with mem := Memory.setBytes s.mem a bytes, cpu := cpu }

end Sys2Proof.Machine
end

