-- ==== Sys2Proof/Machine/Step.lean ====
section
/-! DEFINITION. One step, and the placing of one instruction for the next step. -/

namespace Sys2Proof.Machine

/-- `step_one()` (70_reset_and_hazards.md R930). -/
def step (s : State) : Host.Outcome State Fault Refusal := stepOne s

/-- The state with an instruction stored where the next step fetches it (log 6). -/
def State.withFetchWord (s : State) (nbits w : Nat) : State := State.placeWord s (tableWord nbits w)

end Sys2Proof.Machine
end

