-- ==== Sys2Proof/Machine/HostIf.lean ====
section
/-! DEFINITION. The host interface (70_reset_and_hazards.md R930 to R934, 60_exceptions.md R852): calls the host makes
between steps. They are no part of `step` (log 31). A call that fails is a fault and changes no state (00_scope.md R9). -/

namespace Sys2Proof.Machine

/-- A CPU of that number exists. -/
def State.hasCpu (s : State) (n : BitVec 16) : Bool := s.cpu.whami == n || s.peers.any fun c => c.whami == n

/-- Change CPU `n`. -/
def State.onCpu (s : State) (n : BitVec 16) (f : Cpu → Cpu) : State :=
  State.mapCpus (fun c => if c.whami = n then f c else c) s

/-- `VECTOR_IPL(v)` (60_exceptions.md R836): in 1..31 for consistent parameters (`Params.vectorIplsOk`). -/
def Params.vectorIpl (p : Params) (v : BitVec 16) : BitVec 5 := (p.vectorIpls.lookup v).getD p.otherIpl

/-- `inject_interrupt(cpu, vector)` (60_exceptions.md R835, 70_reset_and_hazards.md R932). -/
def injectInterrupt (n vector : BitVec 16) (s : State) : Outcome :=
  if State.hasCpu s n then .next (State.onCpu s n (Cpu.addIrq ⟨vector, Params.vectorIpl s.cfg vector⟩))
  else .fault .noSuchCpu

/-- The host halt request of a CPU, observed at its next boundary (60_exceptions.md R852). DESIGN CHOICE (log 32): a request for a
number that no CPU has fails the call, as R932 has it for `inject_interrupt`; R852 does not say. -/
def requestHalt (n : BitVec 16) (s : State) : Outcome :=
  if State.hasCpu s n then .next (State.onCpu s n fun c => { c with haltReq := true })
  else .fault .noSuchCpu

/-- `attach_mmio(start, end, handler)` (70_reset_and_hazards.md R933). -/
def attachMmio (start stop dev : Nat) (s : State) : Outcome :=
  if stop < start ∨ 2 ^ 48 ≤ stop then .fault .badRegion
  else if s.regions.any fun r => decide (r.start ≤ stop) && decide (start ≤ r.stop) then .fault .overlappingRegion
  else .next { s with regions := s.regions ++ [⟨start, stop, dev⟩] }

/-- The MMIO regions are attached one after the other (70_reset_and_hazards.md R905, R933). -/
def attachAll : List MmioRegion → State → Outcome
  | [], s => .next s
  | r :: rs, s =>
    match attachMmio r.start r.stop r.dev s with
    | .next s => attachAll rs s
    | .fault f => .fault f
    | .refused f => .refused f

/-- An image is canonical and lies in [`lo`, `hi`). -/
def imageOk (lo hi : Nat) (m : List Host.Cell) : Bool :=
  Memory.wf m && m.all fun c => decide (lo ≤ c.1) && decide (c.1 < hi)

/-- Starting the machine (70_reset_and_hazards.md R905): an inconsistent parameter set, or regions that cannot be attached, fail
the call (00_scope.md R9); else the images are loaded, the regions attached and reset applied. The numbers of more than 65536
CPUs would not be distinct (log 35); an image outside its range is inconsistent too (log 43). `enough` says whether the host has
the memory for the machine; without it the call fails and makes none (R9; log 44). -/
def launch (enough : Bool) (p : Params) (nCpu : Nat) (image rom : List Host.Cell) (rs : List MmioRegion) : Outcome :=
  if Params.wf p nCpu && decide (nCpu ≤ 65536) && imageOk 0 p.ramTop image && imageOk p.romBase p.romTop rom then
    if enough then attachAll rs (State.resetWith p nCpu image rom []) else .fault .outOfMemory
  else .fault .inconsistentConfig

/-- `read_bytes(phys, len)`: memory, not any CPU's store buffer (70_reset_and_hazards.md R934). DESIGN CHOICE: R934 and R241
speak of RAM; of an address in the ROM range and not in RAM this answers the ROM's byte, of any other the byte the memory list
holds, 0 if none (log 31). -/
def readBytes (pa n : Nat) (s : State) : List Byte :=
  (List.range n).map fun k =>
    if s.cfg.ramTop ≤ pa + k ∧ s.cfg.romBase ≤ pa + k ∧ pa + k < s.cfg.romTop then Memory.get s.rom (pa + k)
    else Memory.get s.mem (pa + k)

/-- `write_bytes(phys, buf)` into RAM: a completed store (70_reset_and_hazards.md R934, 20_memory.md R181, R190). Bytes past
the end of RAM are not written (log 31), and a write of no byte does nothing. -/
def writeBytes (pa : Nat) (bytes : List Byte) (s : State) : State :=
  let bytes := bytes.take (s.cfg.ramTop - pa)
  if bytes = [] then s
  else
    let s := State.remember s pa bytes.length
    let s := State.loseLocks { s with mem := Memory.setBytes s.mem pa bytes } pa bytes.length
    State.cacheHostWrite s pa bytes.length

/-- Every CPU. -/
def State.cpus (s : State) : List Cpu := s.cpu :: s.peers

/-- The stop condition of `run_until(halt)`: every CPU is halted (70_reset_and_hazards.md R931). -/
def allHalted (s : State) : Bool := (State.cpus s).all fun c => c.halted

/-- The stop condition of `run_until(c)`: every CPU that is not halted has `CC ≥ c`, or all are halted
(70_reset_and_hazards.md R931). -/
def allReached (cycles : Word) (s : State) : Bool :=
  (State.cpus s).all fun c => c.halted || decide (cycles.toNat ≤ c.cc.toNat)

/-- `run_until` with a stop condition, as far as `fuel` steps reach: none if the condition does not hold by then. The call
itself has no such bound: it is the relation `RunUntil` of Machine/Runs.lean. -/
def runUntil (stop : State → Bool) : Nat → State → Option Outcome
  | 0, s => if stop s then some (.next s) else none
  | fuel + 1, s =>
    if stop s then some (.next s)
    else
      match step s with
      | .next t => runUntil stop fuel t
      | .fault f => some (.fault f)
      | .refused r => some (.refused r)

/-- `run_until(halt)` within `fuel` steps (70_reset_and_hazards.md R931). -/
def runUntilHalt (fuel : Nat) (s : State) : Option Outcome := runUntil allHalted fuel s

/-- `run_until(c)` within `fuel` steps (70_reset_and_hazards.md R931). -/
def runUntilCycles (cycles : Word) (fuel : Nat) (s : State) : Option Outcome := runUntil (allReached cycles) fuel s

end Sys2Proof.Machine
end

