-- ==== Sys2Proof/Machine/Runs.lean ====
section
/-! DEFINITION. Runs: `run_until` without a bound (70_reset_and_hazards.md R931), endless runs, and the weak fairness that the
spec gives the scheduler (R922). `step` itself takes the scheduler's draws as they come; fairness is a property of a run, and a
claim of progress takes it as a premise (log 7). -/

namespace Sys2Proof.Machine

/-- `run_until` with the stop condition `stop`, called in a state, returns with an outcome (R931): `step_one` is repeated until
the condition holds, or until a step has no next state. A call that never returns is related to no outcome. -/
inductive RunUntil (stop : State → Bool) : State → Outcome → Prop
  | done {s : State} (h : stop s = true) : RunUntil stop s (.next s)
  | step {s t : State} {o : Outcome} (h : stop s = false) (hs : step s = .next t) (ht : RunUntil stop t o) : RunUntil stop s o
  | fault {s : State} {f : Fault} (h : stop s = false) (hs : step s = .fault f) : RunUntil stop s (.fault f)
  | refused {s : State} {r : Refusal} (h : stop s = false) (hs : step s = .refused r) : RunUntil stop s (.refused r)

/-- An endless run: state `k + 1` is the next state of state `k`. -/
def IsRun (r : Nat → State) : Prop := ∀ k, step (r k) = .next (r (k + 1))

/-- CPU `n` of a state. -/
def State.cpuAt (s : State) (n : BitVec 16) : Option Cpu := (State.cpus s).find? fun c => c.whami == n

/-- The next step is a boundary step of CPU `n`. -/
def State.actsAtBoundary (s : State) (n : BitVec 16) : Prop :=
  (State.choose s).1.cpu.whami = n ∧ (State.choose s).2 = .boundary

/-- Every CPU that is neither halted nor sleeping eventually takes its next step (R922): at no time is it awake for ever after
without a boundary step. -/
def FairToCpus (r : Nat → State) : Prop :=
  ∀ (n : BitVec 16) (k : Nat), ∃ j, k ≤ j ∧
    (State.actsAtBoundary (r j) n ∨ ∀ c, State.cpuAt (r j) n = some c → c.halted = true ∨ c.sleeping = true)

/-- The boundary step of the current CPU waits until its store buffer is empty (20_memory.md R173, R176). Told by a marker put
before the oldest entry, where it holds nothing back and forwards nothing: only such a wait takes it away. -/
def State.emptiesBuffer (s : State) : Bool :=
  match boundary { s with cpu := { s.cpu with sb := .wmb :: s.cpu.sb } } with
  | .next t => t.cpu.sb.head? != some .wmb
  | .fault _ => false
  | .refused _ => false

/-- The oldest store-buffer entry of CPU `n` leaves the buffer in the next step: it is drained by itself, or a boundary step
waits until the buffer is empty. A drain of a younger entry leaves it (`drainOne_younger`). -/
def oldestLeaves (n : BitVec 16) (s : State) : Prop :=
  (State.choose s).1.cpu.whami = n
    ∧ ((State.choose s).2 = .drain 0 ∨ (State.choose s).2 = .boundary ∧ State.emptiesBuffer (State.choose s).1 = true)

/-- Every store-buffer entry eventually drains (R922, 20_memory.md R172): a buffer that is not empty eventually loses its oldest
entry, so that each entry comes to be the oldest and leaves. -/
def FairToStores (r : Nat → State) : Prop :=
  ∀ (n : BitVec 16) (k : Nat), (∃ c, State.cpuAt (r k) n = some c ∧ c.sb ≠ []) →
    ∃ j, k ≤ j ∧ oldestLeaves n (r j)

/-- Every command of a TLB inbox is eventually applied (R922, 20_memory.md R226): an inbox that is not empty eventually loses
commands, which a step applies in the order of arrival. -/
def FairToInboxes (r : Nat → State) : Prop :=
  ∀ (n : BitVec 16) (k : Nat), (∃ c, State.cpuAt (r k) n = some c ∧ c.tbiIn ≠ []) →
    ∃ j, k ≤ j ∧ ∃ c d, State.cpuAt (r j) n = some c ∧ State.cpuAt (r (j + 1)) n = some d ∧ d.tbiIn.length < c.tbiIn.length

/-- The runs of the spec: the endless ones whose schedule is weakly fair (R922). -/
structure FairRun (r : Nat → State) : Prop where
  run : IsRun r
  cpus : FairToCpus r
  stores : FairToStores r
  inboxes : FairToInboxes r

end Sys2Proof.Machine
end

