-- ==== Sys2Proof/Machine/Snapshot.lean ====
section
/-! DEFINITION. `snapshot()` and `restore()` (70_reset_and_hazards.md R960 to R962; log 37): the blob as bytes. Each item is
8 bytes, little-endian, but for the header, the RAM dump and the widths R960 gives. -/

namespace Sys2Proof.Machine

/-! Writing. -/

/-- The magic `ALPHASNP` (R960). -/
def snapMagic : List Byte := [0x41, 0x4C, 0x50, 0x48, 0x41, 0x53, 0x4E, 0x50]

/-- The version, major 1, minor 0 (R960; log 37). -/
def snapVersion : Word := 0x10000

/-- Complete one CPU's stores and apply its inbox: legal steps that `snapshot()` takes first (R960). The CPU is made the
current one for it. -/
def State.settleCpu (s : State) (n : BitVec 16) : State :=
  State.consumeAll (State.drainAll (State.focus s n))

/-- Every Modified line of every cache is written back (R960): its metadata becomes Exclusive. -/
def State.writeBackAll (s : State) : State :=
  State.mapCpus (Cpu.mapL1 Cache.clean) { s with l2 := s.l2.map Cache.clean, l3 := Cache.clean s.l3 }

/-- Complete every CPU's stores, apply every inbox and write back every Modified line (R960); CPU 0 is then the current one.
DESIGN CHOICE: the current CPU comes first, then the others by number; R960 gives no order, and memory depends on it where two
CPUs have buffered the same byte (log 37). -/
def State.settle (s : State) : State :=
  State.writeBackAll (State.focus ((State.cpus s).foldl (fun s c => State.settleCpu s c.whami) s) 0)

/-- A truth value as an item. -/
def snapBool (b : Bool) : Word := ofBool b

/-- A list with its count. -/
def snapList {α : Type} (f : α → List Word) (l : List α) : List Word := BitVec.ofNat 64 l.length :: l.flatMap f

/-- A TLB entry, as R209 has it, with its set and the two bits nothing reads. -/
def snapTlbEntry (e : TlbEntry) : List Word :=
  [1, BitVec.ofNat 64 e.tag, e.asn.setWidth 64, snapBool e.global, e.base, e.perms.setWidth 64, e.fo.setWidth 64,
    BitVec.ofNat 64 e.shift, BitVec.ofNat 64 e.set, snapBool e.dirty, snapBool e.referenced]

/-- The IPRs 0x0000 to 0x0012 in index order; IPIR is stored as 0 (R960). -/
def snapIprs (c : Cpu) : List Word :=
  [c.ps, c.excAddr, c.excPs, c.palBase, c.mmStat, c.va, c.ptbr, c.pcbb, c.itbAsn, c.dtbAsn, c.unique, 0, c.intid, c.excSum,
    c.excMask, c.whami.setWidth 64, c.cc, c.mmuCtl, c.mces]

/-- The hidden state (R960). -/
def snapHidden (c : Cpu) : List Word :=
  [snapBool c.lockFlag, c.lockLine, snapBool c.intrFlag, snapBool c.halted, snapBool c.sleeping, snapBool c.palBaseLocked,
    snapBool c.pend.valid, c.pend.sum, c.pend.mask]

/-- The register file of one CPU: R0..R31, F0..F31, the validity mask, PC, PS, FPCR, the IPRs, the hidden state and `IRQ`
(R960). DESIGN CHOICE (log 37): a set bit of the mask says that the register has a value, so it is all ones here, where every
register has one, and the order of its bits does not show; the requests of `IRQ`, a set, are written in the order of vectors. -/
def snapCpu (c : Cpu) : List Word :=
  c.regs.toList ++ [0] ++ c.fregs.toList ++ [0] ++ [BitVec.allOnes 64, c.pc, c.ps, Fpcr.value c.fpcr] ++ snapIprs c
    ++ snapHidden c ++ snapList (fun q => [q.vector.setWidth 64, q.ipl.setWidth 64]) c.irq

/-- The TLBs of one CPU (R960). DESIGN CHOICE (log 37): R960 gives no order; the ITB comes first, then the DTB, and the entries of a
TLB stand as in its list, the newest fill first. -/
def snapTlbs (c : Cpu) : List Word := snapList snapTlbEntry c.itb.entries ++ snapList snapTlbEntry c.dtb.entries

/-- The device-state blob of one region, keyed by its device: the key, the length and the bytes, which are the device's (R960). -/
def snapBlob (draw : Nat) (r : MmioRegion) : List Byte :=
  let content := Config.deviceBlob draw r.dev
  bytesOf 8 (BitVec.ofNat 64 r.dev) ++ bytesOf 8 (BitVec.ofNat 64 content.length) ++ content

/-- The header, 64 bytes (R960). -/
def snapHeader (s : State) : List Byte :=
  snapMagic ++ bytesOf 4 snapVersion ++ bytesOf 4 (BitVec.ofNat 64 (State.cpus s).length)
    ++ bytesOf 8 (BitVec.ofNat 64 s.cfg.ramTop) ++ List.replicate 40 0

/-- `snapshot()` (R960): the blob, and the machine after the drains, inbox applications and write-backs that come before the
writing. The blob is the header, the register files of all CPUs, the TLBs of all CPUs, the dense RAM dump, and the list of the
device blobs with its count (log 37). -/
def snapshot (s : State) : List Byte × State :=
  let s := State.settle s
  (snapHeader s ++ ((State.cpus s).flatMap snapCpu ++ (State.cpus s).flatMap snapTlbs).flatMap (bytesOf 8)
      ++ Memory.getBytes s.mem 0 s.cfg.ramTop
      ++ bytesOf 8 (BitVec.ofNat 64 s.regions.length) ++ s.regions.flatMap (snapBlob s.draws),
    State.bump s)

/-! Reading. -/

/-- The 8-byte items of a byte list; a shorter tail is dropped. -/
def wordsOf : List Byte → List Word
  | b0 :: b1 :: b2 :: b3 :: b4 :: b5 :: b6 :: b7 :: bs => ofBytes [b0, b1, b2, b3, b4, b5, b6, b7] :: wordsOf bs
  | _ => []

/-- The first `n` items and the rest. -/
def takeItems (n : Nat) (ws : List Word) : Option (List Word × List Word) :=
  if n ≤ ws.length then some (ws.take n, ws.drop n) else none

/-- `n` records read one after the other. -/
def readRecords {α : Type} (f : List Word → Option (α × List Word)) : Nat → List Word → Option (List α × List Word)
  | 0, ws => some ([], ws)
  | n + 1, ws =>
    match f ws with
    | none => none
    | some (x, ws) =>
      match readRecords f n ws with
      | none => none
      | some (xs, ws) => some (x :: xs, ws)

/-- A list with its count; a count longer than what is left is malformed. -/
def readList {α : Type} (f : List Word → Option (α × List Word)) (ws : List Word) : Option (List α × List Word) :=
  match ws with
  | [] => none
  | n :: ws => if ws.length < n.toNat then none else readRecords f n.toNat ws

/-- A truth value. -/
def readBool (v : Word) : Bool := v.getLsbD 0

/-- A TLB entry; none if it was stored invalid. -/
def readTlbEntry (ws : List Word) : Option (Option TlbEntry × List Word) :=
  match ws with
  | valid :: tag :: asn :: global :: base :: perms :: fo :: shift :: set :: dirty :: referenced :: ws =>
    some (
      if readBool valid then some
        { set := set.toNat
          tag := tag.toNat
          asn := asn.setWidth 8
          global := readBool global
          base := base
          perms := perms.setWidth 8
          fo := fo.setWidth 3
          shift := shift.toNat
          dirty := readBool dirty
          referenced := readBool referenced }
      else none, ws)
  | _ => none

/-- An interrupt request. -/
def readIrq (ws : List Word) : Option (Irq × List Word) :=
  match ws with
  | vector :: ipl :: ws => some (⟨vector.setWidth 16, ipl.setWidth 5⟩, ws)
  | _ => none

/-- The fixed items of one CPU, 96 of them. DESIGN CHOICE (log 37): the spec does not say what becomes of the bits of an item that
its register or field does not have; they are dropped, those of MM_STAT (10_state.md R69) among them, and of the two items that hold
PS the first counts. -/
def readFixed (old : Cpu) (ws : List Word) : Cpu :=
  let w (i : Nat) : Word := (ws[i]?).getD 0
  { old with
    regs := Vector.ofFn fun i => w i.val
    fregs := Vector.ofFn fun i => w (32 + i.val)
    pc := w 65
    ps := w 66 &&& psMask
    fpcr := w 67 &&& fpcrMask
    excAddr := w 69
    excPs := w 70 &&& psMask
    palBase := w 71 &&& palBaseMask
    mmStat := w 72 &&& mmStatMask
    va := w 73
    ptbr := w 74 &&& ptbrMask
    pcbb := w 75
    itbAsn := w 76 &&& asnMask
    dtbAsn := w 77 &&& asnMask
    unique := w 78
    intid := w 80 &&& 0xFFFF
    excSum := w 81 &&& 0x7F
    excMask := w 82
    whami := (w 83).setWidth 16
    cc := w 84
    mmuCtl := w 85 &&& 1
    mces := w 86 &&& mcesMask
    lockFlag := readBool (w 87)
    lockLine := w 88
    intrFlag := readBool (w 89)
    halted := readBool (w 90)
    sleeping := readBool (w 91)
    palBaseLocked := readBool (w 92)
    pend := ⟨readBool (w 93), w 94 &&& 0x7F, w 95⟩ }

/-- The register file of one CPU: caches Invalid, store buffer and inbox empty (R961). A halt request that is still to be
observed is the host's, no item, and stays (R962; log 37). DESIGN CHOICE (log 37): the requests of `IRQ` may stand in any order
in the blob, and of two with one vector the first counts; the validity mask is not read; and with the Invalid I-cache no earlier
contents of memory can be fetched any more, although R192 names only reset and IC_FLUSH (log 25). -/
def readCpu (old : Cpu) (ws : List Word) : Option (Cpu × List Word) :=
  match takeItems 96 ws with
  | none => none
  | some (fixed, ws) =>
    match readList readIrq ws with
    | none => none
    | some (irq, ws) =>
      some (
        { readFixed old fixed with
          irq := irq.foldl (fun l q => insertIrq q l) []
          sb := []
          tbiIn := []
          icache := ⟨[]⟩
          l1d := ⟨[]⟩
          icHist := [] }, ws)

/-- The TLBs of one CPU, in the order of `snapTlbs`: their valid entries. The statistics are no item and stay.
DESIGN CHOICE (log 37): R961 says "lengths" and no more of the TLBs; more entries than ITB_ENTRIES or DTB_ENTRIES, or more in a set than
TLB_WAYS, and several that match one address are no malformed blob, and are taken as they stand. -/
def readTlbs (old : Cpu) (ws : List Word) : Option (Cpu × List Word) :=
  match readList readTlbEntry ws with
  | none => none
  | some (itb, ws) =>
    match readList readTlbEntry ws with
    | none => none
    | some (dtb, ws) =>
      some ({ old with
        itb := { old.itb with entries := itb.filterMap id }
        dtb := { old.dtb with entries := dtb.filterMap id } }, ws)

/-- The same part of every CPU, one after the other. -/
def readEach (f : Cpu → List Word → Option (Cpu × List Word)) : List Cpu → List Word → Option (List Cpu × List Word)
  | [], ws => some ([], ws)
  | c :: cs, ws =>
    match f c ws with
    | none => none
    | some (d, ws) =>
      match readEach f cs ws with
      | none => none
      | some (ds, ws) => some (d :: ds, ws)

/-- The register files of all CPUs, then their TLBs. -/
def readCpus (cs : List Cpu) (ws : List Word) : Option (List Cpu × List Word) :=
  match readEach readCpu cs ws with
  | none => none
  | some (ds, ws) => readEach readTlbs ds ws

/-- The next 8-byte item of a byte list. -/
def readItem (bs : List Byte) : Option (Nat × List Byte) :=
  if bs.length < 8 then none else some ((ofBytes (bs.take 8)).toNat, bs.drop 8)

/-- `n` device blobs (key, length, bytes) and nothing after them. -/
def blobsOk : Nat → List Byte → Bool
  | 0, bs => bs.isEmpty
  | n + 1, bs =>
    match readItem bs with
    | none => false
    | some (_key, bs) =>
      match readItem bs with
      | none => false
      | some (len, bs) => if bs.length < len then false else blobsOk n (bs.drop len)

/-- The list of device blobs with its count fills what is left of the blob exactly (R961). What the blobs hold goes to the
devices, whose state is not the machine's (log 17, log 37). -/
def deviceBlobsOk (bs : List Byte) : Bool :=
  match readItem bs with
  | none => false
  | some (count, bs) => if bs.length < count then false else blobsOk count bs

/-- The memory with the RAM part replaced by a dense dump. -/
def restoreRam (dump : List Byte) (ramTop : Nat) (m : List Host.Cell) : List Host.Cell :=
  (dump.zipIdx.filterMap fun (b, a) => if b = unlistedByte then none else some (a, b))
    ++ m.filter fun c => decide (ramTop ≤ c.1)

/-- `restore(blob)` (R961): the magic, the major version, the CPU count, the RAM size and the lengths, those of the device blobs
among them, are checked, and a malformed blob changes nothing (00_scope.md R9). `enough` says whether the host has the memory for
the state; without it the call fails and changes nothing (R9; log 44). -/
def restore (enough : Bool) (blob : List Byte) (s : State) : Outcome :=
  let settled := State.focus s 0
  let header := wordsOf (blob.take 64)
  let body := blob.drop 64
  let words := wordsOf body
  if blob.take 8 ≠ snapMagic ∨ (blob.drop 10).take 2 ≠ [1, 0] ∨ header.length ≠ 8
      ∨ ofBytes ((blob.drop 12).take 4) ≠ BitVec.ofNat 64 (State.cpus s).length
      ∨ ofBytes ((blob.drop 16).take 8) ≠ BitVec.ofNat 64 s.cfg.ramTop then .fault .malformedSnapshot
  else
    match readCpus (State.cpus settled) words with
    | none => .fault .malformedSnapshot
    | some ([], _) => .fault .malformedSnapshot
    | some (c :: cs, rest) =>
      let tail := body.drop (8 * (words.length - rest.length))
      if tail.length < s.cfg.ramTop ∨ deviceBlobsOk (tail.drop s.cfg.ramTop) = false then .fault .malformedSnapshot
      else if !enough then .fault .outOfMemory
      else
        .next { s with
          cpu := c
          peers := cs
          mem := restoreRam (tail.take s.cfg.ramTop) s.cfg.ramTop s.mem
          l2 := s.l2.map fun _ => ⟨[]⟩
          l3 := ⟨[]⟩ }

end Sys2Proof.Machine
end

