-- ==== Sys2Proof/Safety.lean ====
section
/-! DEFINITION. The terms claims use: the invariants of the machine's data, and what a guest-visible part of a state is. -/

namespace Sys2Proof.Machine

/-- Only bits of the mask are set. -/
def maskedBy (m v : Word) : Bool := v &&& ~~~m == 0

/-- The reserved bits of a CPU's registers read 0 (10_state.md R57, R60, R67, R68, R69). -/
def Cpu.reservedZero (c : Cpu) : Bool :=
  maskedBy psMask c.ps && maskedBy psMask c.excPs && maskedBy fpcrMask c.fpcr && maskedBy palBaseMask c.palBase
    && maskedBy ptbrMask c.ptbr && maskedBy asnMask c.itbAsn && maskedBy asnMask c.dtbAsn && maskedBy 1 c.mmuCtl
    && maskedBy mcesMask c.mces && maskedBy 0xFFFF c.intid && maskedBy 0x7F c.excSum && maskedBy 0x7F c.pend.sum
    && maskedBy mmStatMask c.mmStat

/-- The reserved bits read 0 on every CPU. -/
def State.reservedZero (s : State) : Bool := Cpu.reservedZero s.cpu && s.peers.all Cpu.reservedZero

/-- The memory is canonical. -/
def State.memOk (s : State) : Bool := Memory.wf s.mem

/-- The interrupt requests stand in the strict order of their vectors, so that they are a set (60_exceptions.md R835). -/
def irqSorted : List Irq → Bool
  | [] => true
  | q :: qs => qs.all (fun r => decide (q.vector.toNat < r.vector.toNat)) && irqSorted qs

/-- Every CPU's interrupt requests are a set. -/
def State.irqOk (s : State) : Bool := (State.cpus s).all fun c => irqSorted c.irq

/-- CPU `n` is halted (60_exceptions.md R851). -/
def State.isHalted (s : State) (n : BitVec 16) : Bool := (State.cpus s).any fun c => c.whami == n && c.halted

/-- The boundary of the current CPU runs the instruction at the pc: it is neither halted, asked to halt, nor sleeping, its
TLB inbox is empty, and no trap or interrupt is due (60_exceptions.md R855). -/
def State.runs (s : State) : Bool :=
  !s.cpu.haltReq && !s.cpu.halted && !s.cpu.sleeping && s.cpu.tbiIn.isEmpty && !s.cpu.pend.valid
    && (State.dueInterrupt s).isNone

/-- One CPU with an empty store buffer and an empty TLB inbox: a step has no scheduling choice (70_reset_and_hazards.md R930). -/
def State.alone (s : State) : Bool := s.peers.isEmpty && s.cpu.sb.isEmpty && s.cpu.tbiIn.isEmpty

/-! What an instruction leaves alone. -/

/-- The state without what no guest value depends on: cache metadata (20_memory.md R261) and the counter of draws. -/
def Cpu.noCaches (c : Cpu) : Cpu := { c with icache := ⟨[]⟩, l1d := ⟨[]⟩ }

/-- The state without cache metadata (20_memory.md R261) and without the counter of draws. -/
def State.noCaches (s : State) : State :=
  { s with cpu := Cpu.noCaches s.cpu, peers := s.peers.map Cpu.noCaches, l2 := [], l3 := ⟨[]⟩, draws := 0 }

/-- Integer register `r` took `v` (R31 took nothing), and no other integer register changed. -/
def wroteX (s t : State) (r : Reg) (v : Word) : Prop :=
  ∀ q, State.x t q = if q = r ∧ r ≠ 31 then v else State.x s q

/-- Floating register `r` took `v` (F31 took nothing), and no other floating register changed. -/
def wroteF (s t : State) (r : Reg) (v : Word) : Prop :=
  ∀ q, State.f t q = if q = r ∧ r ≠ 31 then v else State.f s q

/-- No byte of memory changed, as this CPU's loads read it (20_memory.md R171). -/
def sameBytes (s t : State) : Prop := ∀ a, State.loadByte t a = State.loadByte s a

/-- At most the integer registers and the pc changed. -/
def onlyX (s t : State) : Prop :=
  t = { s with cpu := { s.cpu with regs := t.cpu.regs, pc := t.cpu.pc } } ∧ sameBytes s t

/-- At most the floating registers and the pc changed. -/
def onlyF (s t : State) : Prop :=
  t = { s with cpu := { s.cpu with fregs := t.cpu.fregs, pc := t.cpu.pc } } ∧ sameBytes s t

/-- A CPU without its memory system: the store buffer, the reservation, the TLBs, the caches and the fetch history. -/
def Cpu.core (c : Cpu) : Cpu :=
  { c with
    sb := [], lockFlag := false, lockLine := 0, itb := ⟨[], 0, 0⟩, dtb := ⟨[], 0, 0⟩, icache := ⟨[]⟩, l1d := ⟨[]⟩, icHist := [] }

/-- Only the memory system changed, and not the ROM (10_state.md R74): store buffers, reservations, TLBs, caches, fetch
history, memory, MMIO log and draws. -/
structure Kept (s t : State) : Prop where
  cfg : t.cfg = s.cfg
  regions : t.regions = s.regions
  cpu : Cpu.core t.cpu = Cpu.core s.cpu
  peers : t.peers.map Cpu.core = s.peers.map Cpu.core
  rom : t.rom = s.rom
  mem : State.memOk s = true → State.memOk t = true

/-- An instruction completed by writing `v` to integer register `r`: no other register, flag, special register or byte of
memory changed, and the pc advanced. -/
def yieldsX (o : Outcome) (s : State) (r : Reg) (v : Word) : Prop :=
  ∃ t, o = .next t ∧ wroteX s t r v ∧ t.cpu.pc = s.cpu.pc + 4 ∧ onlyX s t

/-- An instruction completed by writing `v` to floating register `r`: no other register, flag, special register or byte of
memory changed, and the pc advanced. -/
def yieldsF (o : Outcome) (s : State) (r : Reg) (v : Word) : Prop :=
  ∃ t, o = .next t ∧ wroteF s t r v ∧ t.cpu.pc = s.cpu.pc + 4 ∧ onlyF s t

/-! Physical accesses outside RAM. -/

/-- The state after a call of the handler of region `r`: the call stands in the log, and a draw is taken (20_memory.md R243;
log 17). -/
def State.called (s : State) (r : MmioRegion) (pa n : Nat) (w : Option Word) : State :=
  { s with mmioLog := s.mmioLog ++ [⟨r.dev, pa - r.start, n, w⟩], draws := s.draws + 1 }

/-- The memory back-end reports an error for the read of `n` bytes of RAM at `pa` through first-level cache `k` in state `s`
(60_exceptions.md R842 cause 3): a draw, taken after the caches' (log 18). -/
def State.ramErrs (k : L1) (s : State) (pa n : Nat) : Bool :=
  s.cfg.backendErrs && Config.backendError (State.cacheRead k s pa n).draws

/-- The state after a read of RAM for which the back-end reports an error: the lines read, and a draw taken. -/
def State.ramErred (k : L1) (s : State) (pa n : Nat) : State :=
  { State.cacheRead k s pa n with draws := (State.cacheRead k s pa n).draws + 1 }

/-- What a read of `n` bytes whose physical address `pa` is known in state `u` and lies outside RAM must do (20_memory.md R177,
R240, R242 to R245), `o` being the outcome: above 2^48 a machine check of cause 2; in a region the device's answer after the
store buffer has drained, or a machine check of cause 1 if the device errs; in ROM its bytes, the store buffer being drained; in
unmapped space all ones, or in strict mode a machine check of cause 1. `ends v w t` says that `t` is how the instruction ends
with the value `v` read in state `w`. -/
def readsOutside (o : Outcome) (u : State) (pa n : Nat) (ends : Word → State → State → Prop) : Prop :=
  let d := State.drainAll u
  (2 ^ 48 ≤ pa → o = .next (State.take u (.mchk 2)))
  ∧ (∀ r, State.route u pa = .mmio r →
    (Config.mmioError d.draws = true → o = .next (State.take (State.called d r pa n none) (.mchk 1)))
    ∧ (Config.mmioError d.draws = false → ∃ t, o = .next t
      ∧ ends (((Config.mmioRead d.draws r.dev (pa - r.start) n).extractLsb' 0 (8 * n)).setWidth 64)
        (State.called d r pa n none) t))
  ∧ (State.route u pa = .rom → ∃ t, o = .next t
    ∧ ends (ofBytes ((List.range n).map fun k => Memory.get u.rom (pa + k))) d t)
  ∧ (State.route u pa = .unmapped →
    (u.cfg.mmioStrict = true → o = .next (State.take u (.mchk 1)))
    ∧ (u.cfg.mmioStrict = false → ∃ t, o = .next t ∧ ends (BitVec.ofNat 64 (2 ^ (8 * n) - 1)) u t))

/-- What a write of the low `n` bytes of `v`, whose physical address `pa` is known in state `u` and lies outside RAM, must do
(20_memory.md R177, R240, R242 to R245): as `readsOutside`, a write to ROM or unmapped space being dropped, or in strict mode a
machine check of cause 1; a write to a region loses the reservations on its line (log 29). `ends w t` says that `t` is how the
instruction ends in state `w`. -/
def writesOutside (o : Outcome) (u : State) (pa n : Nat) (v : Word) (ends : State → State → Prop) : Prop :=
  let d := State.drainAll u
  (2 ^ 48 ≤ pa → o = .next (State.take u (.mchk 2)))
  ∧ (∀ r, State.route u pa = .mmio r →
    let w := State.called d r pa n (some ((v.extractLsb' 0 (8 * n)).setWidth 64))
    (Config.mmioError d.draws = true → o = .next (State.take w (.mchk 1)))
    ∧ (Config.mmioError d.draws = false → ∃ t, o = .next t ∧ ends (State.loseLocks w pa n) t))
  ∧ (State.route u pa = .rom →
    (u.cfg.mmioStrict = true → o = .next (State.take d (.mchk 1)))
    ∧ (u.cfg.mmioStrict = false → ∃ t, o = .next t ∧ ends d t))
  ∧ (State.route u pa = .unmapped →
    (u.cfg.mmioStrict = true → o = .next (State.take u (.mchk 1)))
    ∧ (u.cfg.mmioStrict = false → ∃ t, o = .next t ∧ ends u t))

/-- A store ends: the pc advances and nothing else changes. -/
def passes (w t : State) : Prop := t = { w with cpu := { w.cpu with pc := w.cpu.pc + 4 } }

/-! Floating registers, read as 43_float.md R602 and R603 write them. -/

/-- A NaN of T or S (43_float.md R602). -/
def isNan (r : Word) : Bool := r.extractLsb' 52 11 == 0x7FF && r.extractLsb' 0 52 != 0

/-- A signaling NaN: fraction bit 51 is 0 (43_float.md R602). -/
def isSignaling (r : Word) : Bool := isNan r && !r.getLsbD 51

/-- An infinity of T or S (43_float.md R602). -/
def isInf (r : Word) : Bool := r.extractLsb' 52 11 == 0x7FF && r.extractLsb' 0 52 == 0

/-- The exact value of a register that is no NaN and no reserved operand, by the formulas of 43_float.md R602 and R603: S by the
binary32 value of its memory form. Of an infinity the T formula gives ±2^1024, which compares with every finite value as the
infinity does. -/
def regValue (fm : Fmt) (r : Word) : ℚ :=
  let sign : ℚ := if r.getLsbD 63 then -1 else 1
  let e : ℤ := (r.extractLsb' 52 11).toNat
  let f : ℚ := (r.extractLsb' 0 52).toNat
  match fm with
  | .t => if e = 0 then sign * (f / 2 ^ 52) * 2 ^ (-1022 : ℤ) else sign * (1 + f / 2 ^ 52) * 2 ^ (e - 1023)
  | .s =>
    let e8 : ℤ := ((sRegToMem r).extractLsb' 23 8).toNat
    let f23 : ℚ := ((sRegToMem r).extractLsb' 0 23).toNat
    if e8 = 0 then sign * (f23 / 2 ^ 23) * 2 ^ (-126 : ℤ) else sign * (1 + f23 / 2 ^ 23) * 2 ^ (e8 - 127)
  | .g | .f => if e = 0 then 0 else sign * (1 / 2 + f / 2 ^ 53) * 2 ^ (e - 1024)
  | .d =>
    let e8 : ℤ := (r.extractLsb' 55 8).toNat
    let f55 : ℚ := (r.extractLsb' 0 55).toNat
    if e8 = 0 then 0 else sign * (1 / 2 + f55 / 2 ^ 56) * 2 ^ (e8 - 128)

/-- A sign and a magnitude `m` times 2^e as an exact value. -/
def exactValue (neg : Bool) (m : Nat) (e : Int) : ℚ := (if neg then -1 else 1) * (m : ℚ) * (2 : ℚ) ^ e

end Sys2Proof.Machine

namespace Sys2Proof

/-- The integer register an instruction names as its destination, if any (sections 40 to 44 of the spec, rule by rule). -/
def Instr.intDest (i : Instr) : Option Reg :=
  match i with
  | .lda r _ _ | .ldah r _ _ | .ldbu r _ _ | .ldqU r _ _ | .ldwu r _ _ | .ldl r _ _ | .ldq r _ _ | .ldlL r _ _
  | .ldqL r _ _ | .stlC r _ _ | .stqC r _ _ | .addl _ _ r | .s4addl _ _ r | .subl _ _ r | .s4subl _ _ r
  | .cmpbge _ _ r | .s8addl _ _ r | .s8subl _ _ r | .cmpult _ _ r | .addq _ _ r | .s4addq _ _ r | .subq _ _ r
  | .s4subq _ _ r | .cmpeq _ _ r | .s8addq _ _ r | .s8subq _ _ r | .cmpule _ _ r | .addlV _ _ r | .sublV _ _ r
  | .cmplt _ _ r | .addqV _ _ r | .subqV _ _ r | .cmple _ _ r | .and _ _ r | .bic _ _ r | .cmovlbs _ _ r
  | .cmovlbc _ _ r | .bis _ _ r | .cmoveq _ _ r | .cmovne _ _ r | .ornot _ _ r | .xor _ _ r | .cmovlt _ _ r
  | .cmovge _ _ r | .eqv _ _ r | .amask _ r | .cmovle _ _ r | .cmovgt _ _ r | .implver _ r | .mskbl _ _ r
  | .extbl _ _ r | .insbl _ _ r | .mskwl _ _ r | .extwl _ _ r | .inswl _ _ r | .mskll _ _ r | .extll _ _ r
  | .insll _ _ r | .zap _ _ r | .zapnot _ _ r | .mskql _ _ r | .srl _ _ r | .extql _ _ r | .sll _ _ r
  | .insql _ _ r | .sra _ _ r | .mskwh _ _ r | .inswh _ _ r | .extwh _ _ r | .msklh _ _ r | .inslh _ _ r
  | .extlh _ _ r | .mskqh _ _ r | .insqh _ _ r | .extqh _ _ r | .mull _ _ r | .mulq _ _ r | .umulh _ _ r
  | .mullV _ _ r | .mulqV _ _ r | .sextb _ r | .sextw _ r | .ctpop _ r | .perr _ _ r | .ctlz _ r | .cttz _ r
  | .unpkbw _ r | .unpkbl _ r | .pkwb _ r | .pklb _ r | .minsb8 _ _ r | .minsw4 _ _ r | .minub8 _ _ r
  | .minuw4 _ _ r | .maxub8 _ _ r | .maxuw4 _ _ r | .maxsb8 _ _ r | .maxsw4 _ _ r | .ftoit _ r | .ftois _ r
  | .rpcc r _ | .rc r _ | .rs r _ | .jmp r _ _ | .jsr r _ _ | .ret r _ _ | .jsrCoroutine r _ _ | .br r _
  | .bsr r _ | .hwMfpr r _ | .hwLd r _ _ _ => some r
  | .callPal .. | .stw .. | .stb .. | .stqU .. | .ldf .. | .ldg .. | .lds .. | .ldt .. | .stf .. | .stg ..
  | .sts .. | .stt .. | .stl .. | .stq .. | .adds .. | .subs .. | .muls .. | .divs .. | .addt .. | .subt ..
  | .mult .. | .divt .. | .cmptun .. | .cmpteq .. | .cmptlt .. | .cmptle .. | .cvtts .. | .cvttq .. | .cvtqs ..
  | .cvtqt .. | .cvtst .. | .addf .. | .subf .. | .mulf .. | .divf .. | .cvtdg .. | .addg .. | .subg ..
  | .mulg .. | .divg .. | .cmpgeq .. | .cmpglt .. | .cmpgle .. | .cvtgf .. | .cvtgd .. | .cvtgq .. | .cvtqf ..
  | .cvtqg .. | .itofs .. | .itoff .. | .itoft .. | .sqrtf .. | .sqrtg .. | .sqrts .. | .sqrtt .. | .cvtlq ..
  | .cpys .. | .cpysn .. | .cpyse .. | .mtFpcr .. | .mfFpcr .. | .fcmoveq .. | .fcmovne .. | .fcmovlt ..
  | .fcmovge .. | .fcmovle .. | .fcmovgt .. | .cvtql .. | .trapb .. | .excb .. | .mb .. | .wmb .. | .fetch ..
  | .fetchM .. | .ecb .. | .wh64 .. | .wh64en .. | .fbeq .. | .fblt .. | .fble .. | .fbne .. | .fbge ..
  | .fbgt .. | .blbc .. | .beq .. | .blt .. | .ble .. | .blbs .. | .bne .. | .bge .. | .bgt .. | .hwMtpr ..
  | .hwRei .. | .hwSt .. => none

/-- The floating register an instruction names as its destination, if any. -/
def Instr.fpDest (i : Instr) : Option Reg :=
  match i with
  | .ldf r _ _ | .ldg r _ _ | .lds r _ _ | .ldt r _ _ | .adds _ _ _ r | .subs _ _ _ r | .muls _ _ _ r
  | .divs _ _ _ r | .addt _ _ _ r | .subt _ _ _ r | .mult _ _ _ r | .divt _ _ _ r | .cmptun _ _ _ r
  | .cmpteq _ _ _ r | .cmptlt _ _ _ r | .cmptle _ _ _ r | .cvtts _ _ r | .cvttq _ _ r | .cvtqs _ _ r
  | .cvtqt _ _ r | .cvtst _ _ r | .addf _ _ _ r | .subf _ _ _ r | .mulf _ _ _ r | .divf _ _ _ r | .cvtdg _ _ r
  | .addg _ _ _ r | .subg _ _ _ r | .mulg _ _ _ r | .divg _ _ _ r | .cmpgeq _ _ _ r | .cmpglt _ _ _ r
  | .cmpgle _ _ _ r | .cvtgf _ _ r | .cvtgd _ _ r | .cvtgq _ _ r | .cvtqf _ _ r | .cvtqg _ _ r | .itofs _ r
  | .itoff _ r | .itoft _ r | .sqrtf _ _ r | .sqrtg _ _ r | .sqrts _ _ r | .sqrtt _ _ r | .cvtlq _ r
  | .cpys _ _ r | .cpysn _ _ r | .cpyse _ _ r | .mfFpcr r _ _ | .fcmoveq _ _ r | .fcmovne _ _ r
  | .fcmovlt _ _ r | .fcmovge _ _ r | .fcmovle _ _ r | .fcmovgt _ _ r | .cvtql _ _ r => some r
  | .callPal .. | .lda .. | .ldah .. | .ldbu .. | .ldqU .. | .ldwu .. | .stw .. | .stb .. | .stqU .. | .stf ..
  | .stg .. | .sts .. | .stt .. | .ldl .. | .ldq .. | .ldlL .. | .ldqL .. | .stl .. | .stq .. | .stlC ..
  | .stqC .. | .addl .. | .s4addl .. | .subl .. | .s4subl .. | .cmpbge .. | .s8addl .. | .s8subl ..
  | .cmpult .. | .addq .. | .s4addq .. | .subq .. | .s4subq .. | .cmpeq .. | .s8addq .. | .s8subq ..
  | .cmpule .. | .addlV .. | .sublV .. | .cmplt .. | .addqV .. | .subqV .. | .cmple .. | .and .. | .bic ..
  | .cmovlbs .. | .cmovlbc .. | .bis .. | .cmoveq .. | .cmovne .. | .ornot .. | .xor .. | .cmovlt ..
  | .cmovge .. | .eqv .. | .amask .. | .cmovle .. | .cmovgt .. | .implver .. | .mskbl .. | .extbl ..
  | .insbl .. | .mskwl .. | .extwl .. | .inswl .. | .mskll .. | .extll .. | .insll .. | .zap .. | .zapnot ..
  | .mskql .. | .srl .. | .extql .. | .sll .. | .insql .. | .sra .. | .mskwh .. | .inswh .. | .extwh ..
  | .msklh .. | .inslh .. | .extlh .. | .mskqh .. | .insqh .. | .extqh .. | .mull .. | .mulq .. | .umulh ..
  | .mullV .. | .mulqV .. | .sextb .. | .sextw .. | .ctpop .. | .perr .. | .ctlz .. | .cttz .. | .unpkbw ..
  | .unpkbl .. | .pkwb .. | .pklb .. | .minsb8 .. | .minsw4 .. | .minub8 .. | .minuw4 .. | .maxub8 ..
  | .maxuw4 .. | .maxsb8 .. | .maxsw4 .. | .ftoit .. | .ftois .. | .mtFpcr .. | .trapb .. | .excb .. | .mb ..
  | .wmb .. | .fetch .. | .fetchM .. | .rpcc .. | .rc .. | .ecb .. | .rs .. | .wh64 .. | .wh64en .. | .jmp ..
  | .jsr .. | .ret .. | .jsrCoroutine .. | .br .. | .fbeq .. | .fblt .. | .fble .. | .bsr .. | .fbne ..
  | .fbge .. | .fbgt .. | .blbc .. | .beq .. | .blt .. | .ble .. | .blbs .. | .bne .. | .bge .. | .bgt ..
  | .hwMfpr .. | .hwLd .. | .hwMtpr .. | .hwRei .. | .hwSt .. => none

/-- The extension an instruction belongs to (30_encoding.md R309). -/
def Instr.extension (i : Instr) : Option Ext :=
  match i with
  | .ldbu .. | .ldwu .. | .stw .. | .stb .. | .sextb .. | .sextw .. => some .bwx
  | .ftoit .. | .ftois .. | .itofs .. | .itoff .. | .itoft .. | .sqrtf .. | .sqrtg .. | .sqrts .. | .sqrtt .. => some .fix
  | .ctpop .. | .ctlz .. | .cttz .. => some .cix
  | .perr .. | .unpkbw .. | .unpkbl .. | .pkwb .. | .pklb .. | .minsb8 .. | .minsw4 .. | .minub8 ..
  | .minuw4 .. | .maxub8 .. | .maxuw4 .. | .maxsb8 .. | .maxsw4 .. => some .mvi
  | .callPal .. | .lda .. | .ldah .. | .ldqU .. | .stqU .. | .ldf .. | .ldg .. | .lds .. | .ldt .. | .stf ..
  | .stg .. | .sts .. | .stt .. | .ldl .. | .ldq .. | .ldlL .. | .ldqL .. | .stl .. | .stq .. | .stlC ..
  | .stqC .. | .addl .. | .s4addl .. | .subl .. | .s4subl .. | .cmpbge .. | .s8addl .. | .s8subl ..
  | .cmpult .. | .addq .. | .s4addq .. | .subq .. | .s4subq .. | .cmpeq .. | .s8addq .. | .s8subq ..
  | .cmpule .. | .addlV .. | .sublV .. | .cmplt .. | .addqV .. | .subqV .. | .cmple .. | .and .. | .bic ..
  | .cmovlbs .. | .cmovlbc .. | .bis .. | .cmoveq .. | .cmovne .. | .ornot .. | .xor .. | .cmovlt ..
  | .cmovge .. | .eqv .. | .amask .. | .cmovle .. | .cmovgt .. | .implver .. | .mskbl .. | .extbl ..
  | .insbl .. | .mskwl .. | .extwl .. | .inswl .. | .mskll .. | .extll .. | .insll .. | .zap .. | .zapnot ..
  | .mskql .. | .srl .. | .extql .. | .sll .. | .insql .. | .sra .. | .mskwh .. | .inswh .. | .extwh ..
  | .msklh .. | .inslh .. | .extlh .. | .mskqh .. | .insqh .. | .extqh .. | .mull .. | .mulq .. | .umulh ..
  | .mullV .. | .mulqV .. | .adds .. | .subs .. | .muls .. | .divs .. | .addt .. | .subt .. | .mult ..
  | .divt .. | .cmptun .. | .cmpteq .. | .cmptlt .. | .cmptle .. | .cvtts .. | .cvttq .. | .cvtqs ..
  | .cvtqt .. | .cvtst .. | .addf .. | .subf .. | .mulf .. | .divf .. | .cvtdg .. | .addg .. | .subg ..
  | .mulg .. | .divg .. | .cmpgeq .. | .cmpglt .. | .cmpgle .. | .cvtgf .. | .cvtgd .. | .cvtgq .. | .cvtqf ..
  | .cvtqg .. | .cvtlq .. | .cpys .. | .cpysn .. | .cpyse .. | .mtFpcr .. | .mfFpcr .. | .fcmoveq ..
  | .fcmovne .. | .fcmovlt .. | .fcmovge .. | .fcmovle .. | .fcmovgt .. | .cvtql .. | .trapb .. | .excb ..
  | .mb .. | .wmb .. | .fetch .. | .fetchM .. | .rpcc .. | .rc .. | .ecb .. | .rs .. | .wh64 .. | .wh64en ..
  | .jmp .. | .jsr .. | .ret .. | .jsrCoroutine .. | .br .. | .fbeq .. | .fblt .. | .fble .. | .bsr ..
  | .fbne .. | .fbge .. | .fbgt .. | .blbc .. | .beq .. | .blt .. | .ble .. | .blbs .. | .bne .. | .bge ..
  | .bgt .. | .hwMfpr .. | .hwLd .. | .hwMtpr .. | .hwRei .. | .hwSt .. => none

/-- The instructions that need PS.FEN = 1: every floating instruction, load, store and branch (43_float.md R611). -/
def Instr.isFloat (i : Instr) : Bool :=
  match i with
  | .ldf .. | .ldg .. | .lds .. | .ldt .. | .stf .. | .stg .. | .sts .. | .stt .. | .ftoit .. | .ftois ..
  | .adds .. | .subs .. | .muls .. | .divs .. | .addt .. | .subt .. | .mult .. | .divt .. | .cmptun ..
  | .cmpteq .. | .cmptlt .. | .cmptle .. | .cvtts .. | .cvttq .. | .cvtqs .. | .cvtqt .. | .cvtst .. | .addf ..
  | .subf .. | .mulf .. | .divf .. | .cvtdg .. | .addg .. | .subg .. | .mulg .. | .divg .. | .cmpgeq ..
  | .cmpglt .. | .cmpgle .. | .cvtgf .. | .cvtgd .. | .cvtgq .. | .cvtqf .. | .cvtqg .. | .itofs .. | .itoff ..
  | .itoft .. | .sqrtf .. | .sqrtg .. | .sqrts .. | .sqrtt .. | .cvtlq .. | .cpys .. | .cpysn .. | .cpyse ..
  | .mtFpcr .. | .mfFpcr .. | .fcmoveq .. | .fcmovne .. | .fcmovlt .. | .fcmovge .. | .fcmovle .. | .fcmovgt ..
  | .cvtql .. | .fbeq .. | .fblt .. | .fble .. | .fbne .. | .fbge .. | .fbgt .. => true
  | .callPal .. | .lda .. | .ldah .. | .ldbu .. | .ldqU .. | .ldwu .. | .stw .. | .stb .. | .stqU .. | .ldl ..
  | .ldq .. | .ldlL .. | .ldqL .. | .stl .. | .stq .. | .stlC .. | .stqC .. | .addl .. | .s4addl .. | .subl ..
  | .s4subl .. | .cmpbge .. | .s8addl .. | .s8subl .. | .cmpult .. | .addq .. | .s4addq .. | .subq ..
  | .s4subq .. | .cmpeq .. | .s8addq .. | .s8subq .. | .cmpule .. | .addlV .. | .sublV .. | .cmplt ..
  | .addqV .. | .subqV .. | .cmple .. | .and .. | .bic .. | .cmovlbs .. | .cmovlbc .. | .bis .. | .cmoveq ..
  | .cmovne .. | .ornot .. | .xor .. | .cmovlt .. | .cmovge .. | .eqv .. | .amask .. | .cmovle .. | .cmovgt ..
  | .implver .. | .mskbl .. | .extbl .. | .insbl .. | .mskwl .. | .extwl .. | .inswl .. | .mskll .. | .extll ..
  | .insll .. | .zap .. | .zapnot .. | .mskql .. | .srl .. | .extql .. | .sll .. | .insql .. | .sra ..
  | .mskwh .. | .inswh .. | .extwh .. | .msklh .. | .inslh .. | .extlh .. | .mskqh .. | .insqh .. | .extqh ..
  | .mull .. | .mulq .. | .umulh .. | .mullV .. | .mulqV .. | .sextb .. | .sextw .. | .ctpop .. | .perr ..
  | .ctlz .. | .cttz .. | .unpkbw .. | .unpkbl .. | .pkwb .. | .pklb .. | .minsb8 .. | .minsw4 .. | .minub8 ..
  | .minuw4 .. | .maxub8 .. | .maxuw4 .. | .maxsb8 .. | .maxsw4 .. | .trapb .. | .excb .. | .mb .. | .wmb ..
  | .fetch .. | .fetchM .. | .rpcc .. | .rc .. | .ecb .. | .rs .. | .wh64 .. | .wh64en .. | .jmp .. | .jsr ..
  | .ret .. | .jsrCoroutine .. | .br .. | .bsr .. | .blbc .. | .beq .. | .blt .. | .ble .. | .blbs .. | .bne ..
  | .bge .. | .bgt .. | .hwMfpr .. | .hwLd .. | .hwMtpr .. | .hwRei .. | .hwSt .. => false

end Sys2Proof
end

