-- ==== Sys2Proof/Certificates/Slice0/Obligations.lean ====
section
/-! DEFINITION. The statements for the provers. A statement about an instruction has the completion of the instruction as its
conclusion, with what it writes and, through `yieldsX`, `yieldsF`, `onlyX`, `onlyF` and the record equations, everything it
leaves alone. R31 and F31 are covered by `wroteX` and `wroteF`. -/

open Sys2Proof Sys2Proof.Machine

/-! Encoding. -/

/-- Decoding the word of a well-formed instruction gives the instruction back (30_encoding.md R315, R319). -/
def Obligations.DecodeOfEncode : Prop :=
  ∀ i : Instr, i.wf = true → decode (encode i) = .instr i

/-- Encoding what a word decodes to gives the word back: no bit of a legal word is dropped (30_encoding.md R315). -/
def Obligations.EncodeOfDecode : Prop :=
  ∀ (w : IWord) (i : Instr), decode w = .instr i → encode i = w ∧ i.wf = true

/-- Words written out in the spec's examples decode to the instructions they stand for, and words of the reserved opcodes
0x01 to 0x07 decode to the reserved-opcode fault (30_encoding.md R311, R312, R318). -/
def Obligations.WordsOfTheSpec : Prop :=
  decode 0x43C0740B = .instr (.addq 30 (.lit 3) 11)
    ∧ decode 0x47FF041F = .instr (.bis 31 (.reg 31) 31)
    ∧ decode 0x2FFE0000 = .instr (.ldqU 31 30 0)
    ∧ decode 0x5FFF041F = .instr (.cpys 31 31 31)
    ∧ decode 0x6BFA8001 = .instr (.ret 31 26 1)
    ∧ decode 0xE7E0000C = .instr (.beq 31 12)
    ∧ decode 0x38090000 = .instr (.stb 0 9 0)
    ∧ decode 0x00000083 = .instr (.callPal 0x83)
    ∧ decode 0x643F0001 = .instr (.hwMfpr 1 1)
    ∧ decode 0x7C228000 = .instr (.hwSt 1 2 false 0)
    ∧ decode 0x63FF4000 = .instr (.mb 31 31)
    ∧ ∀ op : BitVec 6, 1 ≤ op.toNat → op.toNat ≤ 7 → ∀ low : BitVec 26, decode (op ++ low) = .reserved

/-! The machine as a whole. -/

/-- What a launch leaves, for every consistent parameter set, any number of CPUs, and regions that are in order and pairwise
disjoint, on a host that has the memory: the values of 70_reset_and_hazards.md R900 and R901 on every CPU, CPU numbers in
order, and the shared state, the images and the regions as given. An inconsistent parameter set, one with an unsupported page
size or with a vector of IPL 0 (60_exceptions.md R836) among them, a region that is not in order, two that overlap and a host without the memory fail the call (R9, R905; that
the call is told whether the host has it is the model's, log 44). The general registers' values are the model's choice (log 1)
and are not stated. At most 65536 CPUs have numbers of their own (log 35); which sets and images are inconsistent beyond R7's
ranges is the model's (log 30, log 41, log 43). -/
def Obligations.ResetValues : Prop :=
  ∀ (enough : Bool) (p : Params) (n : Nat) (image rom : List Host.Cell) (rs : List MmioRegion),
    (Params.wf p n = false → launch enough p n image rom rs = .fault .inconsistentConfig)
    ∧ (0x2000 ∉ p.pageSizes ∨ (∃ b ∈ p.pageSizes, b ≠ 0x2000 ∧ b ≠ 0x10000 ∧ b ≠ 0x80000 ∧ b ≠ 0x400000) →
      launch enough p n image rom rs = .fault .inconsistentConfig)
    ∧ ((∃ v, Params.vectorIpl p v = 0) → launch enough p n image rom rs = .fault .inconsistentConfig)
    ∧ (enough = false → ∃ f, launch enough p n image rom rs = .fault f)
    ∧ ((∃ r ∈ rs, r.stop < r.start ∨ 2 ^ 48 ≤ r.stop) ∨ ¬ rs.Pairwise (fun a b => a.stop < b.start ∨ b.stop < a.start) →
      ∃ f, launch enough p n image rom rs = .fault f)
    ∧ (enough = true → Params.wf p n = true → n ≤ 65536 → imageOk 0 p.ramTop image = true → imageOk p.romBase p.romTop rom = true →
      (∀ r ∈ rs, r.start ≤ r.stop ∧ r.stop < 2 ^ 48) → rs.Pairwise (fun a b => a.stop < b.start ∨ b.stop < a.start) →
      ∃ s, launch enough p n image rom rs = .next s
      ∧ (State.cpus s).map (fun c => c.whami.toNat) = List.range n
      ∧ s.cfg = p ∧ s.mem = image ∧ s.rom = rom ∧ s.regions = rs
      ∧ (∀ c ∈ State.cpus s,
        c.pc = p.palBaseReset + (match p.palScheme with
            | .linear => 0x1000
            | .openEv6 => 0x780)
        ∧ c.ps = 0x1F20 ∧ c.fpcr = 0 ∧ c.excAddr = 0 ∧ c.excPs = 0 ∧ c.palBase = p.palBaseReset ∧ c.mmStat = 0 ∧ c.va = 0
        ∧ c.ptbr = 0 ∧ c.pcbb = 0 ∧ c.itbAsn = 0 ∧ c.dtbAsn = 0 ∧ c.unique = 0 ∧ c.intid = 0 ∧ c.excSum = 0
        ∧ c.excMask = 0 ∧ c.mmuCtl = 0 ∧ c.mces = 0 ∧ c.lockFlag = false ∧ c.intrFlag = false ∧ c.halted = false
        ∧ c.sleeping = false ∧ c.palBaseLocked = false ∧ c.pend = ⟨false, 0, 0⟩ ∧ c.irq = [] ∧ c.sb = [] ∧ c.tbiIn = []
        ∧ c.itb = ⟨[], 0, 0⟩ ∧ c.dtb = ⟨[], 0, 0⟩ ∧ c.icache = ⟨[]⟩ ∧ c.l1d = ⟨[]⟩)
      ∧ (∀ c ∈ s.l2, c = ⟨[]⟩) ∧ s.l3 = ⟨[]⟩)

/-- Reset meets the invariants: reserved bits zero, interrupt sets in form, CPU numbers distinct, and memory canonical if the
image is. At most 65536 CPUs have numbers of their own (log 35). -/
def Obligations.ResetMeetsInvariants : Prop :=
  ∀ (p : Params) (n : Nat) (image rom : List Host.Cell) (rs : List MmioRegion), Params.wf p n = true → n ≤ 65536 →
    Memory.wf image = true →
    let s := State.resetWith p n image rom rs
    State.memOk s = true ∧ State.reservedZero s = true ∧ State.irqOk s = true
      ∧ ((State.cpus s).map fun c => c.whami).Nodup

/-- Every step keeps the memory canonical, from every state, with any number of CPUs and any drain in between; and no step changes
the ROM, the MMIO regions or the launch parameters (10_state.md R74, R75). The canonical form is the model's (log 5). -/
def Obligations.StepKeepsMemoryForm : Prop :=
  ∀ s t : State, step s = .next t →
    (State.memOk s = true → State.memOk t = true) ∧ t.rom = s.rom ∧ t.regions = s.regions ∧ t.cfg = s.cfg

/-- Every step keeps the reserved bits of PS, EXC_PS, FPCR, PAL_BASE, PTBR, the ASNs, MMU_CTL, MCES, INTID, EXC_SUM and
MM_STAT zero on every CPU (10_state.md R57, R60, R67, R68, R69), and keeps every interrupt request set a set in the order of
vectors (60_exceptions.md R835). -/
def Obligations.StepKeepsReservedBitsAndIrqSets : Prop :=
  ∀ s t : State, State.reservedZero s = true → State.irqOk s = true → step s = .next t →
    State.reservedZero t = true ∧ State.irqOk t = true

/-- Every step keeps the CPUs: the same numbers, no CPU lost or doubled by the scheduling (60_exceptions.md R859). The
scheduling is the model's (log 7). -/
def Obligations.StepKeepsCpuNumbers : Prop :=
  ∀ s t : State, ((State.cpus s).map fun c => c.whami).Nodup → step s = .next t →
    ((State.cpus t).map fun c => c.whami).Perm ((State.cpus s).map fun c => c.whami)

/-- A halted CPU stays halted, and no step changes its pc, its registers, its PS or its cycle counter, whatever the other CPUs do
(60_exceptions.md R851, R860, 70_reset_and_hazards.md R904, R930). That its cycle counter stands still, R64 advancing it at each
boundary and R860 keeping all state, is the model's reading (log 33), and so is that a halt request which it has still to observe
changes nothing else (log 32). -/
def Obligations.HaltedCpuStaysHalted : Prop :=
  ∀ s t : State, ((State.cpus s).map fun c => c.whami).Nodup → step s = .next t →
    ∀ c ∈ State.cpus s, c.halted = true → ∃ d ∈ State.cpus t, d.whami = c.whami ∧ d.halted = true
      ∧ d.pc = c.pc ∧ d.regs = c.regs ∧ d.fregs = c.fregs ∧ d.ps = c.ps ∧ d.fpcr = c.fpcr ∧ d.cc = c.cc

/-- A STEP RUNS THE DECODED INSTRUCTION: one CPU with an empty store buffer and TLB inbox, to which nothing is due at the
boundary (`State.runs`), whose fetch answers a word that decodes to an instruction, steps as `exec` of that instruction does
on the state the fetch left, and the cycle counter then advances by its draw (60_exceptions.md R855). And in PAL mode, with a
coherent I-cache, the fetch of an aligned pc in RAM answers the four bytes of memory there, the least significant first, and
changes only cache metadata and draws (20_memory.md R150, R178, R190, R200). And what else a fetch can come to: an exception
of the fetch is taken; a word of the reserved-opcode fault takes OPCDEC; a word with wrong should-be fields is refused, with
no next state (30_encoding.md R312, 00_scope.md R14), but takes OPCDEC where the CPU lacks the extension it would belong to
(log 36). And WHAT A FETCH READS, in every mode: the aligned pc is translated as a fetch (R165), whose exception is the
fetch's; at the physical address it finds, from 2^48 up a machine check of cause 2 (R245); in a region the low 32 bits of the
device's answer, or a machine check of cause 1 (R243); in ROM its four bytes; in unmapped space all ones, or in strict mode a
machine check of cause 1 (R244); in RAM the four bytes of memory, or without I-cache coherence bytes that memory or its
recorded history holds there (R192; log 25), or the back-end's machine check of cause 3 (60_exceptions.md R842; log 18). No
fetch reads or drains the store buffer (R178; that a fetch from ROM or a region does not wait for it is the model's reading,
log 26). That the counter advances at the end of the step is the model's choice (log 3). -/
def Obligations.StepRunsDecodedInstruction : Prop :=
  (∀ (s s' : State) (w : IWord) (i : Instr), State.alone s = true → State.runs s = true →
    State.fetchWord s = .ok w s' → decode w = .instr i → step s = tickAfter (exec i s'))
  ∧ (∀ s s' : State, State.alone s = true → State.runs s = true →
    (∀ e, State.fetchWord s = .exc e s' → step s = .next (State.tick (State.take s' e)))
    ∧ ∀ w, State.fetchWord s = .ok w s' →
      (decode w = .reserved → step s = .next (State.tick (State.take s' .opcdec)))
      ∧ (decode w = .refused none → step s = .refused .shouldBeField)
      ∧ ∀ e, decode w = .refused (some e) → (State.has s e = true → step s = .refused .shouldBeField)
        ∧ (State.has s e = false → step s = .next (State.tick (State.take s' .opcdec))))
  ∧ (∀ s : State, State.inPal s = true → s.cfg.icacheCoherent = true → s.cfg.backendErrs = false →
      s.cpu.pc.toNat % 4 = 0 → State.route s s.cpu.pc.toNat = .ram →
      ∃ s', State.fetchWord s = .ok
          (wordOfBytes (Memory.get s.mem s.cpu.pc.toNat) (Memory.get s.mem (s.cpu.pc.toNat + 1))
            (Memory.get s.mem (s.cpu.pc.toNat + 2)) (Memory.get s.mem (s.cpu.pc.toNat + 3))) s'
        ∧ State.noCaches s' = State.noCaches s)
  ∧ ∀ s : State, s.cpu.pc.toNat % 4 = 0 →
    (∀ e w, State.translate s Access.fetch s.cpu.pc = .exc e w → State.fetchWord s = .exc e w)
    ∧ ∀ (a : Word) (u : State), State.translate s Access.fetch s.cpu.pc = .ok a u →
      let pa := a.toNat
      let four (m : List Host.Cell) : IWord :=
        wordOfBytes (Memory.get m pa) (Memory.get m (pa + 1)) (Memory.get m (pa + 2)) (Memory.get m (pa + 3))
      let recorded (k : Nat) (b : Byte) : Prop := ∃ cells ∈ u.cpu.icHist, (pa + k, b) ∈ cells
      let from_ : State := if u.cfg.icacheCoherent then u else { u with draws := u.draws + 1 }
      (2 ^ 48 ≤ pa → State.fetchWord s = .exc (.mchk 2) u)
      ∧ (∀ r, State.route u pa = .mmio r →
        (Config.mmioError u.draws = true → State.fetchWord s = .exc (.mchk 1) (State.called u r pa 4 none))
        ∧ (Config.mmioError u.draws = false → State.fetchWord s
          = .ok ((Config.mmioRead u.draws r.dev (pa - r.start) 4).extractLsb' 0 32) (State.called u r pa 4 none)))
      ∧ (State.route u pa = .rom → State.fetchWord s = .ok (four u.rom) u)
      ∧ (State.route u pa = .unmapped →
        State.fetchWord s = if u.cfg.mmioStrict then .exc (.mchk 1) u else .ok 0xFFFFFFFF u)
      ∧ (State.route u pa = .ram →
        (State.ramErrs .inst from_ pa 4 = true → State.fetchWord s = .exc (.mchk 3) (State.ramErred .inst from_ pa 4))
        ∧ (State.ramErrs .inst from_ pa 4 = false → ∃ w s', State.fetchWord s = .ok w s'
          ∧ State.noCaches s' = State.noCaches u
          ∧ (u.cfg.icacheCoherent = true → w = four u.mem)
          ∧ ∀ k < 4, w.extractLsb' (8 * k) 8 = Memory.get u.mem (pa + k) ∨ recorded k (w.extractLsb' (8 * k) 8)))

/-- The pc stays a multiple of 4 after every instruction but HW_REI, exceptions included, if PAL_BASE has its reserved bits
zero; and a fetch at a pc that is no multiple of 4 raises the access violation (42_control.md R572, which the spec derives
from R550 and R567 to R570; of exceptions 10_state.md R68, 44_misc_pal.md R723, 60_exceptions.md R830; of the fetch R812). -/
def Obligations.PcStaysAligned : Prop :=
  (∀ (i : Instr) (s t : State), i ≠ .hwRei → s.cpu.pc.toNat % 4 = 0 → maskedBy palBaseMask s.cpu.palBase = true →
    exec i s = .next t → t.cpu.pc.toNat % 4 = 0)
  ∧ ∀ s : State, s.cpu.pc.toNat % 4 ≠ 0 → State.fetchWord s = .exc (.mmFault Access.fetch .acv s.cpu.pc) s

/-- PAL mode is entered by an instruction only with the state of a PAL entry (the old PS saved, PALM the only changed bit of
PS, the reservation lost, the pc or the pc + 4 saved), and left only by HW_REI and by HW_MTPR to PS (44_misc_pal.md R724). -/
def Obligations.PalModeChanges : Prop :=
  ∀ (i : Instr) (s t : State), exec i s = .next t →
    (State.inPal s = false → State.inPal t = true →
      t.cpu.excPs = s.cpu.ps ∧ t.cpu.ps = s.cpu.ps ||| 0x20 ∧ t.cpu.lockFlag = false ∧ t.cpu.sb = []
        ∧ (t.cpu.excAddr = s.cpu.pc ∨ t.cpu.excAddr = s.cpu.pc + 4))
    ∧ (State.inPal s = true → State.inPal t = false → i = .hwRei ∨ ∃ ra, i = .hwMtpr ra 0)

/-- Outside PAL mode no instruction changes a control register, the halted or sleeping state, any interrupt request set, or
any other CPU's registers; and PS changes only by setting PALM (10_state.md R67, 44_misc_pal.md R724, R761). -/
def Obligations.ControlStateNeedsPalMode : Prop :=
  ∀ (i : Instr) (s t : State), State.inPal s = false → exec i s = .next t →
    t.cpu.palBase = s.cpu.palBase ∧ t.cpu.palBaseLocked = s.cpu.palBaseLocked ∧ t.cpu.ptbr = s.cpu.ptbr
      ∧ t.cpu.pcbb = s.cpu.pcbb ∧ t.cpu.itbAsn = s.cpu.itbAsn ∧ t.cpu.dtbAsn = s.cpu.dtbAsn
      ∧ t.cpu.unique = s.cpu.unique ∧ t.cpu.mmuCtl = s.cpu.mmuCtl ∧ t.cpu.sleeping = s.cpu.sleeping
      ∧ t.cpu.irq = s.cpu.irq ∧ t.cpu.intid = s.cpu.intid ∧ t.cpu.whami = s.cpu.whami
      ∧ (t.cpu.ps = s.cpu.ps ∨ t.cpu.ps = s.cpu.ps ||| 0x20)
      ∧ (t.cpu.halted = s.cpu.halted ∨ s.cpu.mces.getLsbD 0 = true)
      ∧ t.peers.map Cpu.core = s.peers.map Cpu.core ∧ t.cfg = s.cfg ∧ t.regions = s.regions

/-- The FPCR: no instruction but MT_FPCR clears a sticky bit (57:52) or changes any other bit (10_state.md R62). -/
def Obligations.StickyBitsOnlyClearedByMtFpcr : Prop :=
  ∀ (i : Instr) (s t : State), (∀ fa fb fc, i ≠ .mtFpcr fa fb fc) → exec i s = .next t →
    (∀ k : Nat, 52 ≤ k → k ≤ 57 → s.cpu.fpcr.getLsbD k = true → t.cpu.fpcr.getLsbD k = true)
      ∧ ∀ k : Nat, (k < 52 ∨ 57 < k) → t.cpu.fpcr.getLsbD k = s.cpu.fpcr.getLsbD k

/-- THE REGISTER FRAME OF EVERY INSTRUCTION: only its integer destination, if it has one, can change among the integer
registers, only its floating destination among the floating ones; only RC and RS change `intr_flag`; R31 and F31 read 0
after it (10_state.md R50, R51, R54, R66; sections 40 to 44 for the destinations). -/
def Obligations.OnlyDestinationsChange : Prop :=
  ∀ (i : Instr) (s t : State), exec i s = .next t →
    (∀ r, i.intDest ≠ some r → State.x t r = State.x s r)
      ∧ (∀ r, i.fpDest ≠ some r → State.f t r = State.f s r)
      ∧ ((∀ ra rb, i ≠ .rc ra rb ∧ i ≠ .rs ra rb) → t.cpu.intrFlag = s.cpu.intrFlag)
      ∧ State.x t 31 = 0 ∧ State.f t 31 = 0

/-- EXCEPTIONS ARE PRECISE: an instruction that takes the CPU from another mode into PAL mode (by any exception, or by
CALL_PAL) has changed no register, no FPCR bit, no `intr_flag`, no byte of memory this CPU's loads read, and no other CPU's
registers (60_exceptions.md R826). Of a split store whose device errs midway this is the model's reading (log 27). -/
def Obligations.EntriesArePrecise : Prop :=
  ∀ (i : Instr) (s t : State), State.memOk s = true → exec i s = .next t → State.inPal s = false → State.inPal t = true →
    t.cpu.regs = s.cpu.regs ∧ t.cpu.fregs = s.cpu.fregs ∧ t.cpu.fpcr = s.cpu.fpcr ∧ t.cpu.intrFlag = s.cpu.intrFlag
      ∧ sameBytes s t ∧ t.peers.map Cpu.core = s.peers.map Cpu.core

/-! Integer operates (40_integer.md). -/

/-- ADDL, ADDQ, SUBL, SUBQ and the scaled adds and subtracts: value, frame, completion. -/
def Obligations.IntegerAddSubtract : Prop :=
  ∀ (s : State) (ra rc : Reg) (o : Operand),
    let a := State.x s ra
    let b := State.rbv s o
    let long (v : Word) : Word := (v.extractLsb' 0 32).signExtend 64
    yieldsX (exec (.addl ra o rc) s) s rc (long (a + b))
      ∧ yieldsX (exec (.addq ra o rc) s) s rc (a + b)
      ∧ yieldsX (exec (.subl ra o rc) s) s rc (long (a - b))
      ∧ yieldsX (exec (.subq ra o rc) s) s rc (a - b)
      ∧ yieldsX (exec (.s4addl ra o rc) s) s rc (long ((a <<< 2) + b))
      ∧ yieldsX (exec (.s8addl ra o rc) s) s rc (long ((a <<< 3) + b))
      ∧ yieldsX (exec (.s4addq ra o rc) s) s rc ((a <<< 2) + b)
      ∧ yieldsX (exec (.s8addq ra o rc) s) s rc ((a <<< 3) + b)
      ∧ yieldsX (exec (.s4subl ra o rc) s) s rc (long ((a <<< 2) - b))
      ∧ yieldsX (exec (.s8subl ra o rc) s) s rc (long ((a <<< 3) - b))
      ∧ yieldsX (exec (.s4subq ra o rc) s) s rc ((a <<< 2) - b)
      ∧ yieldsX (exec (.s8subq ra o rc) s) s rc ((a <<< 3) - b)

/-- The compares give 1 or 0; CMPBGE compares the eight bytes and gives one bit for each. -/
def Obligations.IntegerCompare : Prop :=
  ∀ (s : State) (ra rc : Reg) (o : Operand),
    let a := State.x s ra
    let b := State.rbv s o
    yieldsX (exec (.cmpeq ra o rc) s) s rc (if a = b then 1 else 0)
      ∧ yieldsX (exec (.cmplt ra o rc) s) s rc (if a.toInt < b.toInt then 1 else 0)
      ∧ yieldsX (exec (.cmple ra o rc) s) s rc (if a.toInt ≤ b.toInt then 1 else 0)
      ∧ yieldsX (exec (.cmpult ra o rc) s) s rc (if a.toNat < b.toNat then 1 else 0)
      ∧ yieldsX (exec (.cmpule ra o rc) s) s rc (if a.toNat ≤ b.toNat then 1 else 0)
      ∧ ∃ v, yieldsX (exec (.cmpbge ra o rc) s) s rc v
          ∧ ∀ i < 64, v.getLsbD i
            = (decide (i < 8) && decide ((b.extractLsb' (8 * i) 8).toNat ≤ (a.extractLsb' (8 * i) 8).toNat))

/-- The /V instructions write what the instruction without /V writes, and record an integer-overflow trap for Rc iff the
exact result does not fit; a second trap accumulates (40_integer.md R493, 60_exceptions.md R821). -/
def Obligations.IntegerOverflowTraps : Prop :=
  ∀ (s : State) (ra rc : Reg) (o : Operand),
    let a := State.x s ra
    let b := State.rbv s o
    let al := (a.extractLsb' 0 32).toInt
    let bl := (b.extractLsb' 0 32).toInt
    let long (v : Word) : Word := (v.extractLsb' 0 32).signExtend 64
    let done (i : Instr) (v : Word) (ovf : Prop) : Prop :=
      ∃ t, exec i s = .next t ∧ wroteX s t rc v ∧ t.cpu.pc = s.cpu.pc + 4
        ∧ (ovf → t.cpu.pend = ⟨true, s.cpu.pend.sum ||| 0x40, s.cpu.pend.mask ||| (1 <<< rc.toNat)⟩)
        ∧ (¬ ovf → t.cpu.pend = s.cpu.pend)
        ∧ t = { s with cpu := { s.cpu with regs := t.cpu.regs, pc := t.cpu.pc, pend := t.cpu.pend } } ∧ sameBytes s t
    done (.addlV ra o rc) (long (a + b)) (al + bl < -2 ^ 31 ∨ 2 ^ 31 ≤ al + bl)
      ∧ done (.addqV ra o rc) (a + b) (a.toInt + b.toInt < -2 ^ 63 ∨ 2 ^ 63 ≤ a.toInt + b.toInt)
      ∧ done (.sublV ra o rc) (long (a - b)) (al - bl < -2 ^ 31 ∨ 2 ^ 31 ≤ al - bl)
      ∧ done (.subqV ra o rc) (a - b) (a.toInt - b.toInt < -2 ^ 63 ∨ 2 ^ 63 ≤ a.toInt - b.toInt)
      ∧ done (.mullV ra o rc) (long (a * b)) (al * bl < -2 ^ 31 ∨ 2 ^ 31 ≤ al * bl)
      ∧ done (.mulqV ra o rc) (a * b) (a.toInt * b.toInt < -2 ^ 63 ∨ 2 ^ 63 ≤ a.toInt * b.toInt)

/-- The logical instructions bit by bit, and the shifts bit by bit with the count taken modulo 64. -/
def Obligations.LogicalAndShifts : Prop :=
  ∀ (s : State) (ra rc : Reg) (o : Operand),
    let a := State.x s ra
    let b := State.rbv s o
    let n := b.toNat % 64
    let bits (i : Instr) (f : Nat → Bool) : Prop :=
      ∃ v, yieldsX (exec i s) s rc v ∧ ∀ k < 64, v.getLsbD k = f k
    bits (.and ra o rc) (fun k => a.getLsbD k && b.getLsbD k)
      ∧ bits (.bic ra o rc) (fun k => a.getLsbD k && !b.getLsbD k)
      ∧ bits (.bis ra o rc) (fun k => a.getLsbD k || b.getLsbD k)
      ∧ bits (.ornot ra o rc) (fun k => a.getLsbD k || !b.getLsbD k)
      ∧ bits (.xor ra o rc) (fun k => a.getLsbD k != b.getLsbD k)
      ∧ bits (.eqv ra o rc) (fun k => a.getLsbD k == b.getLsbD k)
      ∧ bits (.sll ra o rc) (fun k => decide (n ≤ k) && a.getLsbD (k - n))
      ∧ bits (.srl ra o rc) (fun k => decide (k + n < 64) && a.getLsbD (k + n))
      ∧ bits (.sra ra o rc) (fun k => if k + n < 64 then a.getLsbD (k + n) else a.getLsbD 63)

/-- The conditional moves: Rb to Rc where the condition on Ra holds, else only the pc changes. -/
def Obligations.ConditionalMoves : Prop :=
  ∀ (s : State) (ra rc : Reg) (o : Operand),
    let a := State.x s ra
    let moves (i : Instr) (cond : Prop) : Prop :=
      (cond → yieldsX (exec i s) s rc (State.rbv s o))
        ∧ (¬ cond → exec i s = .next { s with cpu := { s.cpu with pc := s.cpu.pc + 4 } })
    moves (.cmoveq ra o rc) (a = 0) ∧ moves (.cmovne ra o rc) (a ≠ 0)
      ∧ moves (.cmovlt ra o rc) (a.toInt < 0) ∧ moves (.cmovge ra o rc) (0 ≤ a.toInt)
      ∧ moves (.cmovle ra o rc) (a.toInt ≤ 0) ∧ moves (.cmovgt ra o rc) (0 < a.toInt)
      ∧ moves (.cmovlbs ra o rc) (a.getLsbD 0 = true) ∧ moves (.cmovlbc ra o rc) (a.getLsbD 0 = false)

/-- ZAP, ZAPNOT and the MSK family, byte by byte: byte `k` is cleared or kept. For MSKxL the element is bytes `off` up to
`off + width` of the quadword, for MSKxH what of it spills into the next quadword. -/
def Obligations.ZapAndMaskBytes : Prop :=
  ∀ (s : State) (ra rc : Reg) (o : Operand),
    let a := State.x s ra
    let b := State.rbv s o
    let off := b.toNat % 8
    let clears (i : Instr) (f : Nat → Prop) : Prop :=
      ∃ v, yieldsX (exec i s) s rc v ∧ ∀ k < 8, (f k → byteAt v k = 0) ∧ (¬ f k → byteAt v k = byteAt a k)
    clears (.zap ra o rc) (fun k => b.getLsbD k = true)
      ∧ clears (.zapnot ra o rc) (fun k => b.getLsbD k = false)
      ∧ clears (.mskbl ra o rc) (fun k => off ≤ k ∧ k < off + 1)
      ∧ clears (.mskwl ra o rc) (fun k => off ≤ k ∧ k < off + 2)
      ∧ clears (.mskll ra o rc) (fun k => off ≤ k ∧ k < off + 4)
      ∧ clears (.mskql ra o rc) (fun k => off ≤ k ∧ k < off + 8)
      ∧ clears (.mskwh ra o rc) (fun k => k + 8 < off + 2)
      ∧ clears (.msklh ra o rc) (fun k => k + 8 < off + 4)
      ∧ clears (.mskqh ra o rc) (fun k => k + 8 < off + 8)

/-- The EXT and INS families, byte by byte: byte `k` of the result is a byte of Ra or 0. At `off` = 0 the high extracts take
the low bytes of Ra and the high inserts give 0. -/
def Obligations.ExtractAndInsertBytes : Prop :=
  ∀ (s : State) (ra rc : Reg) (o : Operand),
    let a := State.x s ra
    let off := (State.rbv s o).toNat % 8
    let bytes (i : Instr) (f : Nat → Byte) : Prop :=
      ∃ v, yieldsX (exec i s) s rc v ∧ ∀ k < 8, byteAt v k = f k
    let extl (w k : Nat) : Byte := if k < w ∧ k + off < 8 then byteAt a (k + off) else 0
    let exth (w k : Nat) : Byte :=
      if k < w then (if off = 0 then byteAt a k else if 8 ≤ k + off then byteAt a (k + off - 8) else 0) else 0
    let insl (w k : Nat) : Byte := if off ≤ k ∧ k < off + w then byteAt a (k - off) else 0
    let insh (w k : Nat) : Byte := if k + 8 < off + w then byteAt a (k + 8 - off) else 0
    bytes (.extbl ra o rc) (extl 1) ∧ bytes (.extwl ra o rc) (extl 2) ∧ bytes (.extll ra o rc) (extl 4)
      ∧ bytes (.extql ra o rc) (extl 8)
      ∧ bytes (.extwh ra o rc) (exth 2) ∧ bytes (.extlh ra o rc) (exth 4) ∧ bytes (.extqh ra o rc) (exth 8)
      ∧ bytes (.insbl ra o rc) (insl 1) ∧ bytes (.inswl ra o rc) (insl 2) ∧ bytes (.insll ra o rc) (insl 4)
      ∧ bytes (.insql ra o rc) (insl 8)
      ∧ bytes (.inswh ra o rc) (insh 2) ∧ bytes (.inslh ra o rc) (insh 4) ∧ bytes (.insqh ra o rc) (insh 8)

/-- MULL, MULQ and UMULH: UMULH and MULQ together are the exact 128-bit unsigned product. -/
def Obligations.IntegerMultiply : Prop :=
  ∀ (s : State) (ra rc : Reg) (o : Operand),
    let a := State.x s ra
    let b := State.rbv s o
    yieldsX (exec (.mull ra o rc) s) s rc ((a.extractLsb' 0 32 * b.extractLsb' 0 32).signExtend 64)
      ∧ ∃ lo hi, yieldsX (exec (.mulq ra o rc) s) s rc lo ∧ yieldsX (exec (.umulh ra o rc) s) s rc hi
          ∧ hi.toNat * 2 ^ 64 + lo.toNat = a.toNat * b.toNat

/-- SEXTB and SEXTW with BWX, and CTPOP, CTLZ and CTTZ with CIX. -/
def Obligations.SignExtensionAndCounts : Prop :=
  ∀ (s : State) (o : Operand) (rc : Reg),
    let b := State.rbv s o
    (State.has s .bwx = true →
      yieldsX (exec (.sextb o rc) s) s rc ((b.extractLsb' 0 8).signExtend 64)
        ∧ yieldsX (exec (.sextw o rc) s) s rc ((b.extractLsb' 0 16).signExtend 64))
      ∧ (State.has s .cix = true →
        (∃ v, yieldsX (exec (.ctpop o rc) s) s rc v
          ∧ v.toNat = (Finset.univ.filter fun k : Fin 64 => b.getLsbD k = true).card)
        ∧ (∃ v, yieldsX (exec (.ctlz o rc) s) s rc v ∧ v.toNat ≤ 64
          ∧ (∀ k < v.toNat, b.getLsbD (63 - k) = false) ∧ (v.toNat < 64 → b.getLsbD (63 - v.toNat) = true))
        ∧ (∃ v, yieldsX (exec (.cttz o rc) s) s rc v ∧ v.toNat ≤ 64
          ∧ (∀ k < v.toNat, b.getLsbD k = false) ∧ (v.toNat < 64 → b.getLsbD v.toNat = true)))

/-- The MVI instructions, lane by lane, with MVI. -/
def Obligations.MviLanes : Prop :=
  ∀ (s : State) (ra rc : Reg) (o : Operand), State.has s .mvi = true →
    let a := State.x s ra
    let b := State.rbv s o
    let bytes (i : Instr) (f : Byte → Byte → Byte) : Prop :=
      ∃ v, yieldsX (exec i s) s rc v ∧ ∀ k < 8, byteAt v k = f (byteAt a k) (byteAt b k)
    let words (i : Instr) (f : BitVec 16 → BitVec 16 → BitVec 16) : Prop :=
      ∃ v, yieldsX (exec i s) s rc v ∧ ∀ k < 4, wordAt v k = f (wordAt a k) (wordAt b k)
    (∃ v, yieldsX (exec (.perr ra o rc) s) s rc v
        ∧ v.toNat = ∑ k : Fin 8, (((byteAt a k).toNat : Int) - (byteAt b k).toNat).natAbs)
      ∧ bytes (.minsb8 ra o rc) (fun x y => BitVec.ofInt 8 (min x.toInt y.toInt))
      ∧ words (.minsw4 ra o rc) (fun x y => BitVec.ofInt 16 (min x.toInt y.toInt))
      ∧ bytes (.minub8 ra o rc) (fun x y => BitVec.ofNat 8 (min x.toNat y.toNat))
      ∧ words (.minuw4 ra o rc) (fun x y => BitVec.ofNat 16 (min x.toNat y.toNat))
      ∧ bytes (.maxub8 ra o rc) (fun x y => BitVec.ofNat 8 (max x.toNat y.toNat))
      ∧ words (.maxuw4 ra o rc) (fun x y => BitVec.ofNat 16 (max x.toNat y.toNat))
      ∧ bytes (.maxsb8 ra o rc) (fun x y => BitVec.ofInt 8 (max x.toInt y.toInt))
      ∧ words (.maxsw4 ra o rc) (fun x y => BitVec.ofInt 16 (max x.toInt y.toInt))
      ∧ (∃ v, yieldsX (exec (.pkwb o rc) s) s rc v
        ∧ ∀ k < 8, byteAt v k = if k < 4 then byteAt b (2 * k) else 0)
      ∧ (∃ v, yieldsX (exec (.pklb o rc) s) s rc v
        ∧ ∀ k < 8, byteAt v k = if k < 2 then byteAt b (4 * k) else 0)
      ∧ (∃ v, yieldsX (exec (.unpkbw o rc) s) s rc v
        ∧ ∀ k < 8, byteAt v k = if k % 2 = 0 then byteAt b (k / 2) else 0)
      ∧ (∃ v, yieldsX (exec (.unpkbl o rc) s) s rc v
        ∧ ∀ k < 8, byteAt v k = if k % 4 = 0 then byteAt b (k / 4) else 0)

/-- The extensions: which model has which (the gating table), every instruction of an absent extension raises OPCDEC in
every state, and AMASK and IMPLVER report the model. -/
def Obligations.ExtensionGating : Prop :=
  (∀ (s : State) (e : Ext), State.has s e = decide (s.cfg.cpuModel ∈ (match e with
      | .bwx => [CpuModel.ev56, .pca56, .ev6, .ev67, .ev68, .ev7, .ev78]
      | .fix => [.ev6, .ev67, .ev68, .ev7, .ev78]
      | .cix => [.ev67, .ev68, .ev7, .ev78]
      | .mvi => [.pca56, .ev6, .ev67, .ev68, .ev7, .ev78])))
  ∧ (∀ (i : Instr) (s : State) (e : Ext), i.extension = some e → State.has s e = false →
      exec i s = .next (State.take s .opcdec))
  ∧ ∀ (s : State) (o : Operand) (rc : Reg),
      (∃ v, yieldsX (exec (.amask o rc) s) s rc v ∧ ∀ k < 64, v.getLsbD k
          = ((State.rbv s o).getLsbD k && !((k == 0 && State.has s .bwx) || (k == 1 && State.has s .fix)
            || (k == 2 && State.has s .cix) || (k == 8 && State.has s .mvi))))
      ∧ yieldsX (exec (.implver o rc) s) s rc (match s.cfg.cpuModel with
          | .ev4 => 0
          | .ev5 | .ev56 | .pca56 => 1
          | .ev6 | .ev67 | .ev68 | .ev7 | .ev78 => 2)

/-! Loads and stores (41_loadstore.md, 20_memory.md). -/

/-- LDA and LDAH: an address computation, wrapping, with no access to memory and no exception; their encodings, and the words
of the spec's examples (41_loadstore.md R501, R502). -/
def Obligations.LoadAddress : Prop :=
  ∀ (s : State) (ra rb : Reg) (d : BitVec 16),
    yieldsX (exec (.lda ra rb d) s) s ra (State.x s rb + d.signExtend 64)
      ∧ yieldsX (exec (.ldah ra rb d) s) s ra (State.x s rb + (d.signExtend 64 <<< 16))
      ∧ decode ((0x08 : BitVec 6) ++ ra ++ rb ++ d) = .instr (.lda ra rb d)
      ∧ decode ((0x09 : BitVec 6) ++ ra ++ rb ++ d) = .instr (.ldah ra rb d)
      ∧ decode 0x203FFFFF = .instr (.lda 1 31 0xFFFF) ∧ decode 0x243F0001 = .instr (.ldah 1 31 1)

/-- LDBU, LDWU, LDL, LDQ and LDQ_U, aligned: where translation answers a RAM address, the bytes this CPU's loads read there,
extended as the instruction says, go to Ra; registers, memory, reservations and other CPUs are unchanged, and the data TLB and
cache metadata may change. An exception of the translation is taken, whatever the alignment (R211). Elsewhere Ra takes,
extended, what the read outside RAM answers (`readsOutside`: MMIO, ROM, unmapped space, and the machine checks), and nothing
changes but what that read changes (20_memory.md R177, R240 to R245). A read of RAM for which the memory back-end reports an
error is a machine check of cause 3 with Ra unchanged (60_exceptions.md R842; whether it does is a draw, log 18). -/
def Obligations.IntegerLoads : Prop :=
  ∀ (s u : State) (ra rb : Reg) (d : BitVec 16) (pa : Word),
    let ea := State.x s rb + d.signExtend 64
    let loads (i : Instr) (n : Nat) (op : BitVec 6) (va : Word) (ext : Word → Word) : Prop :=
      (∀ e w, State.translate s ⟨.read, ra, op⟩ va = .exc e w → exec i s = .next (State.take w e))
      ∧ (State.translate s ⟨.read, ra, op⟩ va = .ok pa u → va.toNat % n = 0 →
      (State.route s pa.toNat = .ram → State.ramErrs .data u pa.toNat n = true →
        exec i s = .next (State.take (State.ramErred .data u pa.toNat n) (.mchk 3)))
      ∧ (State.route s pa.toNat = .ram → State.ramErrs .data u pa.toNat n = false →
        ∃ t, exec i s = .next t
          ∧ wroteX s t ra (ext (ofBytes ((List.range n).map fun k => State.loadByte s (pa.toNat + k))))
          ∧ t.cpu.pc = s.cpu.pc + 4 ∧ sameBytes s t
          ∧ State.noCaches t = State.noCaches
            { s with cpu := { s.cpu with regs := t.cpu.regs, pc := s.cpu.pc + 4, dtb := u.cpu.dtb } })
      ∧ readsOutside (exec i s) u pa.toNat n fun v w t =>
          wroteX s t ra (ext v) ∧ t = { w with cpu := { w.cpu with regs := t.cpu.regs, pc := s.cpu.pc + 4 } })
    (State.has s .bwx = true → loads (.ldbu ra rb d) 1 0x0A ea id)
      ∧ (State.has s .bwx = true → loads (.ldwu ra rb d) 2 0x0C ea id)
      ∧ loads (.ldl ra rb d) 4 0x28 ea (fun v => (v.extractLsb' 0 32).signExtend 64)
      ∧ loads (.ldq ra rb d) 8 0x29 ea id
      ∧ loads (.ldqU ra rb d) 8 0x0B (ea &&& ~~~7) id

/-- LDF, LDG, LDS and LDT, aligned, with PS.FEN = 1: the register form of the bytes there goes to Fa, in RAM as this CPU's
loads read them, elsewhere as the read outside RAM answers (`readsOutside`). The register forms are those that
`FloatMemoryForms` gives bit by bit. An exception of the translation is taken, and the machine check of cause 3 where the
memory back-end reports an error for the read of RAM (60_exceptions.md R842; log 18). -/
def Obligations.FloatLoads : Prop :=
  ∀ (s u : State) (fa rb : Reg) (d : BitVec 16) (pa : Word), State.fen s = true →
    let ea := State.x s rb + d.signExtend 64
    let loads (i : Instr) (n : Nat) (op : BitVec 6) (conv : Word → Word) : Prop :=
      (∀ e w, State.translate s ⟨.read, fa, op⟩ ea = .exc e w → exec i s = .next (State.take w e))
      ∧ (State.translate s ⟨.read, fa, op⟩ ea = .ok pa u → ea.toNat % n = 0 →
      (State.route s pa.toNat = .ram → State.ramErrs .data u pa.toNat n = true →
        exec i s = .next (State.take (State.ramErred .data u pa.toNat n) (.mchk 3)))
      ∧ (State.route s pa.toNat = .ram → State.ramErrs .data u pa.toNat n = false →
        ∃ t, exec i s = .next t
          ∧ wroteF s t fa (conv (ofBytes ((List.range n).map fun k => State.loadByte s (pa.toNat + k))))
          ∧ t.cpu.pc = s.cpu.pc + 4 ∧ sameBytes s t
          ∧ State.noCaches t = State.noCaches
            { s with cpu := { s.cpu with fregs := t.cpu.fregs, pc := s.cpu.pc + 4, dtb := u.cpu.dtb } })
      ∧ readsOutside (exec i s) u pa.toNat n fun v w t =>
          wroteF s t fa (conv v) ∧ t = { w with cpu := { w.cpu with fregs := t.cpu.fregs, pc := s.cpu.pc + 4 } })
    loads (.ldf fa rb d) 4 0x20 fMemToReg
      ∧ loads (.ldg fa rb d) 8 0x21 gMemToReg
      ∧ loads (.lds fa rb d) 4 0x22 sMemToReg
      ∧ loads (.ldt fa rb d) 8 0x23 id

/-- STB, STW, STL, STQ and STQ_U, aligned. To RAM the store enters the store buffer, so that this CPU's loads read its bytes
where it wrote and as before everywhere else, and memory itself does not change yet (20_memory.md R170, R171); elsewhere the
write outside RAM happens as `writesOutside` says (R177, R240 to R245); that a store to a region loses the reservations on its
line and a dropped one none is the model's reading of R181 (log 29). An exception of the translation is taken. -/
def Obligations.IntegerStores : Prop :=
  ∀ (s u : State) (ra rb : Reg) (d : BitVec 16) (pa : Word),
    let ea := State.x s rb + d.signExtend 64
    let stores (i : Instr) (n : Nat) (op : BitVec 6) (va : Word) : Prop :=
      (∀ e w, State.translate s ⟨.write, ra, op⟩ va = .exc e w → exec i s = .next (State.take w e))
      ∧ (State.translate s ⟨.write, ra, op⟩ va = .ok pa u → va.toNat % n = 0 →
      (State.route s pa.toNat = .ram →
        ∃ t, exec i s = .next t
          ∧ (∀ k < n, State.loadByte t (pa.toNat + k) = (State.x s ra).extractLsb' (8 * k) 8)
          ∧ (∀ b, b < pa.toNat ∨ pa.toNat + n ≤ b → State.loadByte t b = State.loadByte s b)
          ∧ t.cpu.pc = s.cpu.pc + 4
          ∧ State.noCaches t = State.noCaches
            { s with cpu := { s.cpu with pc := s.cpu.pc + 4, dtb := u.cpu.dtb, sb := t.cpu.sb } }
          ∧ t.cpu.sb = s.cpu.sb ++ [.store pa.toNat (bytesOf n (State.x s ra))])
      ∧ writesOutside (exec i s) u pa.toNat n (State.x s ra) passes)
    (State.has s .bwx = true → stores (.stb ra rb d) 1 0x0E ea)
      ∧ (State.has s .bwx = true → stores (.stw ra rb d) 2 0x0D ea)
      ∧ stores (.stl ra rb d) 4 0x2C ea
      ∧ stores (.stq ra rb d) 8 0x2D ea
      ∧ stores (.stqU ra rb d) 8 0x0F (ea &&& ~~~7)

/-- STF, STG, STS and STT, aligned, with PS.FEN = 1: the memory form of Fa enters the store buffer where the address is in
RAM, and is written as `writesOutside` says elsewhere (20_memory.md R177, R240 to R245); that a store to a region loses the
reservations on its line and a dropped one none is the model's reading of R181 (log 29). The memory forms are those that
`FloatMemoryForms` gives bit by bit. An exception of the translation is taken. -/
def Obligations.FloatStores : Prop :=
  ∀ (s u : State) (fa rb : Reg) (d : BitVec 16) (pa : Word), State.fen s = true →
    let ea := State.x s rb + d.signExtend 64
    let stores (i : Instr) (n : Nat) (op : BitVec 6) (v : Word) : Prop :=
      (∀ e w, State.translate s ⟨.write, fa, op⟩ ea = .exc e w → exec i s = .next (State.take w e))
      ∧ (State.translate s ⟨.write, fa, op⟩ ea = .ok pa u → ea.toNat % n = 0 →
      (State.route s pa.toNat = .ram →
        ∃ t, exec i s = .next t
          ∧ (∀ k < n, State.loadByte t (pa.toNat + k) = v.extractLsb' (8 * k) 8)
          ∧ (∀ b, b < pa.toNat ∨ pa.toNat + n ≤ b → State.loadByte t b = State.loadByte s b)
          ∧ t.cpu.pc = s.cpu.pc + 4
          ∧ State.noCaches t = State.noCaches
            { s with cpu := { s.cpu with pc := s.cpu.pc + 4, dtb := u.cpu.dtb, sb := t.cpu.sb } }
          ∧ t.cpu.sb = s.cpu.sb ++ [.store pa.toNat (bytesOf n v)])
      ∧ writesOutside (exec i s) u pa.toNat n v passes)
    stores (.stf fa rb d) 4 0x24 (fRegToMem (State.f s fa))
      ∧ stores (.stg fa rb d) 8 0x25 (gRegToMem (State.f s fa))
      ∧ stores (.sts fa rb d) 4 0x26 (sRegToMem (State.f s fa))
      ∧ stores (.stt fa rb d) 8 0x27 (State.f s fa)

/-- Misaligned accesses. An ordinary load or store raises the alignment fault with VA = the effective address where
STRICT_ALIGNMENT is set, or where its first byte is in an MMIO region; the locked accesses and HW_LD and HW_ST raise it always
(20_memory.md R161, R163, R164). Otherwise an ordinary one is performed as single-byte accesses in increasing address order,
each translated by itself: a fault on any byte is raised and no byte is written, and where all bytes are in RAM the load
assembles them and the store buffers them one by one (R161). Wherever the bytes are, a load reads them one after the other as
physical accesses of one byte and takes the first machine check (of cause 3 where the memory back-end errs, 60_exceptions.md
R842; log 18); a store raises the first machine check that is certain (above 2^48, and with MMIO_STRICT ROM and unmapped
space) with no byte written, the store buffer being drained for ROM, and else writes them one after the other; what an access
of one byte does is stated for every target (20_memory.md R170, R171, R176, R177, R240 to R245); that a one-byte write to a
region loses the reservations on its line is the model's reading of R181 (log 29). A store that a device's error ends leaves
the older stores drained, for which the access to the device waited (R176), and its own bytes unwritten. That a translation
fault of a later byte comes before the machine check of an earlier one (R825 orders them within one access), and that a
device's error undoes the bytes written but not the handler calls, are the model's readings (log 27); that a locked access has
drained the store buffer before its fault, and that the drain and the TLB fill outlive the fault, too (log 8, log 20). -/
def Obligations.MisalignedAccesses : Prop :=
  (∀ (s : State) (ra rb : Reg) (d : BitVec 16),
    let ea := State.x s rb + d.signExtend 64
    ∀ f ∈ [(Instr.ldwu ra rb d, 2, Kind.read, (0x0C : BitVec 6)), (.ldl ra rb d, 4, .read, 0x28), (.ldq ra rb d, 8, .read, 0x29),
        (.ldf ra rb d, 4, .read, 0x20), (.ldg ra rb d, 8, .read, 0x21), (.lds ra rb d, 4, .read, 0x22),
        (.ldt ra rb d, 8, .read, 0x23), (.stw ra rb d, 2, .write, 0x0D), (.stl ra rb d, 4, .write, 0x2C),
        (.stq ra rb d, 8, .write, 0x2D), (.stf ra rb d, 4, .write, 0x24), (.stg ra rb d, 8, .write, 0x25),
        (.sts ra rb d, 4, .write, 0x26), (.stt ra rb d, 8, .write, 0x27)],
      let i := f.1
      let n := f.2.1
      let a : Access := ⟨f.2.2.1, ra, f.2.2.2⟩
      (∀ e, i.extension = some e → State.has s e = true) → (i.isFloat = true → State.fen s = true) → ea.toNat % n ≠ 0 →
      (∀ (pa : Word) (u : State), State.translate s a ea = .ok pa u →
        s.cfg.strictAlignment = true ∨ (∃ r, State.route s pa.toNat = .mmio r) →
        exec i s = .next (State.take u (.mmFault a .align ea)))
      ∧ ∀ (j : Nat) (pa : Nat → Word) (u : Nat → State) (e : Exc) (w : State), s.cfg.strictAlignment = false → j < n →
        u 0 = s → (∀ k < j, State.translate (u k) a (ea + BitVec.ofNat 64 k) = .ok (pa k) (u (k + 1))) →
        State.translate (u j) a (ea + BitVec.ofNat 64 j) = .exc e w →
        (0 < j → ∀ r, State.route s (pa 0).toNat ≠ .mmio r) →
        exec i s = .next (State.take w e))
  ∧ (∀ (s : State) (ra rb : Reg) (d : BitVec 16) (pa : Nat → Word) (u : Nat → State),
    s.cfg.strictAlignment = false → s.cfg.backendErrs = false → u 0 = s →
    let ea := State.x s rb + d.signExtend 64
    let found (k : Kind) (op : BitVec 6) (n : Nat) : Prop :=
      ea.toNat % n ≠ 0 ∧ (∀ j < n, State.route s (pa j).toNat = .ram)
        ∧ ∀ j < n, State.translate (u j) ⟨k, ra, op⟩ (ea + BitVec.ofNat 64 j) = .ok (pa j) (u (j + 1))
    let bytes (n : Nat) : Word := ofBytes ((List.range n).map fun j => State.loadByte s (pa j).toNat)
    let loads (i : Instr) (n : Nat) (op : BitVec 6) (ext : Word → Word) : Prop := found .read op n →
      ∃ t, exec i s = .next t ∧ wroteX s t ra (ext (bytes n)) ∧ sameBytes s t ∧ State.noCaches t = State.noCaches
        { s with cpu := { s.cpu with regs := t.cpu.regs, pc := s.cpu.pc + 4, dtb := (u n).cpu.dtb } }
    let loadsF (i : Instr) (n : Nat) (op : BitVec 6) (conv : Word → Word) : Prop := State.fen s = true → found .read op n →
      ∃ t, exec i s = .next t ∧ wroteF s t ra (conv (bytes n)) ∧ sameBytes s t ∧ State.noCaches t = State.noCaches
        { s with cpu := { s.cpu with fregs := t.cpu.fregs, pc := s.cpu.pc + 4, dtb := (u n).cpu.dtb } }
    let stores (i : Instr) (n : Nat) (op : BitVec 6) (v : Word) : Prop := found .write op n →
      ∃ t, exec i s = .next t
        ∧ t.cpu.sb = s.cpu.sb ++ (List.range n).map (fun j => .store (pa j).toNat [v.extractLsb' (8 * j) 8])
        ∧ State.noCaches t = State.noCaches
          { s with cpu := { s.cpu with pc := s.cpu.pc + 4, dtb := (u n).cpu.dtb, sb := t.cpu.sb } }
        ∧ (∀ b, (∀ j < n, b ≠ (pa j).toNat) → State.loadByte t b = State.loadByte s b)
        ∧ ((∀ j < n, ∀ k < n, (pa j).toNat = (pa k).toNat → j = k) →
          ∀ j < n, State.loadByte t (pa j).toNat = v.extractLsb' (8 * j) 8)
    (State.has s .bwx = true → loads (.ldwu ra rb d) 2 0x0C id ∧ stores (.stw ra rb d) 2 0x0D (State.x s ra))
      ∧ loads (.ldl ra rb d) 4 0x28 (fun v => (v.extractLsb' 0 32).signExtend 64) ∧ loads (.ldq ra rb d) 8 0x29 id
      ∧ stores (.stl ra rb d) 4 0x2C (State.x s ra) ∧ stores (.stq ra rb d) 8 0x2D (State.x s ra)
      ∧ loadsF (.ldf ra rb d) 4 0x20 fMemToReg ∧ loadsF (.ldg ra rb d) 8 0x21 gMemToReg
      ∧ loadsF (.lds ra rb d) 4 0x22 sMemToReg ∧ loadsF (.ldt ra rb d) 8 0x23 id
      ∧ (State.fen s = true → stores (.stf ra rb d) 4 0x24 (fRegToMem (State.f s ra))
        ∧ stores (.stg ra rb d) 8 0x25 (gRegToMem (State.f s ra)) ∧ stores (.sts ra rb d) 4 0x26 (sRegToMem (State.f s ra))
        ∧ stores (.stt ra rb d) 8 0x27 (State.f s ra)))
  ∧ (∀ (s : State) (ra rb : Reg) (d : BitVec 16) (pa : Nat → Word) (u : Nat → State),
    s.cfg.strictAlignment = false → u 0 = s → (∀ r, State.route s (pa 0).toNat ≠ .mmio r) →
    let ea := State.x s rb + d.signExtend 64
    let found (k : Kind) (op : BitVec 6) (n : Nat) : Prop :=
      ea.toNat % n ≠ 0 ∧ ∀ j < n, State.translate (u j) ⟨k, ra, op⟩ (ea + BitVec.ofNat 64 j) = .ok (pa j) (u (j + 1))
    let certain (j : Nat) : Option (BitVec 8) := match State.route s (pa j).toNat with
      | .tooHigh => some 2
      | .rom | .unmapped => if s.cfg.mmioStrict then some 1 else none
      | .mmio _ | .ram => none
    let reads (i : Instr) (n : Nat) (op : BitVec 6) (ends : Word → State → State → Prop) : Prop := found .read op n →
      ∀ (b : Nat → Byte) (w : Nat → State), w 0 = u n →
        ((∀ j < n, State.physRead 1 (w j) (pa j).toNat = .ok ((b j).setWidth 64) (w (j + 1))) →
          ∃ t, exec i s = .next t ∧ ends (ofBytes ((List.range n).map b)) (w n) t)
        ∧ ∀ (k : Nat) (e : Exc) (z : State), k < n →
          (∀ j < k, State.physRead 1 (w j) (pa j).toNat = .ok ((b j).setWidth 64) (w (j + 1))) →
          State.physRead 1 (w k) (pa k).toNat = .exc e z → exec i s = .next (State.take z e)
    let writes (i : Instr) (n : Nat) (op : BitVec 6) (v : Word) : Prop := found .write op n →
      (∀ (k : Nat) (c : BitVec 8), k < n → (∀ j < k, certain j = none) → certain k = some c →
        exec i s = .next (State.take (if State.route s (pa k).toNat = .rom then State.drainAll (u n) else u n) (.mchk c)))
      ∧ ((∀ j < n, certain j = none) → ∀ w : Nat → State, w 0 = u n →
        ((∀ j < n, State.physWrite 1 (v >>> (8 * j)) (w j) (pa j).toNat = .ok () (w (j + 1))) →
          ∃ t, exec i s = .next t ∧ passes (w n) t)
        ∧ ∀ (k : Nat) (e : Exc) (z : State), k < n →
          (∀ j < k, State.physWrite 1 (v >>> (8 * j)) (w j) (pa j).toNat = .ok () (w (j + 1))) →
          State.physWrite 1 (v >>> (8 * k)) (w k) (pa k).toNat = .exc e z →
          exec i s = .next (State.take { State.drainAll (u n) with mmioLog := z.mmioLog, draws := z.draws } e))
    let endsX (ext : Word → Word) (v : Word) (w t : State) : Prop :=
      wroteX s t ra (ext v) ∧ t = { w with cpu := { w.cpu with regs := t.cpu.regs, pc := s.cpu.pc + 4 } }
    let endsF (conv : Word → Word) (v : Word) (w t : State) : Prop :=
      wroteF s t ra (conv v) ∧ t = { w with cpu := { w.cpu with fregs := t.cpu.fregs, pc := s.cpu.pc + 4 } }
    (State.has s .bwx = true → reads (.ldwu ra rb d) 2 0x0C (endsX id) ∧ writes (.stw ra rb d) 2 0x0D (State.x s ra))
      ∧ reads (.ldl ra rb d) 4 0x28 (endsX fun v => (v.extractLsb' 0 32).signExtend 64)
      ∧ reads (.ldq ra rb d) 8 0x29 (endsX id)
      ∧ writes (.stl ra rb d) 4 0x2C (State.x s ra) ∧ writes (.stq ra rb d) 8 0x2D (State.x s ra)
      ∧ (State.fen s = true →
        reads (.ldf ra rb d) 4 0x20 (endsF fMemToReg) ∧ reads (.ldg ra rb d) 8 0x21 (endsF gMemToReg)
        ∧ reads (.lds ra rb d) 4 0x22 (endsF sMemToReg) ∧ reads (.ldt ra rb d) 8 0x23 (endsF id)
        ∧ writes (.stf ra rb d) 4 0x24 (fRegToMem (State.f s ra)) ∧ writes (.stg ra rb d) 8 0x25 (gRegToMem (State.f s ra))
        ∧ writes (.sts ra rb d) 4 0x26 (sRegToMem (State.f s ra)) ∧ writes (.stt ra rb d) 8 0x27 (State.f s ra)))
  ∧ (∀ (s : State) (pa : Nat) (v : Word),
    let d := State.drainAll s
    let b : Byte := v.extractLsb' 0 8
    (2 ^ 48 ≤ pa → State.physRead 1 s pa = .exc (.mchk 2) s ∧ State.physWrite 1 v s pa = .exc (.mchk 2) s)
    ∧ (State.route s pa = .ram →
      (State.ramErrs .data s pa 1 = true → State.physRead 1 s pa = .exc (.mchk 3) (State.ramErred .data s pa 1))
      ∧ (State.ramErrs .data s pa 1 = false → ∃ t, State.physRead 1 s pa = .ok ((State.loadByte s pa).setWidth 64) t
        ∧ State.noCaches t = State.noCaches s)
      ∧ State.physWrite 1 v s pa = .ok () { s with cpu := { s.cpu with sb := s.cpu.sb ++ [.store pa [b]] } })
    ∧ (∀ r, State.route s pa = .mmio r →
      (Config.mmioError d.draws = true → State.physRead 1 s pa = .exc (.mchk 1) (State.called d r pa 1 none)
        ∧ State.physWrite 1 v s pa = .exc (.mchk 1) (State.called d r pa 1 (some (b.setWidth 64))))
      ∧ (Config.mmioError d.draws = false →
        State.physRead 1 s pa = .ok (((Config.mmioRead d.draws r.dev (pa - r.start) 1).extractLsb' 0 8).setWidth 64)
          (State.called d r pa 1 none)
        ∧ State.physWrite 1 v s pa = .ok () (State.loseLocks (State.called d r pa 1 (some (b.setWidth 64))) pa 1)))
    ∧ (State.route s pa = .rom → State.physRead 1 s pa = .ok ((Memory.get s.rom pa).setWidth 64) d
      ∧ State.physWrite 1 v s pa = if s.cfg.mmioStrict then .exc (.mchk 1) d else .ok () d)
    ∧ (State.route s pa = .unmapped →
      State.physRead 1 s pa = (if s.cfg.mmioStrict then .exc (.mchk 1) s else .ok 0xFF s)
      ∧ State.physWrite 1 v s pa = if s.cfg.mmioStrict then .exc (.mchk 1) s else .ok () s))
  ∧ (∀ (s u : State) (ra rb : Reg) (d : BitVec 16) (pa : Word),
    let ea := State.x s rb + d.signExtend 64
    let faults (i : Instr) (n : Nat) (k : Kind) (op : BitVec 6) : Prop :=
      State.translate (State.drainAll s) ⟨k, ra, op⟩ ea = .ok pa u → ea.toNat % n ≠ 0 →
        exec i s = .next (State.take u (.mmFault ⟨k, ra, op⟩ .align ea))
    faults (.ldlL ra rb d) 4 .read 0x2A ∧ faults (.ldqL ra rb d) 8 .read 0x2B
      ∧ faults (.stlC ra rb d) 4 .write 0x2E ∧ faults (.stqC ra rb d) 8 .write 0x2F)
  ∧ ∀ (s : State) (ra rb : Reg) (d : BitVec 12) (quad : Bool), State.inPal s = true →
    let pa := State.x s rb + d.signExtend 64
    pa.toNat % (if quad then 8 else 4) ≠ 0 →
      exec (.hwLd ra rb quad d) s = .next (State.take s (.mmFault ⟨.read, ra, 0x1B⟩ .align pa))
        ∧ exec (.hwSt ra rb quad d) s = .next (State.take s (.mmFault ⟨.write, ra, 0x1F⟩ .align pa))

/-- LDL_L and LDQ_L, aligned: the store buffer drains, the bytes go to Ra, and the reservation is on the line of the physical
address (20_memory.md R176, R180), in RAM and, if the read there succeeds (`readsOutside`), elsewhere (41_loadstore.md R508).
An exception of the translation is taken; a read of RAM for which the memory back-end reports an error is a machine check of
cause 3 (60_exceptions.md R842; log 18). That the store buffer drains within the step is the model's choice (log 8). -/
def Obligations.LoadLocked : Prop :=
  ∀ (s u : State) (ra rb : Reg) (d : BitVec 16) (pa : Word), State.memOk s = true →
    let ea := State.x s rb + d.signExtend 64
    let loads (i : Instr) (n : Nat) (op : BitVec 6) (ext : Word → Word) : Prop :=
      (∀ e w, State.translate (State.drainAll s) ⟨.read, ra, op⟩ ea = .exc e w → exec i s = .next (State.take w e))
      ∧ (State.translate (State.drainAll s) ⟨.read, ra, op⟩ ea = .ok pa u → ea.toNat % n = 0 →
        let line := BitVec.ofNat 64 (pa.toNat - pa.toNat % 2 ^ s.cfg.lineLog2)
        (State.route s pa.toNat = .ram → State.ramErrs .data u pa.toNat n = true →
          exec i s = .next (State.take (State.ramErred .data u pa.toNat n) (.mchk 3)))
        ∧ (State.route s pa.toNat = .ram → State.ramErrs .data u pa.toNat n = false →
          ∃ t, exec i s = .next t
            ∧ wroteX s t ra (ext (ofBytes ((List.range n).map fun k => State.loadByte s (pa.toNat + k))))
            ∧ t.cpu.pc = s.cpu.pc + 4 ∧ sameBytes s t ∧ t.cpu.sb = [] ∧ t.cpu.lockFlag = true ∧ t.cpu.lockLine = line
            ∧ Kept { s with cpu := { s.cpu with regs := t.cpu.regs, pc := s.cpu.pc + 4 } } t)
        ∧ readsOutside (exec i s) u pa.toNat n fun v w t => wroteX s t ra (ext v) ∧ t = { w with cpu := { w.cpu with
            regs := t.cpu.regs, pc := s.cpu.pc + 4, lockFlag := true, lockLine := line } })
    loads (.ldlL ra rb d) 4 0x2A (fun v => (v.extractLsb' 0 32).signExtend 64) ∧ loads (.ldqL ra rb d) 8 0x2B id

/-- STL_C and STQ_C, aligned, after the store buffer has drained: with the reservation on the line of the address the store
reaches memory at once, Ra becomes 1, and the reservations of every CPU on a line of its bytes are lost, no other; outside RAM
it is a write as `writesOutside` says, with Ra 1 if it succeeds (41_loadstore.md R508). Without it, wherever the address is,
nothing is written, Ra becomes 0 and no other CPU's reservation is lost; the lock flag is 0 after all (20_memory.md R181, R183
to R185). An exception of the translation is taken. That the store buffer drains within the step is the model's choice (log
8), and that a failing STx_C makes no access outside RAM and that a successful one acts as a store there are its readings (log
28), as is that a store to a region loses the reservations on its line and a dropped one none (R181; log 29). -/
def Obligations.StoreConditional : Prop :=
  ∀ (s u : State) (ra rb : Reg) (d : BitVec 16) (pa : Word), State.memOk s = true →
    let ea := State.x s rb + d.signExtend 64
    let stores (i : Instr) (n : Nat) (op : BitVec 6) : Prop :=
      (∀ e w, State.translate (State.drainAll s) ⟨.write, ra, op⟩ ea = .exc e w → exec i s = .next (State.take w e))
      ∧ (State.translate (State.drainAll s) ⟨.write, ra, op⟩ ea = .ok pa u → ea.toNat % n = 0 →
        let lineAt (k : Nat) : Word := BitVec.ofNat 64 (pa.toNat + k - (pa.toNat + k) % 2 ^ s.cfg.lineLog2)
        let held : Prop := u.cpu.lockFlag = true ∧ u.cpu.lockLine = lineAt 0
        (held → State.route s pa.toNat = .ram →
          ∃ t, exec i s = .next t ∧ t.cpu.pc = s.cpu.pc + 4 ∧ t.cpu.lockFlag = false ∧ t.cpu.sb = []
            ∧ Kept { s with cpu := { s.cpu with regs := t.cpu.regs, pc := s.cpu.pc + 4 } } t
            ∧ wroteX s t ra 1
            ∧ (∀ k < n, Memory.get t.mem (pa.toNat + k) = (State.x s ra).extractLsb' (8 * k) 8)
            ∧ (∀ b, b < pa.toNat ∨ pa.toNat + n ≤ b → Memory.get t.mem b = State.loadByte s b)
            ∧ ∀ (j : Nat) (c : Cpu), u.peers[j]? = some c → ∃ e : Cpu, t.peers[j]? = some e ∧ e.lockLine = c.lockLine
              ∧ (e.lockFlag = true ↔ c.lockFlag = true ∧ ∀ k < n, c.lockLine ≠ lineAt k))
        ∧ (held → writesOutside (exec i s) u pa.toNat n (State.x s ra) fun w t => wroteX s t ra 1
          ∧ t = { w with cpu := { w.cpu with regs := t.cpu.regs, pc := s.cpu.pc + 4, lockFlag := false } })
        ∧ (¬ held → ∃ t, exec i s = .next t ∧ wroteX s t ra 0 ∧ sameBytes s t ∧ t.cpu.sb = []
          ∧ t = { u with cpu := { u.cpu with regs := t.cpu.regs, pc := s.cpu.pc + 4, lockFlag := false } }
          ∧ Kept { s with cpu := { s.cpu with regs := t.cpu.regs, pc := s.cpu.pc + 4 } } t))
    stores (.stlC ra rb d) 4 0x2E ∧ stores (.stqC ra rb d) 8 0x2F

/-- A completed store clears the reservation of every CPU whose reserved line it writes a byte of, and no other reservation;
it changes exactly its bytes of memory, and no register of any CPU (20_memory.md R172, R181). -/
def Obligations.CompletedStores : Prop :=
  ∀ (s : State) (pa : Nat) (bs : List Byte), bs ≠ [] → State.memOk s = true →
    let t := State.completeStore s pa bs
    let hits (c : Cpu) : Prop :=
      ∃ k < bs.length, c.lockLine = BitVec.ofNat 64 (pa + k - (pa + k) % 2 ^ s.cfg.lineLog2)
    ((t.cpu.lockFlag = true ↔ s.cpu.lockFlag = true ∧ ¬ hits s.cpu))
      ∧ (∀ (j : Nat) (c : Cpu), s.peers[j]? = some c → ∃ e : Cpu, t.peers[j]? = some e ∧ (e.lockFlag = true ↔ c.lockFlag = true ∧ ¬ hits c))
      ∧ (∀ k < bs.length, Memory.get t.mem (pa + k) = (bs[k]?).getD 0)
      ∧ (∀ b, b < pa ∨ pa + bs.length ≤ b → Memory.get t.mem b = Memory.get s.mem b)
      ∧ Kept s t ∧ t.cpu.sb = s.cpu.sb

/-- MB completes with the store buffer empty and every buffered store in memory, so that memory holds what this CPU's loads
read; WMB puts a marker behind the buffered stores, or does nothing if there are none (20_memory.md R173, R174). That the
store buffer drains within the step is the model's choice (log 8). -/
def Obligations.Barriers : Prop :=
  (∀ (s : State) (ra rb : Reg), State.memOk s = true →
    ∃ t, exec (.mb ra rb) s = .next t ∧ t.cpu.sb = [] ∧ (∀ a, Memory.get t.mem a = State.loadByte s a) ∧ sameBytes s t
      ∧ Kept { s with cpu := { s.cpu with pc := s.cpu.pc + 4 } } t)
  ∧ ∀ (s : State) (ra rb : Reg),
      ∃ t, exec (.wmb ra rb) s = .next t ∧ sameBytes s t
        ∧ t = { s with cpu := { s.cpu with
            pc := s.cpu.pc + 4, sb := if s.cpu.sb = [] then [] else s.cpu.sb ++ [.wmb] } }

/-- A drain step of any eligible entry of the store buffer changes no byte this CPU's loads read, whatever other entries are
buffered, and takes exactly one store out; an entry that a marker or an older overlapping store precedes is not eligible,
every other store is: its drain writes its bytes to memory and no other, and takes it out of the buffer, with the markers that
then have no older entry (20_memory.md R171, R172). The drain of an eligible entry is a step of its own, an action of this CPU
(70_reset_and_hazards.md R930); where the scheduler names an entry that is not eligible, the action is the boundary step (log
7). And the wait until the store buffer is empty leaves it empty, memory holding what this CPU's loads read, and changes
nothing but the memory system (R173, R176). -/
def Obligations.DrainsKeepOwnView : Prop :=
  (∀ (s t : State) (i : Nat), State.memOk s = true → State.drainOne s i = some t →
    sameBytes s t ∧ (t.cpu.sb.countP fun e => e != .wmb) + 1 = s.cpu.sb.countP fun e => e != .wmb)
  ∧ (∀ (s : State) (i pa : Nat) (bs : List Byte), State.memOk s = true → s.cpu.sb[i]? = some (.store pa bs) →
    (∀ j < i, ∃ pb cs, s.cpu.sb[j]? = some (.store pb cs) ∧ (pb + cs.length ≤ pa ∨ pa + bs.length ≤ pb)) →
    ∃ t, State.drainOne s i = some t
      ∧ (∀ k < bs.length, Memory.get t.mem (pa + k) = (bs[k]?).getD 0)
      ∧ (∀ b, b < pa ∨ pa + bs.length ≤ b → Memory.get t.mem b = Memory.get s.mem b)
      ∧ t.cpu.sb = (s.cpu.sb.eraseIdx i).dropWhile fun e => e == .wmb)
  ∧ (∀ (s : State) (i : Nat), (∀ t, State.drainOne s i = some t → perform s (.drain i) = .next t)
    ∧ (State.drainOne s i = none → perform s (.drain i) = boundary s))
  ∧ (∀ (s : State) (i j : Nat), j < i → s.cpu.sb[j]? = some .wmb → State.drainOne s i = none)
  ∧ (∀ (s : State) (i j pa pb a : Nat) (bs cs : List Byte), j < i → s.cpu.sb[i]? = some (.store pa bs) →
      s.cpu.sb[j]? = some (.store pb cs) → pa ≤ a → a < pa + bs.length → pb ≤ a → a < pb + cs.length →
      State.drainOne s i = none)
  ∧ ∀ s : State, State.memOk s = true → (State.drainAll s).cpu.sb = [] ∧ sameBytes s (State.drainAll s)
      ∧ (∀ a, Memory.get (State.drainAll s).mem a = State.loadByte s a) ∧ Kept s (State.drainAll s)

/-! Control (42_control.md). -/

/-- BR, BSR and the four jumps: the link goes to Ra, the target is computed from the pc or from Rb as it was before, and the
hint has no effect. The conditional integer branches: the pc is the target where the condition on Ra holds and the next
instruction else, and nothing else changes. -/
def Obligations.BranchesAndJumps : Prop :=
  (∀ (s : State) (ra rb : Reg) (d : BitVec 21) (h : BitVec 14),
      let goes (i : Instr) (target : Word) : Prop :=
        ∃ t, exec i s = .next t ∧ wroteX s t ra (s.cpu.pc + 4) ∧ t.cpu.pc = target ∧ onlyX s t
      let branch := s.cpu.pc + 4 + 4 * d.signExtend 64
      let jump := State.x s rb &&& 0xFFFFFFFFFFFFFFFC
      goes (.br ra d) branch ∧ goes (.bsr ra d) branch ∧ goes (.jmp ra rb h) jump ∧ goes (.jsr ra rb h) jump
        ∧ goes (.ret ra rb h) jump ∧ goes (.jsrCoroutine ra rb h) jump)
  ∧ ∀ (s : State) (ra : Reg) (d : BitVec 21),
      let a := State.x s ra
      let branches (i : Instr) (cond : Prop) : Prop :=
        (cond → exec i s = .next { s with cpu := { s.cpu with pc := s.cpu.pc + 4 + 4 * d.signExtend 64 } })
          ∧ (¬ cond → exec i s = .next { s with cpu := { s.cpu with pc := s.cpu.pc + 4 } })
      branches (.beq ra d) (a = 0) ∧ branches (.bne ra d) (a ≠ 0)
        ∧ branches (.blt ra d) (a.toInt < 0) ∧ branches (.ble ra d) (a.toInt ≤ 0)
        ∧ branches (.bgt ra d) (0 < a.toInt) ∧ branches (.bge ra d) (0 ≤ a.toInt)
        ∧ branches (.blbc ra d) (a.getLsbD 0 = false) ∧ branches (.blbs ra d) (a.getLsbD 0 = true)

/-- The conditional floating branches and moves, with PS.FEN = 1, by the bits of Fa: both zeros equal zero, a NaN satisfies
only NE, a denormal is not zero. The FPCR does not change. -/
def Obligations.FloatBranchesAndMoves : Prop :=
  ∀ (s : State) (fa fb fc : Reg) (d : BitVec 21), State.fen s = true →
    let a := State.f s fa
    let zero : Prop := a.extractLsb' 0 63 = 0
    let nan : Prop := a.extractLsb' 52 11 = 0x7FF ∧ a.extractLsb' 0 52 ≠ 0
    let neg : Prop := a.getLsbD 63 = true
    let both (b m : Instr) (cond : Prop) : Prop :=
      (cond → exec b s = .next { s with cpu := { s.cpu with pc := s.cpu.pc + 4 + 4 * d.signExtend 64 } }
          ∧ yieldsF (exec m s) s fc (State.f s fb))
        ∧ (¬ cond → exec b s = .next { s with cpu := { s.cpu with pc := s.cpu.pc + 4 } }
          ∧ exec m s = .next { s with cpu := { s.cpu with pc := s.cpu.pc + 4 } })
    both (.fbeq fa d) (.fcmoveq fa fb fc) zero ∧ both (.fbne fa d) (.fcmovne fa fb fc) (¬ zero)
      ∧ both (.fblt fa d) (.fcmovlt fa fb fc) (neg ∧ ¬ zero ∧ ¬ nan)
      ∧ both (.fble fa d) (.fcmovle fa fb fc) (zero ∨ (neg ∧ ¬ nan))
      ∧ both (.fbgt fa d) (.fcmovgt fa fb fc) (¬ neg ∧ ¬ zero ∧ ¬ nan)
      ∧ both (.fbge fa d) (.fcmovge fa fb fc) (zero ∨ (¬ neg ∧ ¬ nan))

/-! Floating point (43_float.md). -/

/-- The instructions that move bits between and within floating registers, with PS.FEN = 1 (and FIX for ITOFx and FTOIx):
no value is examined and the FPCR does not change. MT_FPCR stores bits 62:48 and no other; MF_FPCR reads the FPCR with bit 63
the OR of bits 57:52 (10_state.md R61). -/
def Obligations.FloatMovesAndFpcr : Prop :=
  (∀ (s : State) (fa fb fc : Reg), State.fen s = true →
      let a := State.f s fa
      let b := State.f s fb
      let x := State.x s fa
      yieldsF (exec (.cpys fa fb fc) s) s fc (a.extractLsb' 63 1 ++ b.extractLsb' 0 63)
        ∧ yieldsF (exec (.cpysn fa fb fc) s) s fc ((~~~ a.extractLsb' 63 1) ++ b.extractLsb' 0 63)
        ∧ yieldsF (exec (.cpyse fa fb fc) s) s fc (a.extractLsb' 52 12 ++ b.extractLsb' 0 52)
        ∧ yieldsF (exec (.cvtlq fb fc) s) s fc ((b.extractLsb' 62 2 ++ b.extractLsb' 29 30).signExtend 64)
        ∧ (State.has s .fix = true →
          yieldsF (exec (.itoft fa fc) s) s fc x
          ∧ yieldsF (exec (.itofs fa fc) s) s fc (sMemToReg (x.setWidth 32 |>.setWidth 64))
          ∧ yieldsF (exec (.itoff fa fc) s) s fc (fMemToReg (x.setWidth 32 |>.setWidth 64))
          ∧ yieldsX (exec (.ftoit fa fc) s) s fc a
          ∧ yieldsX (exec (.ftois fa fc) s) s fc (((sRegToMem a).extractLsb' 0 32).signExtend 64)))
  ∧ ∀ (s : State) (fa fb fc : Reg), State.fen s = true →
      (∃ v, exec (.mtFpcr fa fb fc) s = .next { s with cpu := { s.cpu with fpcr := v, pc := s.cpu.pc + 4 } }
        ∧ ∀ k < 64, v.getLsbD k = (decide (48 ≤ k ∧ k ≤ 62) && (State.f s fa).getLsbD k))
      ∧ ∃ v, yieldsF (exec (.mfFpcr fa fb fc) s) s fa v
        ∧ (∀ k < 63, v.getLsbD k = s.cpu.fpcr.getLsbD k)
        ∧ (maskedBy fpcrMask s.cpu.fpcr = true → (v.getLsbD 63 = true ↔ ∃ k, 52 ≤ k ∧ k ≤ 57 ∧ s.cpu.fpcr.getLsbD k = true))

/-- The IEEE operates of opcode 0x16 with PS.FEN = 1, every qualifier: the sticky bits of the raised conditions are set, and
either a trap is recorded for Fc and Fc takes a free value, or Fc takes the result; nothing else changes (43_float.md R613).
The rounding mode is the qualifier's, with /D FPCR.DYN's (R604); denormal operands are zeros with FPCR.DNZ, and tiny results
with UNDZ, UNFD and /S (R609); SQRTS and SQRTT take the same controls, `State.ieeeCtl`. The results: the compares by the
values of the registers and their NaNs (R628 to R631); the conversions by NaN, infinity and rounding (R632 to R636); for the
arithmetic the second part gives invalid operands, NaNs, infinities, invalid operations and divisions by zero (R602, R605,
R607, R608), and `ArithmeticRoundsExactResults` the finite ones. The free values and their counter are the model's form of the
draws (log 9, log 10), and DEFAULT_NAN's S form is its reading (log 16). -/
def Obligations.IeeeOperates : Prop :=
  (∀ (s : State) (q : Qual) (fa fb fc : Reg) (sw : Bool), State.fen s = true →
    let a := State.f s fa
    let b := State.f s fb
    let f := s.cpu.fpcr
    let ctl (q : Qual) : FpCtl :=
      { mode := match q.rnd with
          | .chopped => .chop
          | .minus => .minus
          | .normal => .even
          | .dynamic => match f.getLsbD 59, f.getLsbD 58 with
            | false, false => .chop
            | false, true => .minus
            | true, false => .even
            | true, true => .plus
        dnz := f.getLsbD 48
        tinyToZero := f.getLsbD 60 && f.getLsbD 61 && q.trap.bits.getLsbD 2
        nan := s.cfg.defaultNan
        free := ⟨Config.nanFirst s.draws, Config.invalidResult s.draws, Config.invalidConds s.draws,
          Config.vaxUnstated s.draws⟩ }
    let k := ctl q
    let done (i : Instr) (tr : Trap) (out : FpOut) : Prop :=
      let c := trapping tr s.cpu.fpcr out.conds out.always
      ∃ t, exec i s = .next t
        ∧ wroteF s t fc (if c = 0 then out.bits else Config.fpTrapResult s.draws)
        ∧ t.cpu.pc = s.cpu.pc + 4 ∧ t.cpu.fpcr = s.cpu.fpcr ||| (out.conds.setWidth 64 <<< 52)
        ∧ t.cpu.pend = (if c = 0 then s.cpu.pend
          else ⟨true, s.cpu.pend.sum ||| excSumOf tr c, s.cpu.pend.mask ||| (1 <<< (32 + fc.toNat))⟩)
        ∧ t = { s with
          cpu := { s.cpu with fregs := t.cpu.fregs, pc := t.cpu.pc, fpcr := t.cpu.fpcr, pend := t.cpu.pend },
          draws := s.draws + 1 } ∧ sameBytes s t
    let denormalIsZero (r : Word) : Bool := f.getLsbD 48 && r.extractLsb' 52 11 == 0
    let v (r : Word) : ℚ := if denormalIsZero r then 0 else regValue .t r
    let nan : Bool := isNan a || isNan b
    let signaling : Conds := if isSignaling a || isSignaling b then 1 else 0
    let anyNan : Conds := if nan then 1 else 0
    let truth (x : Bool) : Word := if x then 0x4000000000000000 else 0
    let quiet (r : Word) : Word := r ||| 0x0008000000000000
    let bSignaling : Conds := if isSignaling b then 1 else 0
    State.ieeeCtl s q = k
      ∧ done (.adds q fa fb fc) q.trap (Fmt.add .s k a b) ∧ done (.addt q fa fb fc) q.trap (Fmt.add .t k a b)
      ∧ done (.subs q fa fb fc) q.trap (Fmt.sub .s k a b) ∧ done (.subt q fa fb fc) q.trap (Fmt.sub .t k a b)
      ∧ done (.muls q fa fb fc) q.trap (Fmt.mul .s k a b) ∧ done (.mult q fa fb fc) q.trap (Fmt.mul .t k a b)
      ∧ done (.divs q fa fb fc) q.trap (Fmt.div .s k a b) ∧ done (.divt q fa fb fc) q.trap (Fmt.div .t k a b)
      ∧ done (.cmptun q fa fb fc) q.trap ⟨truth nan, signaling, 0⟩
      ∧ done (.cmpteq q fa fb fc) q.trap ⟨truth (!nan && decide (v a = v b)), signaling, 0⟩
      ∧ done (.cmptlt q fa fb fc) q.trap ⟨truth (!nan && decide (v a < v b)), anyNan, 0⟩
      ∧ done (.cmptle q fa fb fc) q.trap ⟨truth (!nan && decide (v a ≤ v b)), anyNan, 0⟩
      ∧ (∃ out, done (.cvtts q fb fc) q.trap out
        ∧ (isNan b = true → out = ⟨quiet ((b >>> 29) <<< 29), bSignaling, 0⟩)
        ∧ (isInf b = true → out = ⟨b, 0, 0⟩)
        ∧ ∀ neg m e, Fmt.value .t k.dnz b = .num neg m e → out = Fmt.round .s k neg m e)
      ∧ (∃ out, done (.cvttq q fb fc) q.trap out
        ∧ (isNan b = true ∨ isInf b = true → out = ⟨0, 1, 0⟩)
        ∧ ∀ neg m e, Fmt.value .t k.dnz b = .num neg m e →
          let n := roundAt k.mode neg m e 0
          let i : Int := if neg then -(n.1 : Int) else n.1
          out = ⟨BitVec.ofInt 64 i, (if i < -2 ^ 63 ∨ 2 ^ 63 ≤ i then 0x20 else 0) ||| (if n.2 then 0x10 else 0), 0⟩)
      ∧ done (.cvtqs q fb fc) q.trap (Fmt.round .s k (decide (b.toInt < 0)) b.toInt.natAbs 0)
      ∧ done (.cvtqt q fb fc) q.trap (Fmt.round .t k (decide (b.toInt < 0)) b.toInt.natAbs 0)
      ∧ ∃ out, done (.cvtst sw fb fc) (if sw then .s else .none) out
        ∧ (Fmt.valid .s b = false → out = ⟨Config.invalidResult s.draws, Config.invalidConds s.draws, 0⟩)
        ∧ (Fmt.valid .s b = true → (isNan b = true → out = ⟨quiet b, bSignaling, 0⟩) ∧ (isInf b = true → out = ⟨b, 0, 0⟩)
          ∧ (isNan b = false → isInf b = false → out.conds = 0 ∧ out.always = 0
            ∧ out.bits.extractLsb' 52 11 ≠ 0x7FF ∧ out.bits.getLsbD 63 = b.getLsbD 63
            ∧ regValue .t out.bits = (if denormalIsZero b then 0 else regValue .s b))))
  ∧ ∀ (fm : Fmt) (k : FpCtl) (a b : Word), fm = .s ∨ fm = .t →
    let valid (r : Word) : Prop := fm = .t ∨ r.extractLsb' 0 29 = 0 ∧ (r.extractLsb' 52 11 = 0 ∨ r.extractLsb' 52 11 = 0x7FF
      ∨ 0x381 ≤ (r.extractLsb' 52 11).toNat ∧ (r.extractLsb' 52 11).toNat ≤ 0x47E)
    let zero (r : Word) : Prop := r.extractLsb' 52 11 = 0 ∧ (k.dnz = true ∨ r.extractLsb' 0 52 = 0)
    let na := a.getLsbD 63
    let nb := b.getLsbD 63
    let finite (r : Word) : Prop := isNan r = false ∧ isInf r = false
    let infinity (neg : Bool) : Word := if neg then 0xFFF0000000000000 else 0x7FF0000000000000
    let invalid : FpOut := ⟨if fm = .s then (k.nan >>> 29) <<< 29 else k.nan, 1, 0⟩
    let drawn : FpOut := ⟨k.free.invalidResult, k.free.invalidConds, 0⟩
    let quiet (r : Word) : Word := r ||| 0x0008000000000000
    let all (out : FpOut) : Prop := Fmt.add fm k a b = out ∧ Fmt.sub fm k a b = out ∧ Fmt.mul fm k a b = out ∧ Fmt.div fm k a b = out
    (∀ r, Fmt.valid fm r = true ↔ valid r)
    ∧ (¬ valid a ∨ ¬ valid b → all drawn) ∧ (¬ valid b → Fmt.sqrt fm k b = drawn)
    ∧ (valid b →
      (isNan b = true → Fmt.sqrt fm k b = ⟨quiet b, if isSignaling b then 1 else 0, 0⟩)
      ∧ (b = infinity false → Fmt.sqrt fm k b = ⟨b, 0, 0⟩)
      ∧ (isNan b = false → nb = true → ¬ zero b → Fmt.sqrt fm k b = invalid)
      ∧ (zero b → Fmt.sqrt fm k b = ⟨if nb then 0x8000000000000000 else 0, 0, 0⟩))
    ∧ (valid a → valid b →
      (isNan a = true ∨ isNan b = true → all
        ⟨quiet (if isNan a = true ∧ isNan b = true then (if k.free.nanFirst then a else b) else if isNan a = true then a else b),
          if isSignaling a || isSignaling b then 1 else 0, 0⟩)
      ∧ (isInf a = true → isInf b = true →
        Fmt.add fm k a b = (if na = nb then ⟨a, 0, 0⟩ else invalid) ∧ Fmt.sub fm k a b = (if na = nb then invalid else ⟨a, 0, 0⟩)
          ∧ Fmt.mul fm k a b = ⟨infinity (na != nb), 0, 0⟩ ∧ Fmt.div fm k a b = invalid)
      ∧ (isInf a = true → finite b →
        Fmt.add fm k a b = ⟨a, 0, 0⟩ ∧ Fmt.sub fm k a b = ⟨a, 0, 0⟩ ∧ Fmt.div fm k a b = ⟨infinity (na != nb), 0, 0⟩
          ∧ (zero b → Fmt.mul fm k a b = invalid) ∧ (¬ zero b → Fmt.mul fm k a b = ⟨infinity (na != nb), 0, 0⟩))
      ∧ (finite a → isInf b = true →
        Fmt.add fm k a b = ⟨b, 0, 0⟩ ∧ Fmt.sub fm k a b = ⟨infinity (!nb), 0, 0⟩
          ∧ Fmt.div fm k a b = ⟨if na != nb then 0x8000000000000000 else 0, 0, 0⟩
          ∧ (zero a → Fmt.mul fm k a b = invalid) ∧ (¬ zero a → Fmt.mul fm k a b = ⟨infinity (na != nb), 0, 0⟩))
      ∧ (finite a → zero b → (zero a → Fmt.div fm k a b = invalid)
        ∧ (¬ zero a → Fmt.div fm k a b = ⟨infinity (na != nb), 2, 0⟩)))

/-- The VAX operates of opcode 0x15, the square roots (with FIX) and CVTQL, with PS.FEN = 1: as the IEEE operates. The
rounding is chopped with /C, else to nearest with ties away from zero, whatever the FPCR (43_float.md R612). The results: the
compares by the values of the registers (R648 to R650), the conversions by rounding (R651 to R656); for the arithmetic the
second part gives invalid F operands, reserved operands and divisions by zero (R603, R605, R610), and
`ArithmeticRoundsExactResults` the others. What always traps, and the free value where the spec states no result, are the
model's readings (log 11, log 12). -/
def Obligations.VaxOperatesAndRoots : Prop :=
  (∀ (s : State) (q : Qual) (tr : Trap) (fa fb fc : Reg), State.fen s = true →
    let a := State.f s fa
    let b := State.f s fb
    let free : FpFree := ⟨Config.nanFirst s.draws, Config.invalidResult s.draws, Config.invalidConds s.draws,
      Config.vaxUnstated s.draws⟩
    let k : FpCtl :=
      { mode := if q.rnd = .chopped then .chop else .away
        dnz := false
        tinyToZero := false
        nan := s.cfg.defaultNan
        free := free }
    let done (i : Instr) (tr : Trap) (out : FpOut) : Prop :=
      let c := trapping tr s.cpu.fpcr out.conds out.always
      ∃ t, exec i s = .next t
        ∧ wroteF s t fc (if c = 0 then out.bits else Config.fpTrapResult s.draws)
        ∧ t.cpu.pc = s.cpu.pc + 4 ∧ t.cpu.fpcr = s.cpu.fpcr ||| (out.conds.setWidth 64 <<< 52)
        ∧ t.cpu.pend = (if c = 0 then s.cpu.pend
          else ⟨true, s.cpu.pend.sum ||| excSumOf tr c, s.cpu.pend.mask ||| (1 <<< (32 + fc.toNat))⟩)
        ∧ t = { s with
          cpu := { s.cpu with fregs := t.cpu.fregs, pc := t.cpu.pc, fpcr := t.cpu.fpcr, pend := t.cpu.pend },
          draws := s.draws + 1 } ∧ sameBytes s t
    let reserved (fm : Fmt) (r : Word) : Prop :=
      r.getLsbD 63 = true ∧ (if fm = .d then r.extractLsb' 55 8 = 0 else r.extractLsb' 52 11 = 0)
    let stops : FpOut := ⟨Config.vaxUnstated s.draws, 1, 1⟩
    let compares (i : Instr) (rel : ℚ → ℚ → Bool) : Prop :=
      (reserved .g a ∨ reserved .g b → done i q.trap stops)
        ∧ (¬ reserved .g a → ¬ reserved .g b →
          done i q.trap ⟨if rel (regValue .g a) (regValue .g b) then 0x4000000000000000 else 0, 0, 0⟩)
    let converts (i : Instr) (src dst : Fmt) : Prop :=
      (reserved src b → done i q.trap stops)
        ∧ ∀ neg m e, Fmt.value src false b = .num neg m e → done i q.trap (Fmt.round dst k neg m e)
    done (.addf q fa fb fc) q.trap (Fmt.add .f k a b) ∧ done (.addg q fa fb fc) q.trap (Fmt.add .g k a b)
      ∧ done (.subf q fa fb fc) q.trap (Fmt.sub .f k a b) ∧ done (.subg q fa fb fc) q.trap (Fmt.sub .g k a b)
      ∧ done (.mulf q fa fb fc) q.trap (Fmt.mul .f k a b) ∧ done (.mulg q fa fb fc) q.trap (Fmt.mul .g k a b)
      ∧ done (.divf q fa fb fc) q.trap (Fmt.div .f k a b) ∧ done (.divg q fa fb fc) q.trap (Fmt.div .g k a b)
      ∧ compares (.cmpgeq q fa fb fc) (fun x y => decide (x = y))
      ∧ compares (.cmpglt q fa fb fc) (fun x y => decide (x < y))
      ∧ compares (.cmpgle q fa fb fc) (fun x y => decide (x ≤ y))
      ∧ converts (.cvtgf q fb fc) .g .f ∧ converts (.cvtgd q fb fc) .g .d ∧ converts (.cvtdg q fb fc) .d .g
      ∧ (reserved .g b → done (.cvtgq q fb fc) q.trap stops)
      ∧ (∀ neg m e, Fmt.value .g false b = .num neg m e →
        let n := (roundAt k.mode neg m e 0).1
        let i : Int := if neg then -(n : Int) else n
        done (.cvtgq q fb fc) q.trap ⟨BitVec.ofInt 64 i, if i < -2 ^ 63 ∨ 2 ^ 63 ≤ i then 0x20 else 0, 0⟩)
      ∧ done (.cvtqf q fb fc) q.trap (Fmt.round .f k (decide (b.toInt < 0)) b.toInt.natAbs 0)
      ∧ done (.cvtqg q fb fc) q.trap (Fmt.round .g k (decide (b.toInt < 0)) b.toInt.natAbs 0)
      ∧ (State.has s .fix = true →
        done (.sqrtf q fb fc) q.trap (Fmt.sqrt .f k b) ∧ done (.sqrtg q fb fc) q.trap (Fmt.sqrt .g k b)
        ∧ done (.sqrts q fb fc) q.trap (Fmt.sqrt .s (State.ieeeCtl s q) b)
        ∧ done (.sqrtt q fb fc) q.trap (Fmt.sqrt .t (State.ieeeCtl s q) b))
      ∧ done (.cvtql tr fb fc) tr
        ⟨b.extractLsb' 30 2 ++ (0 : BitVec 3) ++ b.extractLsb' 0 30 ++ (0 : BitVec 29),
          if b.toInt < -2 ^ 31 ∨ 2 ^ 31 ≤ b.toInt then 0x20 else 0, 0⟩)
  ∧ ∀ (fm : Fmt) (k : FpCtl) (a b : Word), fm = .f ∨ fm = .g →
    let valid (r : Word) : Prop := fm = .g ∨ r.extractLsb' 0 29 = 0 ∧ (r.extractLsb' 52 11 = 0
      ∨ 897 ≤ (r.extractLsb' 52 11).toNat ∧ (r.extractLsb' 52 11).toNat ≤ 1151)
    let reserved (r : Word) : Prop := r.getLsbD 63 = true ∧ r.extractLsb' 52 11 = 0
    let zero (r : Word) : Prop := r.getLsbD 63 = false ∧ r.extractLsb' 52 11 = 0
    let drawn : FpOut := ⟨k.free.invalidResult, k.free.invalidConds, 0⟩
    let open_ (c always : Conds) : FpOut := ⟨k.free.vaxUnstated, c, always⟩
    let all (out : FpOut) : Prop := Fmt.add fm k a b = out ∧ Fmt.sub fm k a b = out ∧ Fmt.mul fm k a b = out ∧ Fmt.div fm k a b = out
    (∀ r, Fmt.valid fm r = true ↔ valid r)
    ∧ (¬ valid a ∨ ¬ valid b → all drawn) ∧ (¬ valid b → Fmt.sqrt fm k b = drawn)
    ∧ (valid b → (reserved b → Fmt.sqrt fm k b = open_ 1 1) ∧ (zero b → Fmt.sqrt fm k b = ⟨0, 0, 0⟩)
      ∧ (b.getLsbD 63 = true → ¬ reserved b → Fmt.sqrt fm k b = open_ 1 0))
    ∧ (valid a → valid b → (reserved a ∨ reserved b → all (open_ 1 1))
      ∧ (¬ reserved a → zero b → (zero a → Fmt.div fm k a b = open_ 1 0) ∧ (¬ zero a → Fmt.div fm k a b = open_ 2 0)))

/-- Which raised conditions trap: INV, DZE and OVF always enabled, UNF and IOV with /U or /V, INE with /I; with /S not those
whose FPCR disable bit is set, IOV having none, unless they are in `always`, the conditions that trap whatever the FPCR (R610:
a VAX reserved operand and overflow; that this stands above the disable bits is the model's reading, log 12); and EXC_SUM has
bit `k + 1` for condition `k` and SWC for /S (43_float.md R606, 10_state.md R60, R67). -/
def Obligations.TrappingConditions : Prop :=
  ∀ (tr : Trap) (f : Word) (raised always : Conds),
    let c := trapping tr f raised always
    (∀ k < 6, c.getLsbD k = (raised.getLsbD k
      && (decide (k < 3) || (decide (k = 3 ∨ k = 5) && tr.bits.getLsbD 0) || (decide (k = 4) && tr.bits.getLsbD 1))
      && (always.getLsbD k || !(tr.bits.getLsbD 2 && (match k with
        | 0 => f.getLsbD 49
        | 1 => f.getLsbD 50
        | 2 => f.getLsbD 51
        | 3 => f.getLsbD 61
        | 4 => f.getLsbD 62
        | _ => false)))))
    ∧ (excSumOf tr c).getLsbD 0 = tr.bits.getLsbD 2
    ∧ (∀ k < 6, (excSumOf tr c).getLsbD (k + 1) = c.getLsbD k)
    ∧ ∀ k, 6 < k → (excSumOf tr c).getLsbD k = false

/-- Rounding an exact value to a coarser multiple: the inexact flag says whether the value is no multiple, the result is one
of the two neighbours, chopping takes the lower, the directed modes go their way, and the two nearest modes take the nearer,
a tie going to the even neighbour or away from zero (43_float.md R604, R612). The magnitude is `m` units of 2^e, rounded to
units of 2^(e + k); a finer unit changes nothing. The value of a finite register of each format is the one R602 and R603 write.
And ROUNDING TO A FORMAT: an exact value is rounded to the format's precision with an unbounded exponent, then judged (R604,
R605): an overflow delivers the infinity or the largest value of the mode (R607; VAX: a free value, always trapped, R610), an
underflow a zero (R609; VAX R610) or the value rounded to the least denormal, anything else the value itself; and the conditions
raised. The VAX lower bounds are the register layout's (log 13), judged after rounding (log 14); S denormals have the form of R602
(log 15); the free value of a VAX overflow is log 12's. -/
def Obligations.RoundingModes : Prop :=
  (∀ (neg : Bool) (m k : Nat) (e : Int), 0 < k →
    let lower := m / 2 ^ k
    let r (mode : RMode) : Nat := (roundAt mode neg m e (e + k)).1
    (∀ mode, ((roundAt mode neg m e (e + k)).2 = true ↔ m % 2 ^ k ≠ 0))
      ∧ (m % 2 ^ k = 0 → ∀ mode, r mode * 2 ^ k = m)
      ∧ r .chop = lower
      ∧ (m % 2 ^ k ≠ 0 → r .minus = (if neg then lower + 1 else lower) ∧ r .plus = (if neg then lower else lower + 1))
      ∧ (2 * (m % 2 ^ k) < 2 ^ k → r .even = lower ∧ r .away = lower)
      ∧ (2 ^ k < 2 * (m % 2 ^ k) → r .even = lower + 1 ∧ r .away = lower + 1)
      ∧ (2 * (m % 2 ^ k) = 2 ^ k → r .away = lower + 1 ∧ r .even % 2 = 0 ∧ (r .even = lower ∨ r .even = lower + 1)))
  ∧ (∀ (mode : RMode) (neg : Bool) (m k : Nat) (e : Int), roundAt mode neg m e (e - k) = (m * 2 ^ k, false))
  ∧ (∀ (fm : Fmt) (r : Word) (neg : Bool) (m : Nat) (e : Int), Fmt.valid fm r = true → Fmt.value fm false r = .num neg m e →
    regValue fm r = exactValue neg m e ∧ (m ≠ 0 → neg = r.getLsbD 63))
  ∧ ∀ (fm : Fmt) (k : FpCtl) (neg : Bool) (m : Nat) (e : Int),
    let vax : Bool := fm == .f || fm == .g || fm == .d
    let out := Fmt.round fm k neg m e
    let zero : Word := if neg && !vax then 0x8000000000000000 else 0
    (m = 0 → out = ⟨zero, 0, 0⟩)
    ∧ (m ≠ 0 →
      let prec : Nat := match fm with
        | .s | .f => 24
        | .t | .g => 53
        | .d => 56
      let least : Int := match fm with
        | .s => -126
        | .t => -1022
        | .f | .d => -128
        | .g => -1024
      let limit : Int := match fm with
        | .s => 128
        | .t => 1024
        | .f | .d => 127
        | .g => 1023
      let q : Int := e + Nat.log2 m + 1 - prec
      let n := roundAt k.mode neg m e q
      let x : ℚ := (n.1 : ℚ) * (2 : ℚ) ^ q
      let away : Bool := k.mode == .even || k.mode == .away || (k.mode == .minus && neg) || (k.mode == .plus && !neg)
      let sign : Word := if neg then 0x8000000000000000 else 0
      let holds (v : ℚ) : Prop := Fmt.valid fm out.bits = true ∧ regValue fm out.bits = v ∧ out.bits.getLsbD 63 = neg
        ∧ (vax = false → out.bits.extractLsb' 52 11 ≠ 0x7FF)
      ((2 : ℚ) ^ limit ≤ x →
        (vax = true → out = ⟨k.free.vaxUnstated, 4, 4⟩)
        ∧ (vax = false → out = ⟨sign ||| (if away then 0x7FF0000000000000
            else if fm = .s then 0x47EFFFFFE0000000 else 0x7FEFFFFFFFFFFFFF), 0x14, 0⟩))
      ∧ ((2 : ℚ) ^ least ≤ x → x < (2 : ℚ) ^ limit →
        holds (if neg then -x else x) ∧ out.conds = (if n.2 && !vax then 0x10 else 0) ∧ out.always = 0)
      ∧ (x < (2 : ℚ) ^ least →
        (vax = true → out = ⟨0, 8, 0⟩)
        ∧ (vax = false → k.tinyToZero = true → out = ⟨zero, 0x18, 0⟩)
        ∧ (vax = false → k.tinyToZero = false →
          let unit : Int := least - prec + 1
          let d := roundAt k.mode neg m e unit
          holds (exactValue neg d.1 unit) ∧ out.conds = (if d.2 then 0x18 else 0) ∧ out.always = 0)))

/-- Every finite nonzero value of a valid register, in each of the five formats and every rounding mode, rounds to the
register that holds it and raises nothing: reading, rounding and packing agree (43_float.md R600, R602, R603, R604). The VAX
ranges are those of the register layout (log 13), and the register form of an S denormal is that of R600 and R602, against one
vector of the spec (log 15). -/
def Obligations.ValuesRoundToThemselves : Prop :=
  ∀ (fm : Fmt) (k : FpCtl) (r : Word) (neg : Bool) (m : Nat) (e : Int), Fmt.valid fm r = true → k.tinyToZero = false →
    Fmt.value fm false r = .num neg m e → m ≠ 0 → Fmt.round fm k neg m e = ⟨r, 0, 0⟩

/-- Addition, subtraction and multiplication of finite values, in each format and mode, round the exact result; division and
square root do where the exact result is a natural number times a power of two, and where it is not (43_float.md R604). Values
are signed integers times powers of two; the sign of a zero sum is stated too. Of an exact quotient or root, in ℚ or by its
square, that lies in [n, n + 1) units of 2^e, where n has more bits than the format, the rounding is that of 2 n half units if
it is n and of 2 n + 1 half units if it lies above: no multiple of the format's unit and no middle of two lies strictly
between n and n + 1, and the last part says that whatever lies there rounds alike, its conditions included. A zero divided by
a nonzero value is the quotient 0, whose rounding `RoundingModes` gives: a zero with the sign of the quotient in S and T, true
zero in F and G. -/
def Obligations.ArithmeticRoundsExactResults : Prop :=
  ∀ (fm : Fmt) (k : FpCtl) (a b : Word) (na nb : Bool) (ma mb : Nat) (ea eb : Int),
    Fmt.valid fm a = true → Fmt.valid fm b = true → Fmt.value fm k.dnz a = .num na ma ea →
    Fmt.value fm k.dnz b = .num nb mb eb →
    let int (n : Bool) (m : Nat) (e q : Int) : Int := (if n then -1 else 1) * (m * 2 ^ (e - q).toNat)
    (∀ q : Int, q ≤ ea → q ≤ eb →
      let sum := int na ma ea q + int nb mb eb q
      let diff := int na ma ea q - int nb mb eb q
      (sum ≠ 0 → Fmt.add fm k a b = Fmt.round fm k (decide (sum < 0)) sum.natAbs q)
        ∧ (diff ≠ 0 → Fmt.sub fm k a b = Fmt.round fm k (decide (diff < 0)) diff.natAbs q)
        ∧ (sum = 0 → Fmt.add fm k a b
          = Fmt.round fm k (if na = nb then na else decide (k.mode = .minus)) 0 q)
        ∧ (diff = 0 → Fmt.sub fm k a b
          = Fmt.round fm k (if na = nb then decide (k.mode = .minus) else na) 0 q))
    ∧ Fmt.mul fm k a b = Fmt.round fm k (na != nb) (ma * mb) (ea + eb)
    ∧ (∀ (m : Nat) (e : Int), mb ≠ 0 → m * mb * 2 ^ (e + eb - min (e + eb) ea).toNat
        = ma * 2 ^ (ea - min (e + eb) ea).toNat → Fmt.div fm k a b = Fmt.round fm k (na != nb) m e)
    ∧ (∀ (m : Nat) (e : Int), mb ≠ 0 → nb = false → m * m * 2 ^ (2 * e - min (2 * e) eb).toNat
        = mb * 2 ^ (eb - min (2 * e) eb).toNat → Fmt.sqrt fm k b = Fmt.round fm k false m e)
    ∧ ∀ (n : Nat) (e : Int), 2 ^ (match fm with
        | .s | .f => 24
        | .t | .g => 53
        | .d => 56) ≤ n →
      let unit : ℚ := (2 : ℚ) ^ e
      let quotient : ℚ := (ma * (2 : ℚ) ^ ea) / (mb * (2 : ℚ) ^ eb)
      let square : ℚ := mb * (2 : ℚ) ^ eb
      (mb ≠ 0 → n * unit ≤ quotient → quotient < (n + 1) * unit →
        Fmt.div fm k a b = Fmt.round fm k (na != nb) (2 * n + if n * unit = quotient then 0 else 1) (e - 1))
      ∧ (nb = false → (n * unit) ^ 2 ≤ square → square < ((n + 1) * unit) ^ 2 →
        Fmt.sqrt fm k b = Fmt.round fm k false (2 * n + if (n * unit) ^ 2 = square then 0 else 1) (e - 1))
      ∧ ∀ (neg : Bool) (j f : Nat), 0 < f → f < 2 ^ j →
        Fmt.round fm k neg (n * 2 ^ j + f) (e - j) = Fmt.round fm k neg (2 * n + 1) (e - 1)

/-- The memory and register forms of the floating formats, field by field (43_float.md R600, R601): the sign in bit 63, the
8-bit exponent of S and F widened into bits 62:52, the fraction in bits 51:29 and zeros below; F in memory with its 16-bit
words swapped, the sign in bit 15; G its four 16-bit words in reverse order; and the memory forms bits of the register. And
they are inverse: storing what was loaded gives the memory form back, for every longword in S and F and every quadword in G;
and loading what was stored gives the register back, where it is a valid S or F register. -/
def Obligations.FloatMemoryForms : Prop :=
  (∀ m : BitVec 32, sRegToMem (sMemToReg (m.setWidth 64)) = m.setWidth 64
      ∧ fRegToMem (fMemToReg (m.setWidth 64)) = m.setWidth 64)
    ∧ (∀ m : Word, gRegToMem (gMemToReg m) = m ∧ gMemToReg (gRegToMem m) = m)
    ∧ (∀ r : Word, Fmt.valid .s r = true → sMemToReg (sRegToMem r) = r)
    ∧ (∀ r : Word, Fmt.valid .f r = true → fMemToReg (fRegToMem r) = r)
    ∧ (∀ m : BitVec 32, Fmt.valid .s (sMemToReg (m.setWidth 64)) = true ∧ Fmt.valid .f (fMemToReg (m.setWidth 64)) = true)
    ∧ (∀ m : BitVec 32,
      let s := sMemToReg (m.setWidth 64)
      let e := (m.extractLsb' 23 8).toNat
      s.getLsbD 63 = m.getLsbD 31
        ∧ (s.extractLsb' 52 11).toNat = (if e = 0xFF then 0x7FF else if e = 0 then 0 else e + 896)
        ∧ s.extractLsb' 29 23 = m.extractLsb' 0 23 ∧ s.extractLsb' 0 29 = 0)
    ∧ (∀ m : BitVec 32,
      let f := fMemToReg (m.setWidth 64)
      let e := (m.extractLsb' 7 8).toNat
      f.getLsbD 63 = m.getLsbD 15 ∧ (f.extractLsb' 52 11).toNat = (if e = 0 then 0 else e + 896)
        ∧ f.extractLsb' 45 7 = m.extractLsb' 0 7 ∧ f.extractLsb' 29 16 = m.extractLsb' 16 16 ∧ f.extractLsb' 0 29 = 0)
    ∧ (∀ v : Word, ∀ j < 4, (gMemToReg v).extractLsb' (16 * j) 16 = v.extractLsb' (16 * (3 - j)) 16
      ∧ (gRegToMem v).extractLsb' (16 * j) 16 = v.extractLsb' (16 * (3 - j)) 16)
    ∧ ∀ r : Word,
      (∀ k < 64, (sRegToMem r).getLsbD k = (decide (k < 32) && r.getLsbD (if k < 30 then k + 29 else k + 32)))
      ∧ ∀ k < 64, (fRegToMem r).getLsbD k
        = (decide (k < 32) && r.getLsbD (if k < 14 then k + 45 else if k < 16 then k + 48 else k + 13))

/-! Miscellaneous, PAL and privileged instructions (44_misc_pal.md). -/

/-- TRAPB and EXCB with and without a pending trap, the hints FETCH, FETCH_M and ECB, RPCC, RC and RS (44_misc_pal.md R701 to
R710). -/
def Obligations.MiscInstructions : Prop :=
  ∀ (s : State) (ra rb : Reg),
    let skip : State := { s with cpu := { s.cpu with pc := s.cpu.pc + 4 } }
    let flag (i : Instr) (b : Bool) : Prop :=
      ∃ t, exec i s = .next t ∧ wroteX s t ra (if s.cpu.intrFlag then 1 else 0) ∧ t.cpu.intrFlag = b
        ∧ t.cpu.pc = s.cpu.pc + 4 ∧ onlyX { s with cpu := { s.cpu with intrFlag := b } } t
    (s.cpu.pend.valid = false → exec (.trapb ra rb) s = .next skip ∧ exec (.excb ra rb) s = .next skip)
      ∧ (s.cpu.pend.valid = true →
        exec (.trapb ra rb) s = .next (State.deliverArith s) ∧ exec (.excb ra rb) s = .next (State.deliverArith s))
      ∧ exec (.fetch ra rb) s = .next skip ∧ exec (.fetchM ra rb) s = .next skip ∧ exec (.ecb ra rb) s = .next skip
      ∧ yieldsX (exec (.rpcc ra rb) s) s ra s.cpu.cc
      ∧ flag (.rc ra rb) false ∧ flag (.rs ra rb) true

/-- WH64 (opcode 0x18, function 0xF800) and WH64EN (0xFC00) are refused in every state, whatever their fields (44_misc_pal.md
R711). And they are the only instructions that stop: every other one answers a next state in every state. That second clause
is no rule of the spec: 10_state.md R52 calls the read of a register that nothing has written a model fault, and in the model
every register holds a value from reset on (log 1). -/
def Obligations.OnlyWh64Stops : Prop :=
  (∀ (s : State) (ra rb : Reg), exec (.wh64 ra rb) s = .refused .wh64 ∧ exec (.wh64en ra rb) s = .refused .wh64en
    ∧ decode ((0x18 : BitVec 6) ++ ra ++ rb ++ (0xF800 : BitVec 16)) = .instr (.wh64 ra rb)
    ∧ decode ((0x18 : BitVec 6) ++ ra ++ rb ++ (0xFC00 : BitVec 16)) = .instr (.wh64en ra rb))
  ∧ ∀ (i : Instr) (s : State), (∀ ra rb, i ≠ .wh64 ra rb ∧ i ≠ .wh64en ra rb) → ∃ t, exec i s = .next t

/-- CALL_PAL (44_misc_pal.md R720 to R723): an illegal function is OPCDEC, a privileged one below Kernel is PRIV, a pending
trap is delivered first; else EXC_ADDR takes pc + 4, EXC_PS takes PS, PALM is set, the reservation is lost, the store buffer
drains, and the pc is the entry of the function in the scheme; no register and no byte changes. That the store buffer drains
within the step is the model's choice (log 8). -/
def Obligations.CallPal : Prop :=
  ∀ (s : State) (fn : BitVec 26),
    let n := fn.toNat
    let legal : Prop := n < 0x40 ∨ (0x80 ≤ n ∧ n < 0xC0)
    let low : Prop := State.inPal s = false ∧ (s.cpu.ps.extractLsb' 3 2) ≠ 0
    (¬ legal → exec (.callPal fn) s = .next (State.take s .opcdec))
      ∧ (n < 0x40 → low → exec (.callPal fn) s = .next (State.take s .priv))
      ∧ (legal → (n < 0x40 → ¬ low) → s.cpu.pend.valid = true → exec (.callPal fn) s = .next (State.deliverArith s))
      ∧ (legal → (n < 0x40 → ¬ low) → s.cpu.pend.valid = false → State.memOk s = true →
        ∃ t, exec (.callPal fn) s = .next t
          ∧ t.cpu.pc = s.cpu.palBase + (match s.cfg.palScheme with
            | .linear => 64 * BitVec.ofNat 64 n
            | .openEv6 => (if n < 0x40 then 0x2000 else 0x3000) + 64 * BitVec.ofNat 64 (n % 64))
          ∧ t.cpu.lockFlag = false ∧ t.cpu.sb = [] ∧ sameBytes s t
          ∧ Kept { s with cpu := { s.cpu with
              excAddr := s.cpu.pc + 4, excPs := s.cpu.ps, ps := s.cpu.ps ||| 0x20, pc := t.cpu.pc } } t)

/-- HW_MFPR in PAL mode reads every register of the index table, 0 for a write-only one, and raises OPCDEC for any other
index; it changes nothing but Ra and the pc (44_misc_pal.md R750, R752, 10_state.md R67). -/
def Obligations.ReadProcessorRegister : Prop :=
  ∀ (s : State) (ra : Reg) (index : BitVec 16), State.inPal s = true →
    let c := s.cpu
    let regs : List Word := [c.ps, c.excAddr, c.excPs, c.palBase, c.mmStat, c.va, c.ptbr, c.pcbb, c.itbAsn, c.dtbAsn,
      c.unique, 0, c.intid, c.excSum, c.excMask, c.whami.setWidth 64, c.cc, c.mmuCtl, c.mces]
    (∀ v, regs[index.toNat]? = some v → yieldsX (exec (.hwMfpr ra index) s) s ra v)
      ∧ (0x20 ≤ index.toNat ∧ index.toNat ≤ 0x28 → yieldsX (exec (.hwMfpr ra index) s) s ra 0)
      ∧ (0x13 ≤ index.toNat ∧ index.toNat < 0x20 ∨ 0x28 < index.toNat →
        exec (.hwMfpr ra index) s = .next (State.take s .opcdec))

/-- HW_MTPR in PAL mode: the store buffer drains first (20_memory.md R176; within the step, log 8), and in the drained state each
index of the table stores what it stores, with reserved bits ignored, PAL_BASE written once, the read-only registers unchanged,
SLEEP and HALT entering their states, IPIR and IC_FLUSH; a reserved index is OPCDEC (44_misc_pal.md R751, R752, 10_state.md R67,
R68, 60_exceptions.md R838). What the drained state is, `DrainsKeepOwnView` says. A request joins a set of requests: it is in it
afterwards if its vector was not, a vector that is there already changes nothing, no other request changes, and the set stays one
(R835). A request of the host, `inject_interrupt`, joins the set of the CPU it names with the IPL that VECTOR_IPL gives its
vector; for a number that no CPU has the call fails (R836, 70_reset_and_hazards.md R932). -/
def Obligations.WriteProcessorRegister : Prop :=
  ∀ (s : State) (ra : Reg), State.inPal s = true →
    let v := State.x s ra
    let z := State.drainAll s
    let c := z.cpu
    let writes (index : BitVec 16) (d : Cpu) : Prop :=
      exec (.hwMtpr ra index) s = .next { z with cpu := { d with pc := s.cpu.pc + 4 } }
    writes 0x00 { c with ps := v &&& 0xF1FF8 } ∧ writes 0x01 { c with excAddr := v }
      ∧ writes 0x02 { c with excPs := v &&& 0xF1FF8 }
      ∧ (c.palBaseLocked = false → writes 0x03 { c with palBase := v &&& ~~~0x7FFF, palBaseLocked := true })
      ∧ (c.palBaseLocked = true → writes 0x03 c)
      ∧ writes 0x06 { c with ptbr := v &&& 0x7FFFFFFFF } ∧ writes 0x07 { c with pcbb := v }
      ∧ writes 0x08 { c with itbAsn := v &&& 0xFF } ∧ writes 0x09 { c with dtbAsn := v &&& 0xFF }
      ∧ writes 0x0A { c with unique := v } ∧ writes 0x11 { c with mmuCtl := v &&& 1 }
      ∧ writes 0x12 { c with mces := v &&& 0xFF01 }
      ∧ (∀ index ∈ [0x04, 0x05, 0x0C, 0x0D, 0x0E, 0x0F, 0x10], writes index c)
      ∧ writes 0x26 { c with icache := ⟨[]⟩, icHist := [] }
      ∧ writes 0x27 { c with sleeping := true } ∧ writes 0x28 { c with halted := true }
      ∧ (∃ t, exec (.hwMtpr ra 0x0B) s = .next t
        ∧ t.cpu = { c with
            pc := c.pc + 4,
            irq := if c.whami = v.setWidth 16 then insertIrq ⟨s.cfg.ipiVector, s.cfg.ipiIpl⟩ c.irq else c.irq }
        ∧ t.peers = z.peers.map (fun e => if e.whami = v.setWidth 16
          then { e with irq := insertIrq ⟨s.cfg.ipiVector, s.cfg.ipiIpl⟩ e.irq } else e)
        ∧ t = { z with cpu := t.cpu, peers := t.peers })
      ∧ (∀ index : BitVec 16, (0x13 ≤ index.toNat ∧ index.toNat < 0x20 ∨ 0x28 < index.toNat) →
        exec (.hwMtpr ra index) s = .next (State.take s .opcdec))
      ∧ (∀ (u : State) (n vector : BitVec 16),
        ((∃ e ∈ State.cpus u, e.whami = n) → injectInterrupt n vector u = .next (State.mapCpus (fun e =>
          if e.whami = n then { e with irq := insertIrq ⟨vector, Params.vectorIpl u.cfg vector⟩ e.irq } else e) u))
        ∧ ((∀ e ∈ State.cpus u, e.whami ≠ n) → injectInterrupt n vector u = .fault .noSuchCpu))
      ∧ ∀ (q : Irq) (irq : List Irq), irqSorted irq = true → irqSorted (insertIrq q irq) = true
        ∧ ((∃ r ∈ irq, r.vector = q.vector) → insertIrq q irq = irq)
        ∧ ((∀ r ∈ irq, r.vector ≠ q.vector) → ∀ r, r ∈ insertIrq q irq ↔ r = q ∨ r ∈ irq)

/-- The TLB invalidations by HW_MTPR: after the store buffer has drained (20_memory.md R176; within the step, log 8), the
entries of this CPU that the command names leave the TLBs and no other entry does, and the command is appended to the inbox of
every other CPU (R225, R226). What it does to this CPU is what `Cpu.tbi` does, which a CPU that consumes its inbox applies too
(`Boundaries`). What the drained state is, `DrainsKeepOwnView` says. -/
def Obligations.TlbInvalidation : Prop :=
  ∀ (s : State) (ra : Reg), State.inPal s = true →
    let v := State.x s ra
    let z := State.drainAll s
    let removes (index : BitVec 16) (cmd : TbiCmd) (goneI goneD : TlbEntry → Prop) : Prop :=
      ∃ t, exec (.hwMtpr ra index) s = .next t
        ∧ (∀ e, e ∈ t.cpu.itb.entries ↔ e ∈ s.cpu.itb.entries ∧ ¬ goneI e)
        ∧ (∀ e, e ∈ t.cpu.dtb.entries ↔ e ∈ s.cpu.dtb.entries ∧ ¬ goneD e)
        ∧ t.peers = z.peers.map (fun c => { c with tbiIn := c.tbiIn ++ [cmd] })
        ∧ t.cpu = { Cpu.tbi z.cpu cmd with pc := s.cpu.pc + 4 }
        ∧ t = { z with
          cpu := { z.cpu with
            pc := s.cpu.pc + 4,
            itb := { s.cpu.itb with entries := t.cpu.itb.entries },
            dtb := { s.cpu.dtb with entries := t.cpu.dtb.entries } },
          peers := t.peers }
    let maps (e : TlbEntry) : Prop := v.toNat / 2 ^ e.shift = e.tag
    removes 0x20 .tbia (fun _ => True) (fun _ => True)
      ∧ removes 0x21 .tbiap (fun e => e.global = false) (fun e => e.global = false)
      ∧ removes 0x22 (.tbis v) maps maps
      ∧ removes 0x23 (.tbisi v) maps (fun _ => False)
      ∧ removes 0x24 (.tbisd v) (fun _ => False) maps
      ∧ removes 0x25 (.tbiar v)
        (fun e => e.global = false ∧ maps e ∧ e.asn = s.cpu.itbAsn.setWidth 8)
        (fun e => e.global = false ∧ maps e ∧ e.asn = s.cpu.dtbAsn.setWidth 8)

/-- THE ROUTER: a physical address goes to a machine check from 2^48 up, else to the MMIO region it lies in, else to RAM below
RAM_TOP, else to ROM in its range, else nowhere, where the regions are pairwise disjoint (20_memory.md R240). HW_LD and HW_ST
in PAL mode, aligned: physical accesses of 4 or 8 bytes with no translation; in RAM the load is forwarded from the store
buffer and the store goes into it, elsewhere as `readsOutside` and `writesOutside` say (that a store to a region loses the
reservations on its line and a dropped one none is the model's reading of R181, log 29); where the memory back-end reports an
error for the load of RAM, a machine check of cause 3 (60_exceptions.md R842; log 18). A read of RAM changes nothing but cache
metadata and draws, whatever the back-end answers (20_memory.md R261). And HW_REI restores PS and the pc and changes nothing
else (44_misc_pal.md R755, R756, R760). -/
def Obligations.PhysicalAccessAndReturn : Prop :=
  (∀ (s : State) (pa : Nat), s.regions.Pairwise (fun a b => a.stop < b.start ∨ b.stop < a.start) →
    let inRegion (r : MmioRegion) : Prop := r ∈ s.regions ∧ r.start ≤ pa ∧ pa ≤ r.stop
    let inRom : Prop := s.cfg.romBase ≤ pa ∧ pa < s.cfg.romTop
    (2 ^ 48 ≤ pa → State.route s pa = .tooHigh)
      ∧ (pa < 2 ^ 48 →
        (∀ r, inRegion r → State.route s pa = .mmio r)
        ∧ ((∀ r, ¬ inRegion r) →
          (pa < s.cfg.ramTop → State.route s pa = .ram)
          ∧ (s.cfg.ramTop ≤ pa → (inRom → State.route s pa = .rom) ∧ (¬ inRom → State.route s pa = .unmapped)))))
  ∧ (∀ (k : L1) (s : State) (pa n : Nat), State.noCaches (State.ramErred k s pa n) = State.noCaches s)
  ∧ ∀ (s : State) (ra rb : Reg) (quad : Bool) (d : BitVec 12), State.inPal s = true →
    let pa := State.x s rb + d.signExtend 64
    let n := if quad then 8 else 4
    let ext (v : Word) : Word := if quad then v else (v.extractLsb' 0 32).signExtend 64
    exec .hwRei s = .next { s with cpu := { s.cpu with ps := s.cpu.excPs, pc := s.cpu.excAddr } }
      ∧ (pa.toNat % n = 0 →
        (State.route s pa.toNat = .ram →
          (State.ramErrs .data s pa.toNat n = true →
            exec (.hwLd ra rb quad d) s = .next (State.take (State.ramErred .data s pa.toNat n) (.mchk 3)))
          ∧ (State.ramErrs .data s pa.toNat n = false → ∃ t, exec (.hwLd ra rb quad d) s = .next t
            ∧ wroteX s t ra (ext (ofBytes ((List.range n).map fun k => State.loadByte s (pa.toNat + k))))
            ∧ t.cpu.pc = s.cpu.pc + 4 ∧ sameBytes s t
            ∧ State.noCaches t = State.noCaches { s with cpu := { s.cpu with regs := t.cpu.regs, pc := s.cpu.pc + 4 } })
          ∧ ∃ t, exec (.hwSt ra rb quad d) s = .next t
            ∧ t = { s with cpu := { s.cpu with
                pc := s.cpu.pc + 4, sb := s.cpu.sb ++ [.store pa.toNat (bytesOf n (State.x s ra))] } }
            ∧ (∀ k < n, State.loadByte t (pa.toNat + k) = (State.x s ra).extractLsb' (8 * k) 8)
            ∧ ∀ b, b < pa.toNat ∨ pa.toNat + n ≤ b → State.loadByte t b = State.loadByte s b)
        ∧ readsOutside (exec (.hwLd ra rb quad d) s) s pa.toNat n (fun v w t =>
            wroteX s t ra (ext v) ∧ t = { w with cpu := { w.cpu with regs := t.cpu.regs, pc := s.cpu.pc + 4 } })
        ∧ writesOutside (exec (.hwSt ra rb quad d) s) s pa.toNat n (State.x s ra) passes)

/-- Outside PAL mode the five hardware-privileged instructions raise PRIV whatever their operands, and with PS.FEN = 0 every
floating instruction, load, store and branch raises FEN, whatever its operands, if its extension is present (44_misc_pal.md
R761, 60_exceptions.md R814 and R815, 43_float.md R611; that the extension comes first, 30_encoding.md R309 and
60_exceptions.md R825). -/
def Obligations.PrivilegedAndDisabled : Prop :=
  (∀ (s : State) (ra rb : Reg) (index : BitVec 16) (quad : Bool) (d : BitVec 12), State.inPal s = false →
    ∀ i ∈ [Instr.hwMfpr ra index, .hwMtpr ra index, .hwLd ra rb quad d, .hwSt ra rb quad d, .hwRei],
      exec i s = .next (State.take s .priv))
  ∧ ∀ (i : Instr) (s : State), i.isFloat = true → State.fen s = false → (∀ e, i.extension = some e → State.has s e = true) →
      exec i s = .next (State.take s .fen)

/-! Exceptions (60_exceptions.md). -/

/-- TAKING AN EXCEPTION with no arithmetic trap pending: the class's registers, EXC_ADDR = pc, EXC_PS = PS, PALM set, the
reservation lost, the store buffer drained, the pc at the entry of the class in either scheme, and nothing else changed but
the memory system (60_exceptions.md R800, R801, R830, 44_misc_pal.md R723, 10_state.md R69). A pending arithmetic trap is
delivered instead, EXC_SUM and EXC_MASK taking what was recorded (R822, R823). That the drain is part of the step (log 8) and
that a second machine check changes only `halted` (log 34) are the model's. -/
def Obligations.ExceptionEntry : Prop :=
  ∀ (s : State), State.memOk s = true →
    let at_ (linear ev6 : Word) : Word := s.cpu.palBase + (match s.cfg.palScheme with
      | .linear => linear
      | .openEv6 => ev6)
    let entered (t : State) (c : Cpu) (target : Word) : Prop :=
      t.cpu.sb = [] ∧ t.cpu.lockFlag = false ∧ sameBytes s t
        ∧ Kept { s with cpu := { c with
          excAddr := s.cpu.pc, excPs := s.cpu.ps, ps := s.cpu.ps ||| 0x20, pc := target } } t
    (s.cpu.pend.valid = false →
      entered (State.take s .opcdec) s.cpu (at_ 0x1140 0x400)
      ∧ entered (State.take s .priv) s.cpu (at_ 0x1180 0x400)
      ∧ entered (State.take s .fen) s.cpu (at_ 0x11C0 0x200)
      ∧ ∀ (k : Kind) (ra : Reg) (op : BitVec 6) (cause : MmCause) (va : Word),
        ∃ st : Word, entered (State.take s (.mmFault ⟨k, ra, op⟩ cause va)) { s.cpu with mmStat := st, va := va }
            (at_ 0x1100 (if k = .fetch then 0x480 else 0x380))
          ∧ (st.getLsbD 0 = true ↔ k = .write) ∧ (st.getLsbD 7 = true ↔ k = .fetch)
          ∧ st.extractLsb' 1 6 = (match cause with
            | .acv => 1
            | .for_ => 2
            | .fow => 4
            | .foe => 8
            | .tnv => 16
            | .align => 32)
          ∧ st.extractLsb' 8 5 = ra ∧ st.extractLsb' 13 6 = op ∧ st.extractLsb' 19 45 = 0)
    ∧ entered (State.deliverArith s)
        { s.cpu with excSum := s.cpu.pend.sum, excMask := s.cpu.pend.mask, pend := ⟨false, 0, 0⟩ } (at_ 0x1080 0x600)
    ∧ (s.cpu.pend.valid = true → State.take s .opcdec = State.deliverArith s ∧ State.take s .priv = State.deliverArith s
      ∧ State.take s .fen = State.deliverArith s
      ∧ ∀ a cause va, State.take s (.mmFault a cause va) = State.deliverArith s)
    ∧ ∀ cause : BitVec 8,
      (s.cpu.mces.getLsbD 0 = false →
        entered (State.take s (.mchk cause)) { s.cpu with mces := (cause.setWidth 64 <<< 8) ||| 1 } (at_ 0x1040 0x500))
      ∧ (s.cpu.mces.getLsbD 0 = true →
        State.take s (.mchk cause) = { s with cpu := { s.cpu with halted := true } })

/-- The boundary step of a CPU (60_exceptions.md R850, R851, R852, R855), which is the step of a machine with one CPU, an
empty store buffer and an empty TLB inbox (70_reset_and_hazards.md R930); of any other machine a step is an action of the CPU
and the kind that the scheduler draws, a boundary step where the action is not eligible (R930; log 7). A halt request halts; a
halted CPU stays as it is; a sleeping one with no request above its IPL sleeps on, and one with such a request wakes, whatever
PS.IE and the mode are (R850). A CPU that is awake applies some of the oldest commands of its TLB inbox (20_memory.md R226;
how many is a draw, log 9), and all of them when consuming the inbox is its action (log 7). Then a pending arithmetic trap is
delivered where its draw says so or an interrupt is due, ahead of that interrupt (R822); else an interrupt is taken by a CPU
that is not in PAL mode with IE = 1 for the request of the highest IPL above PS.IPL, of several the one with the smallest
vector, which leaves the set, INTID taking its vector and the store buffer draining (R830 to R832, 20_memory.md R176; within
the step, log 8); else the instruction at the pc is fetched and executed. That an observed halt request is cleared (log 32),
that a halted CPU's boundary leaves even CC (log 33) and that CC advances once, at the end (log 3), are the model's. -/
def Obligations.Boundaries : Prop :=
  (∀ s : State, State.alone s = true → step s = boundary s)
  ∧ (∀ s : State, s.cpu.haltReq = true → ∃ t, boundary s = .next t ∧ t.cpu.halted = true
      ∧ t.cpu.haltReq = false ∧ t.cpu.pc = s.cpu.pc ∧ t.cpu.regs = s.cpu.regs ∧ t.mem = s.mem)
  ∧ (∀ s : State, s.cpu.haltReq = false → s.cpu.halted = true → boundary s = .next s)
  ∧ (∀ s : State, s.cpu.haltReq = false → s.cpu.halted = false → s.cpu.sleeping = true →
      ((∀ q ∈ s.cpu.irq, q.ipl.toNat ≤ (s.cpu.ps.extractLsb' 8 5).toNat) → boundary s = .next (State.tick s))
      ∧ ((∃ q ∈ s.cpu.irq, (s.cpu.ps.extractLsb' 8 5).toNat < q.ipl.toNat) →
        boundary s = boundary { s with cpu := { s.cpu with sleeping := false } }))
  ∧ (∀ s : State, State.alone s = false →
      let u := State.focus { s with draws := s.draws + 1 } (Config.scheduleCpu s.draws)
      (∀ k, Config.schedule s.draws = .drain k → step s = perform u (.drain k))
      ∧ (Config.schedule s.draws = .consume → step s = if u.cpu.tbiIn = [] then boundary u else perform u .consume)
      ∧ (Config.schedule s.draws = .boundary → step s = boundary u))
  ∧ (∀ s : State, perform s .consume = .next { s with cpu := { s.cpu.tbiIn.foldl Cpu.tbi s.cpu with tbiIn := [] } })
  ∧ ∀ s : State, s.cpu.haltReq = false → s.cpu.halted = false → s.cpu.sleeping = false →
    let due : Prop := State.inPal s = false ∧ s.cpu.ps.getLsbD 6 = true
      ∧ ∃ q ∈ s.cpu.irq, (s.cpu.ps.extractLsb' 8 5).toNat < q.ipl.toNat
    (s.cpu.tbiIn ≠ [] → ∃ k, boundary s = tickAfter (deliverOrRun { s with
      cpu := { (s.cpu.tbiIn.take k).foldl Cpu.tbi s.cpu with tbiIn := s.cpu.tbiIn.drop k }, draws := s.draws + 1 }))
    ∧ (s.cpu.tbiIn = [] → boundary s = tickAfter (deliverOrRun s))
    ∧ (s.cpu.pend.valid = true →
      let drawn : State := { s with draws := s.draws + 1 }
      (Config.trapDeliverNow s.draws = true ∨ due → deliverOrRun s = .next (State.deliverArith drawn))
      ∧ (Config.trapDeliverNow s.draws = false → ¬ due → deliverOrRun s = fetchExecute drawn))
    ∧ (s.cpu.pend.valid = false → ¬ due → deliverOrRun s = fetchExecute s)
    ∧ ∀ q ∈ s.cpu.irq, s.cpu.pend.valid = false → State.memOk s = true → irqSorted s.cpu.irq = true →
      State.inPal s = false → s.cpu.ps.getLsbD 6 = true → (s.cpu.ps.extractLsb' 8 5).toNat < q.ipl.toNat →
      (∀ r ∈ s.cpu.irq, r.ipl.toNat < q.ipl.toNat ∨ r.ipl = q.ipl ∧ q.vector.toNat ≤ r.vector.toNat) →
      ∃ t, deliverOrRun s = .next t ∧ t.cpu.lockFlag = false ∧ t.cpu.sb = [] ∧ sameBytes s t
        ∧ Kept { s with cpu := { s.cpu with
            intid := q.vector.setWidth 64, irq := s.cpu.irq.erase q, excAddr := s.cpu.pc, excPs := s.cpu.ps,
            ps := s.cpu.ps ||| 0x20,
            pc := s.cpu.palBase + (match s.cfg.palScheme with
              | .linear => 0x10C0
              | .openEv6 => 0x680) } } t

/-! Translation (20_memory.md). -/

/-- Translation outside PAL mode with MMU_CTL.TE = 1: a non-canonical address or one out of the translated range is an access
violation before any lookup; a TLB hit is checked for the mode, then for the kind of access, then for its fault-on bit, and
gives the page base plus the offset; in PAL mode or with TE = 0 the address is its own (20_memory.md R200 to R203, R211 to
R214, R217). The hit is counted (R215), a faulting one too, for the counter outlives the fault (the model's reading, log 20).
-/
def Obligations.Translation : Prop :=
  ∀ (s : State) (a : Access) (va : Word),
    (State.inPal s = true ∨ s.cpu.mmuCtl.getLsbD 0 = false → State.translate s a va = .ok va s)
    ∧ (State.inPal s = false → s.cpu.mmuCtl.getLsbD 0 = true →
      ((∃ k, 43 ≤ k ∧ k < 64 ∧ va.getLsbD k ≠ va.getLsbD 42) → State.translate s a va = .exc (.mmFault a .acv va) s)
      ∧ ((∀ k, 43 ≤ k → k < 64 → va.getLsbD k = va.getLsbD 42) → ∀ e : TlbEntry,
        let tlb := if a.kind = .fetch then s.cpu.itb else s.cpu.dtb
        let asn := if a.kind = .fetch then s.cpu.itbAsn else s.cpu.dtbAsn
        let m := (s.cpu.ps.extractLsb' 3 2).toNat
        let u := State.withTlb s a.kind { tlb with hits := tlb.hits + 1 }
        e ∈ tlb.entries → va.toNat / 2 ^ e.shift = e.tag → (e.global = true ∨ e.asn = asn.setWidth 8) →
        (∀ e' ∈ tlb.entries, va.toNat / 2 ^ e'.shift = e'.tag → (e'.global = true ∨ e'.asn = asn.setWidth 8) → e' = e) →
        let re := e.perms.getLsbD m
        let we := e.perms.getLsbD (4 + m)
        let allowed := if a.kind = .write then we else re
        let faultOn := e.fo.getLsbD (match a.kind with
          | .read => 0
          | .write => 1
          | .fetch => 2)
        let onCause : MmCause := match a.kind with
          | .read => .for_
          | .write => .fow
          | .fetch => .foe
        State.translate s a va
          = if re = false ∧ we = false ∨ allowed = false then .exc (.mmFault a .acv va) u
            else if faultOn = true then .exc (.mmFault a onCause va) u
            else .ok (e.base + BitVec.ofNat 64 (va.toNat % 2 ^ e.shift)) u))

/-- The page-table walk on a TLB miss: an invalid entry at any level is a translation-not-valid fault, and three valid ones
answer the leaf; the tables are read from memory, not through the store buffer (20_memory.md R206, R221). A table address from
2^48 up is a machine check of cause 2 (R205, R245), any other outside RAM one of cause 4 (R208, which names MMIO and unmapped
space, and 60_exceptions.md R842; that R842 holds for ROM is the model's reading, log 23); a table read for which the memory
back-end reports an error, a draw for each read, one of cause 3 (R842; log 18). A TLB fill puts the new entry in, adds no
other, and keeps the TLB free of two entries that match one access, which `Translation` supposes (R203; log 21). And THE MISS
AS A WHOLE (R204): it is counted once (R215); a walk that faults raises its fault; a walk that answers a leaf fills the TLB
with the leaf's entry (the granularity hint's largest supported page, the tag, the page base, the permissions and the fault-on
bits of R207 and R209), and the access goes on with that entry, checked as on a hit (R211 to R214, R217). The set of the entry
and the way it replaces are the model's (log 22). -/
def Obligations.WalkAndFill : Prop :=
  (∀ (s : State) (a : Access) (va : Word),
    let quad (pa : Word) : Word := ofBytes (Memory.getBytes s.mem pa.toNat 8)
    let frame (pte : Word) : Word := ((pte >>> 32) <<< 13)
    let p1 := ((s.cpu.ptbr.extractLsb' 0 35).setWidth 64 <<< 13) + 8 * (va.extractLsb' 33 10).setWidth 64
    let p2 := frame (quad p1) + 8 * (va.extractLsb' 23 10).setWidth 64
    let p3 := frame (quad p2) + 8 * (va.extractLsb' 13 10).setWidth 64
    let read (n : Nat) : State := if s.cfg.backendErrs then { s with draws := s.draws + n } else s
    let level (n : Nat) (p : Word) (k : Word → Prop) : Prop :=
      (2 ^ 48 ≤ p.toNat → State.walk s a va = .exc (.mchk 2) (read n))
      ∧ (p.toNat < 2 ^ 48 → State.route s p.toNat ≠ .ram → State.walk s a va = .exc (.mchk 4) (read n))
      ∧ (State.route s p.toNat = .ram →
        (s.cfg.backendErrs = true → Config.backendError (s.draws + n) = true →
          State.walk s a va = .exc (.mchk 3) (read (n + 1)))
        ∧ (s.cfg.backendErrs = false ∨ Config.backendError (s.draws + n) = false →
          ((quad p).getLsbD 0 = false → State.walk s a va = .exc (.mmFault a .tnv va) (read (n + 1)))
          ∧ ((quad p).getLsbD 0 = true → k (quad p))))
    level 0 p1 fun _ => level 1 p2 fun _ => level 2 p3 fun leaf => State.walk s a va = .ok leaf (read 3))
  ∧ (∀ (t : Tlb) (e : TlbEntry) (ways draw : Nat),
      let u := Tlb.fill ways draw t e
      e ∈ u.entries ∧ (∀ x ∈ u.entries, x = e ∨ x ∈ t.entries)
        ∧ (t.entries.Pairwise (fun x y => ∀ va asn, ¬ (TlbEntry.matches x va asn = true ∧ TlbEntry.matches y va asn = true)) →
          u.entries.Pairwise fun x y => ∀ va asn, ¬ (TlbEntry.matches x va asn = true ∧ TlbEntry.matches y va asn = true)))
  ∧ ∀ (s : State) (a : Access) (va : Word), State.inPal s = false → s.cpu.mmuCtl.getLsbD 0 = true →
    (∀ k, 43 ≤ k → k < 64 → va.getLsbD k = va.getLsbD 42) →
    let tlb := if a.kind = .fetch then s.cpu.itb else s.cpu.dtb
    let asn : BitVec 8 := (if a.kind = .fetch then s.cpu.itbAsn else s.cpu.dtbAsn).setWidth 8
    let entries := if a.kind = .fetch then s.cfg.itbEntries else s.cfg.dtbEntries
    (∀ e ∈ tlb.entries, ¬ (va.toNat / 2 ^ e.shift = e.tag ∧ (e.global = true ∨ e.asn = asn))) →
    let counted : Tlb := { tlb with misses := tlb.misses + 1 }
    let u := State.withTlb s a.kind counted
    (∀ x w, State.walk u a va = .exc x w → State.translate s a va = .exc x w)
    ∧ ∀ leaf w, State.walk u a va = .ok leaf w → ∃ (g : Nat) (e : TlbEntry),
      let sizes := [true, s.cfg.pageSizes.contains 0x10000, s.cfg.pageSizes.contains 0x80000, s.cfg.pageSizes.contains 0x400000]
      g ≤ (leaf.extractLsb' 5 2).toNat ∧ sizes[g]? = some true
      ∧ (∀ j, j ≤ (leaf.extractLsb' 5 2).toNat → sizes[j]? = some true → j ≤ g)
      ∧ e.shift = 13 + 3 * g ∧ e.tag = va.toNat / 2 ^ e.shift ∧ e.asn = asn ∧ e.global = leaf.getLsbD 4
      ∧ e.base = (leaf >>> 32 <<< 13) &&& ~~~ (BitVec.ofNat 64 (2 ^ e.shift - 1))
      ∧ e.perms = leaf.extractLsb' 8 8 ∧ e.fo = leaf.extractLsb' 1 3
      ∧ e.set = va.toNat / 2 ^ 13 % (entries / s.cfg.tlbWays)
      ∧ (let z : State :=
          { State.withTlb w a.kind (Tlb.fill s.cfg.tlbWays w.draws counted e) with draws := w.draws + 1 }
        let m := (s.cpu.ps.extractLsb' 3 2).toNat
        let re := e.perms.getLsbD m
        let we := e.perms.getLsbD (4 + m)
        let allowed := if a.kind = .write then we else re
        let faultOn := e.fo.getLsbD (match a.kind with
          | .read => 0
          | .write => 1
          | .fetch => 2)
        let onCause : MmCause := match a.kind with
          | .read => .for_
          | .write => .fow
          | .fetch => .foe
        State.translate s a va
          = if re = false ∧ we = false ∨ allowed = false then .exc (.mmFault a .acv va) z
            else if faultOn = true then .exc (.mmFault a onCause va) z
            else .ok (e.base + BitVec.ofNat 64 (va.toNat % 2 ^ e.shift)) z)
end

