-- ==== Sys2Proof/Laws/Cache.lean ====
section
/-! SUPPORT. The caches are transparent (20_memory.md R261): every operation on them changes cache metadata and the counter
of draws, and nothing else. -/

namespace Sys2Proof.Machine

/-- Two states that differ in caches and draws only agree on everything else. -/
theorem noCaches_iff (s t : State) : State.noCaches t = State.noCaches s ↔
    t.cfg = s.cfg ∧ Cpu.noCaches t.cpu = Cpu.noCaches s.cpu ∧ t.peers.map Cpu.noCaches = s.peers.map Cpu.noCaches
      ∧ t.mem = s.mem ∧ t.rom = s.rom ∧ t.regions = s.regions ∧ t.mmioLog = s.mmioLog := by
  simp [State.noCaches, State.mk.injEq]

/-- A change of the first-level caches is none without them. -/
@[simp] theorem noCaches_mapL1 (f : Cache → Cache) (c : Cpu) : Cpu.noCaches (Cpu.mapL1 f c) = Cpu.noCaches c := rfl

/-- Replacing a first-level cache is no change without them. -/
@[simp] theorem noCaches_withL1 (k : L1) (x : Cache) (c : Cpu) : Cpu.noCaches (Cpu.withL1 c k x) = Cpu.noCaches c := by
  cases k <;> rfl

/-- A change of every CPU that touches only caches. -/
theorem noCaches_mapCpus {f : Cpu → Cpu} (h : ∀ c, Cpu.noCaches (f c) = Cpu.noCaches c) (s : State) :
    State.noCaches (State.mapCpus f s) = State.noCaches s := by
  simp [State.noCaches, State.mapCpus, h, Function.comp_def]

/-- A draw. -/
@[simp] theorem noCaches_bump (s : State) : State.noCaches (State.bump s) = State.noCaches s := rfl

/-- Replacing the shared caches. -/
@[simp] theorem noCaches_shared (s : State) (a : List Cache) (b : Cache) :
    State.noCaches { s with l2 := a, l3 := b } = State.noCaches s := rfl

/-- Replacing the L2s. -/
@[simp] theorem noCaches_l2 (s : State) (a : List Cache) : State.noCaches { s with l2 := a } = State.noCaches s := rfl

/-- Replacing the L3. -/
@[simp] theorem noCaches_l3 (s : State) (b : Cache) : State.noCaches { s with l3 := b } = State.noCaches s := rfl

/-- Replacing a first-level cache of the current CPU. -/
@[simp] theorem noCaches_setL1 (s : State) (k : L1) (x : Cache) :
    State.noCaches { s with cpu := Cpu.withL1 s.cpu k x } = State.noCaches s := by
  simp [State.noCaches]

/-- Eviction from the L3. -/
@[simp] theorem noCaches_evictL3 (s : State) (v : Option Line) :
    State.noCaches (State.evictL3 s v) = State.noCaches s := by
  cases v with
  | none => rfl
  | some l => exact (noCaches_mapCpus (noCaches_mapL1 _) _).trans rfl

/-- Eviction from an L2. -/
@[simp] theorem noCaches_evictL2 (s : State) (k : Nat) (v : Option Line) :
    State.noCaches (State.evictL2 s k v) = State.noCaches s := by
  cases v with
  | none => rfl
  | some l =>
    refine (noCaches_mapCpus (fun c => ?_) _).trans rfl
    split <;> rfl

/-- Eviction from a first-level cache. -/
@[simp] theorem noCaches_evictL1 (s : State) (k : L1) (v : Option Line) :
    State.noCaches (State.evictL1 s k v) = State.noCaches s := by
  cases v with
  | none => rfl
  | some l => simp [State.evictL1, State.noCaches]

/-- Use of the L3. -/
@[simp] theorem noCaches_useL3 (s : State) (ln : Nat) (st : Mesi) :
    State.noCaches (State.useL3 s ln st) = State.noCaches s := by
  unfold State.useL3
  split
  · rfl
  · simp

/-- Use of an L2. -/
@[simp] theorem noCaches_useL2 (s : State) (ln : Nat) (st : Mesi) :
    State.noCaches (State.useL2 s ln st) = State.noCaches s := by
  unfold State.useL2
  dsimp only
  split
  · rfl
  · split
    · rfl
    · simp

/-- Use of a first-level cache. -/
@[simp] theorem noCaches_useL1 (s : State) (k : L1) (ln : Nat) (st : Mesi) :
    State.noCaches (State.useL1 s k ln st) = State.noCaches s := by
  unfold State.useL1
  split
  · simp
  · simp

/-- A fill of one line. -/
@[simp] theorem noCaches_fillLine (k : L1) (s : State) (ln : Nat) (st : Mesi) :
    State.noCaches (State.fillLine k s ln st) = State.noCaches s := by
  unfold State.fillLine
  simp only [noCaches_useL1, noCaches_useL2]
  split <;> simp

/-- A read of one line. -/
@[simp] theorem noCaches_readLine (k : L1) (s : State) (ln : Nat) :
    State.noCaches (State.readLine k s ln) = State.noCaches s := by
  unfold State.readLine
  split
  · simp
  · split
    · rw [noCaches_fillLine]
      exact (noCaches_mapCpus (noCaches_mapL1 _) _).trans rfl
    · exact noCaches_fillLine k s ln _

/-- A store to one line. -/
@[simp] theorem noCaches_writeLine (s : State) (ln : Nat) :
    State.noCaches (State.writeLine s ln) = State.noCaches s := by
  refine Eq.trans ?_ (noCaches_readLine .data s ln)
  unfold State.writeLine
  generalize State.readLine .data s ln = u
  simp only [noCaches_iff, List.map_map]
  exact ⟨trivial, rfl, rfl, trivial, trivial, trivial, trivial⟩

/-- The draw of a replacement. -/
@[simp] theorem noCaches_cacheDraw (s : State) : State.noCaches (State.cacheDraw s) = State.noCaches s := by
  unfold State.cacheDraw
  dsimp only
  split <;> rfl

/-- Lines one after the other. -/
theorem noCaches_foldl {f : State → Nat → State} (h : ∀ s ln, State.noCaches (f s ln) = State.noCaches s)
    (ls : List Nat) (s : State) : State.noCaches (ls.foldl f s) = State.noCaches s := by
  induction ls generalizing s with
  | nil => rfl
  | cons l ls ih => exact (ih (f s l)).trans (h s l)

/-- A read through the caches changes only caches. -/
@[simp] theorem noCaches_cacheRead (k : L1) (s : State) (pa n : Nat) :
    State.noCaches (State.cacheRead k s pa n) = State.noCaches s := by
  unfold State.cacheRead
  rw [noCaches_cacheDraw]
  exact noCaches_foldl (noCaches_readLine k) _ s

/-- A completed store's cache side changes only caches. -/
@[simp] theorem noCaches_cacheWrite (s : State) (pa n : Nat) :
    State.noCaches (State.cacheWrite s pa n) = State.noCaches s := by
  unfold State.cacheWrite
  rw [noCaches_cacheDraw]
  exact noCaches_foldl noCaches_writeLine _ s

end Sys2Proof.Machine
end

