-- ==== Sys2Proof/Laws/Memory.lean ====
section
/-! SUPPORT. The laws of the memory: reading after a write, the canonical form, and the byte order. -/

namespace Sys2Proof.Machine

/-- Every address of a memory is above `a`. -/
def Memory.above (a : Nat) (m : List Host.Cell) : Prop := ∀ c ∈ m, a < c.1

/-- The canonical form of a non-empty memory. -/
theorem wf_cons (a : Nat) (v : Byte) (m : List Host.Cell) :
    Memory.wf ((a, v) :: m) = true ↔ v ≠ unlistedByte ∧ Memory.above a m ∧ Memory.wf m = true := by
  simp [Memory.wf, Memory.above, and_assoc]

/-- An address below all entries reads as unlisted. -/
theorem get_of_above {m : List Host.Cell} {a : Nat} (h : ∀ c ∈ m, a < c.1) : Memory.get m a = unlistedByte := by
  induction m with
  | nil => rfl
  | cons c m ih =>
    obtain ⟨b, w⟩ := c
    have hb : a < b := h (b, w) (by simp)
    have : ¬ a = b := by omega
    simp only [Memory.get, this, if_false]
    exact ih fun c hc => h c (by simp [hc])

/-- A write leaves entries above an address above it. -/
theorem above_set {m : List Host.Cell} {b a : Nat} {v : Byte} (h : Memory.above b m) (hb : b < a) :
    Memory.above b (Memory.set m a v) := by
  induction m with
  | nil =>
    unfold Memory.set Memory.above
    split <;> simp [hb]
  | cons c m ih =>
    obtain ⟨d, w⟩ := c
    have hd : b < d := h (d, w) (by simp)
    have hm : Memory.above b m := fun c hc => h c (by simp [hc])
    unfold Memory.set
    split
    · split
      · exact h
      · intro c hc
        rcases List.mem_cons.1 hc with rfl | hc
        · exact hb
        · exact h c hc
    · split
      · split
        · exact hm
        · intro c hc
          rcases List.mem_cons.1 hc with rfl | hc
          · exact hb
          · exact hm c hc
      · intro c hc
        rcases List.mem_cons.1 hc with rfl | hc
        · exact hd
        · exact ih hm c hc

/-- A write keeps the canonical form. -/
theorem wf_set {m : List Host.Cell} (a : Nat) (v : Byte) (h : Memory.wf m = true) :
    Memory.wf (Memory.set m a v) = true := by
  induction m with
  | nil =>
    unfold Memory.set
    split
    · rfl
    · rename_i hv
      rw [wf_cons]
      exact ⟨hv, fun c hc => (List.not_mem_nil hc).elim, rfl⟩
  | cons c m ih =>
    obtain ⟨d, w⟩ := c
    obtain ⟨hw, hab, hm⟩ := (wf_cons d w m).1 h
    unfold Memory.set
    split
    · rename_i hlt
      split
      · exact h
      · rename_i hv
        rw [wf_cons]
        refine ⟨hv, ?_, h⟩
        intro c hc
        rcases List.mem_cons.1 hc with rfl | hc
        · exact hlt
        · exact Nat.lt_trans hlt (hab c hc)
    · split
      · rename_i he
        subst he
        split
        · exact hm
        · rename_i hv
          rw [wf_cons]
          exact ⟨hv, hab, hm⟩
      · rw [wf_cons]
        exact ⟨hw, above_set hab (by omega), ih hm⟩

/-- Reading after a write of one byte. -/
theorem get_set {m : List Host.Cell} (a b : Nat) (v : Byte) (h : Memory.wf m = true) :
    Memory.get (Memory.set m a v) b = if b = a then v else Memory.get m b := by
  induction m with
  | nil =>
    unfold Memory.set
    by_cases hv : v = unlistedByte
    · simp [hv, Memory.get]
    · simp [hv, Memory.get]
  | cons c m ih =>
    obtain ⟨d, w⟩ := c
    obtain ⟨hw, hab, hm⟩ := (wf_cons d w m).1 h
    unfold Memory.set
    split
    · rename_i hlt
      split
      · rename_i hv
        split
        · rename_i hb
          subst hb hv
          refine get_of_above fun c hc => ?_
          rcases List.mem_cons.1 hc with rfl | hc
          · exact hlt
          · exact Nat.lt_trans hlt (hab c hc)
        · rfl
      · simp only [Memory.get]
    · split
      · rename_i he
        subst he
        split
        · rename_i hv
          by_cases hb : b = a
          · subst hb hv
            rw [if_pos rfl]
            exact get_of_above hab
          · simp [Memory.get, hb]
        · by_cases hb : b = a <;> simp [Memory.get, hb]
      · rename_i h1 h2
        simp only [Memory.get]
        split
        · rename_i hb
          have : ¬ b = a := by omega
          simp [this]
        · exact ih hm

/-- Consecutive writes keep the canonical form. -/
theorem wf_setBytes {m : List Host.Cell} (a : Nat) (bs : List Byte) (h : Memory.wf m = true) :
    Memory.wf (Memory.setBytes m a bs) = true := by
  induction bs generalizing m a with
  | nil => exact h
  | cons b bs ih => exact ih (a + 1) (wf_set a b h)

/-- Reading after consecutive writes: the bytes written where they were written, and nothing else changed. -/
theorem get_setBytes {m : List Host.Cell} (a b : Nat) (bs : List Byte) (h : Memory.wf m = true) :
    Memory.get (Memory.setBytes m a bs) b
      = if a ≤ b ∧ b < a + bs.length then (bs[b - a]?).getD unlistedByte else Memory.get m b := by
  induction bs generalizing m a with
  | nil =>
    have : ¬ (a ≤ b ∧ b < a + ([] : List Byte).length) := by simp
    rw [if_neg this]
    rfl
  | cons x bs ih =>
    simp only [Memory.setBytes]
    rw [ih (a + 1) (wf_set a x h), get_set a b x h]
    by_cases hb : b = a
    · subst hb
      have h1 : ¬ (b + 1 ≤ b ∧ b < b + 1 + bs.length) := by omega
      have h2 : b ≤ b ∧ b < b + (x :: bs).length := by simp
      rw [if_neg h1, if_pos h2, if_pos rfl]
      simp
    · simp only [if_neg hb, List.length_cons]
      by_cases hin : a + 1 ≤ b ∧ b < a + 1 + bs.length
      · have h2 : a ≤ b ∧ b < a + (bs.length + 1) := by omega
        rw [if_pos hin, if_pos h2]
        have : b - a = (b - (a + 1)) + 1 := by omega
        rw [this, List.getElem?_cons_succ]
      · have h2 : ¬ (a ≤ b ∧ b < a + (bs.length + 1)) := by omega
        rw [if_neg hin, if_neg h2]

/-- The bytes of a value: how many, and which. -/
@[simp] theorem length_bytesOf (n : Nat) (v : Word) : (bytesOf n v).length = n := by simp [bytesOf]

/-- Byte `k` of a value stands at offset `k` (20_memory.md R150). -/
theorem getElem?_bytesOf (n k : Nat) (v : Word) (h : k < n) :
    (bytesOf n v)[k]? = some (v.extractLsb' (8 * k) 8) := by simp [bytesOf, h]

/-- Every bit of the value of bytes in memory order (20_memory.md R150). -/
theorem getLsbD_ofBytes (bs : List Byte) (i : Nat) :
    (ofBytes bs).getLsbD i = (decide (i < 64) && ((bs[i / 8]?).getD 0).getLsbD (i % 8)) := by
  induction bs generalizing i with
  | nil => simp [ofBytes]
  | cons b bs ih =>
    simp only [ofBytes, BitVec.getLsbD_or, BitVec.getLsbD_shiftLeft, BitVec.getLsbD_setWidth, ih]
    by_cases h8 : i < 8
    · have h0 : i / 8 = 0 := by omega
      have h1 : i % 8 = i := by omega
      have h64 : i < 64 := by omega
      simp [h8, h0, h1, h64]
    · have h0 : i / 8 = (i - 8) / 8 + 1 := by omega
      have h1 : i % 8 = (i - 8) % 8 := by omega
      have h2 : b.getLsbD i = false := BitVec.getLsbD_of_ge b i (by omega)
      by_cases h64 : i < 64
      · have h3 : i - 8 < 64 := by omega
        simp [h8, h0, h1, h2, h64, h3]
      · simp [h2, h64]

/-- The bytes of a value make the value again, as many bits as they hold (20_memory.md R150). -/
theorem getLsbD_ofBytes_bytesOf (n i : Nat) (v : Word) :
    (ofBytes (bytesOf n v)).getLsbD i = (decide (i < 8 * n) && v.getLsbD i) := by
  rw [getLsbD_ofBytes]
  by_cases h : i / 8 < n
  · have h1 : i < 8 * n := by omega
    rw [getElem?_bytesOf n (i / 8) v h]
    have h2 : 8 * (i / 8) + i % 8 = i := by omega
    have h3 : i % 8 < 8 := by omega
    by_cases h64 : i < 64
    · simp [h1, h64, h2, h3]
    · have h4 : v.getLsbD i = false := BitVec.getLsbD_of_ge v i (by omega)
      simp [h64, h4]
  · have h1 : ¬ i < 8 * n := by omega
    have h2 : (bytesOf n v)[i / 8]? = none := by simp [bytesOf]; omega
    simp [h1, h2]

/-- A quadword is the value of its own bytes. -/
theorem ofBytes_bytesOf_8 (v : Word) : ofBytes (bytesOf 8 v) = v := by
  apply BitVec.eq_of_getLsbD_eq
  intro i hi
  rw [getLsbD_ofBytes_bytesOf]
  simp [hi]

end Sys2Proof.Machine
end

