-- ==== Sys2Proof/Laws/Kept.lean ====
section
/-! SUPPORT. What the memory system may change: a relation `Kept` that every operation of it satisfies. A later proof cites
the relation and never unfolds the operation. -/

namespace Sys2Proof.Machine

namespace Kept

/-- Nothing changed. -/
theorem refl (s : State) : Kept s s := ⟨rfl, rfl, rfl, rfl, rfl, id⟩

/-- One change after the other. -/
theorem trans {s t u : State} (a : Kept s t) (b : Kept t u) : Kept s u :=
  ⟨b.cfg.trans a.cfg, b.regions.trans a.regions, b.cpu.trans a.cpu, b.peers.trans a.peers, b.rom.trans a.rom, fun h => b.mem (a.mem h)⟩

variable {s t : State}

/-- The integer registers. -/
theorem regs (h : Kept s t) : t.cpu.regs = s.cpu.regs := congrArg (fun c => c.regs) h.cpu
/-- The floating registers. -/
theorem fregs (h : Kept s t) : t.cpu.fregs = s.cpu.fregs := congrArg (fun c => c.fregs) h.cpu
/-- The pc. -/
theorem pc (h : Kept s t) : t.cpu.pc = s.cpu.pc := congrArg (fun c => c.pc) h.cpu
/-- PS. -/
theorem ps (h : Kept s t) : t.cpu.ps = s.cpu.ps := congrArg (fun c => c.ps) h.cpu
/-- The FPCR. -/
theorem fpcr (h : Kept s t) : t.cpu.fpcr = s.cpu.fpcr := congrArg (fun c => c.fpcr) h.cpu
/-- The pending arithmetic trap. -/
theorem pend (h : Kept s t) : t.cpu.pend = s.cpu.pend := congrArg (fun c => c.pend) h.cpu
/-- PAL_BASE. -/
theorem palBase (h : Kept s t) : t.cpu.palBase = s.cpu.palBase := congrArg (fun c => c.palBase) h.cpu
/-- MCES. -/
theorem mces (h : Kept s t) : t.cpu.mces = s.cpu.mces := congrArg (fun c => c.mces) h.cpu
/-- The CPU's number. -/
theorem whami (h : Kept s t) : t.cpu.whami = s.cpu.whami := congrArg (fun c => c.whami) h.cpu
/-- The halted flag. -/
theorem halted (h : Kept s t) : t.cpu.halted = s.cpu.halted := congrArg (fun c => c.halted) h.cpu
/-- Any integer register. -/
theorem x (h : Kept s t) (r : Reg) : State.x t r = State.x s r := by simp [State.x, h.regs]
/-- Any floating register. -/
theorem f (h : Kept s t) (r : Reg) : State.f t r = State.f s r := by simp [State.f, h.fregs]

/-- A change of caches and draws only. -/
theorem of_noCaches (h : State.noCaches t = State.noCaches s) : Kept s t := by
  obtain ⟨h1, h2, h3, h4, h6, h5, -⟩ := (noCaches_iff s t).1 h
  have hc : ∀ c : Cpu, Cpu.core (Cpu.noCaches c) = Cpu.core c := fun _ => rfl
  refine ⟨h1, h5, ?_, ?_, h6, fun hm => by simpa [State.memOk, h4] using hm⟩
  · rw [← hc t.cpu, h2, hc]
  · have := congrArg (List.map Cpu.core) h3
    simpa [List.map_map, Function.comp_def, hc] using this

/-- A change of every CPU's memory system. -/
theorem mapCpus {f : Cpu → Cpu} (h : ∀ c, Cpu.core (f c) = Cpu.core c) (s : State) : Kept s (State.mapCpus f s) :=
  ⟨rfl, rfl, h _, by simp [State.mapCpus, h, Function.comp_def], rfl, id⟩

end Kept

/-! The completion of a store. -/

/-- Losing a reservation changes nothing else. -/
@[simp] theorem core_loseLock (p : Params) (pa n : Nat) (c : Cpu) : Cpu.core (Cpu.loseLock p pa n c) = Cpu.core c := by
  unfold Cpu.loseLock
  split <;> rfl

/-- A reservation survives a completed store of other lines only (20_memory.md R181). -/
@[simp] theorem lockFlag_loseLock (p : Params) (pa n : Nat) (c : Cpu) :
    (Cpu.loseLock p pa n c).lockFlag = (c.lockFlag && !Params.writesLine p pa n c.lockLine) := by
  unfold Cpu.loseLock
  by_cases h : (c.lockFlag && Params.writesLine p pa n c.lockLine) = true
  · simp_all
  · rw [if_neg h]
    cases h1 : c.lockFlag <;> cases h2 : Params.writesLine p pa n c.lockLine <;> simp_all

/-- Losing reservations is a change of the memory system. -/
theorem kept_loseLocks (s : State) (pa n : Nat) : Kept s (State.loseLocks s pa n) :=
  Kept.mapCpus (core_loseLock s.cfg pa n) s

/-- Remembering what memory held is a change of the memory system. -/
theorem kept_remember (s : State) (pa n : Nat) : Kept s (State.remember s pa n) := by
  unfold State.remember
  split
  · exact Kept.refl s
  · exact Kept.mapCpus (f := fun c => { c with icHist := Memory.cells s.mem pa n :: c.icHist }) (fun _ => rfl) s

/-- Remembering leaves memory and the MMIO log alone. -/
@[simp] theorem mem_remember (s : State) (pa n : Nat) : (State.remember s pa n).mem = s.mem := by
  unfold State.remember; split <;> rfl

/-- Remembering leaves this CPU's store buffer alone. -/
@[simp] theorem sb_remember (s : State) (pa n : Nat) : (State.remember s pa n).cpu.sb = s.cpu.sb := by
  unfold State.remember; split <;> rfl

/-- Losing reservations leaves this CPU's store buffer alone. -/
@[simp] theorem sb_loseLocks (s : State) (pa n : Nat) : (State.loseLocks s pa n).cpu.sb = s.cpu.sb := by
  simp only [State.loseLocks, State.mapCpus, Cpu.loseLock]; split <;> rfl

/-- A completed store: what it leaves in memory (20_memory.md R172). -/
@[simp] theorem mem_completeStore (s : State) (pa : Nat) (bs : List Byte) :
    (State.completeStore s pa bs).mem = Memory.setBytes s.mem pa bs := by
  unfold State.completeStore
  have h := noCaches_cacheWrite (State.loseLocks { State.remember s pa bs.length with
    mem := Memory.setBytes (State.remember s pa bs.length).mem pa bs } pa bs.length) pa bs.length
  have := ((noCaches_iff _ _).1 h).2.2.2.1
  simpa [State.loseLocks, State.mapCpus] using this

/-- A completed store leaves the store buffer of its CPU alone. -/
@[simp] theorem sb_completeStore (s : State) (pa : Nat) (bs : List Byte) :
    (State.completeStore s pa bs).cpu.sb = s.cpu.sb := by
  unfold State.completeStore
  have h := noCaches_cacheWrite (State.loseLocks { State.remember s pa bs.length with
    mem := Memory.setBytes (State.remember s pa bs.length).mem pa bs } pa bs.length) pa bs.length
  have := congrArg (fun c => c.sb) ((noCaches_iff _ _).1 h).2.1
  simpa [Cpu.noCaches] using this

/-- A completed store changes only the memory system. -/
theorem kept_completeStore (s : State) (pa : Nat) (bs : List Byte) : Kept s (State.completeStore s pa bs) := by
  unfold State.completeStore
  refine (kept_remember s pa bs.length).trans (Kept.trans (t := { State.remember s pa bs.length with
    mem := Memory.setBytes (State.remember s pa bs.length).mem pa bs })
    ⟨rfl, rfl, rfl, rfl, rfl, fun h => ?_⟩ ((kept_loseLocks _ pa bs.length).trans (Kept.of_noCaches (noCaches_cacheWrite _ _ _))))
  exact wf_setBytes pa bs h

/-! Draining. -/

/-- Completing entries leaves the store buffer alone. -/
@[simp] theorem sb_completeAll (es : List SbEntry) (s : State) : (State.completeAll es s).cpu.sb = s.cpu.sb := by
  induction es generalizing s with
  | nil => rfl
  | cons e es ih => cases e <;> simp [State.completeAll, ih]

/-- Completing entries changes only the memory system. -/
theorem kept_completeAll (es : List SbEntry) (s : State) : Kept s (State.completeAll es s) := by
  induction es generalizing s with
  | nil => exact Kept.refl s
  | cons e es ih =>
    cases e with
    | wmb => exact ih s
    | store pa bs => exact (kept_completeStore s pa bs).trans (ih _)

/-- Completing entries puts into memory what a load that looks through them reads (20_memory.md R171, R172). -/
theorem get_completeAll (es : List SbEntry) (s : State) (h : State.memOk s = true) (a : Nat) :
    Memory.get (State.completeAll es s).mem a = SbEntry.forward es a (Memory.get s.mem a) := by
  induction es generalizing s with
  | nil => rfl
  | cons e es ih =>
    cases e with
    | wmb => exact ih s h
    | store pa bs =>
      simp only [State.completeAll, SbEntry.forward]
      rw [ih _ ((kept_completeStore s pa bs).mem h), mem_completeStore, get_setBytes pa a bs h]
      congr 1
      by_cases h1 : pa ≤ a
      · by_cases h2 : a < pa + bs.length
        · have : a - pa < bs.length := by omega
          simp [h1, h2, this]
        · have : bs[a - pa]? = none := by simp; omega
          simp [h1, h2, this]
      · simp [h1]

/-- After a drain the store buffer is empty (20_memory.md R173). -/
@[simp] theorem sb_drainAll (s : State) : (State.drainAll s).cpu.sb = [] := by simp [State.drainAll]

/-- A drain changes only the memory system. -/
theorem kept_drainAll (s : State) : Kept s (State.drainAll s) := by
  unfold State.drainAll
  exact Kept.trans (t := { s with cpu := { s.cpu with sb := [] } }) ⟨rfl, rfl, rfl, rfl, rfl, id⟩ (kept_completeAll _ _)

/-- After a drain memory holds what this CPU's loads read before it (20_memory.md R171, R173). -/
theorem get_drainAll (s : State) (h : State.memOk s = true) (a : Nat) :
    Memory.get (State.drainAll s).mem a = State.loadByte s a := by
  unfold State.drainAll State.loadByte
  exact get_completeAll _ { s with cpu := { s.cpu with sb := [] } } h a

/-- A drain of an empty store buffer does nothing. -/
theorem drainAll_of_empty (s : State) (h : s.cpu.sb = []) : State.drainAll s = s := by
  unfold State.drainAll
  rw [h]
  simp only [State.completeAll]
  cases s with
  | mk cfg cpu peers mem rom regions log l2 l3 d => cases cpu; simp_all

/-- A drain changes no byte this CPU's loads read. -/
theorem sameBytes_drainAll (s : State) (h : State.memOk s = true) : sameBytes s (State.drainAll s) := by
  intro a
  conv_lhs => unfold State.loadByte
  rw [sb_drainAll]
  exact get_drainAll s h a

/-- Bytes do not change if neither memory nor the store buffer does. -/
theorem sameBytes_of_eq {s t : State} (hm : t.mem = s.mem) (hb : t.cpu.sb = s.cpu.sb) : sameBytes s t := by
  intro a; simp [State.loadByte, hm, hb]

/-- What a load reads with one more store in the buffer: the store's bytes where it wrote, else as before
(20_memory.md R170, R171). -/
theorem forward_append (es : List SbEntry) (pa : Nat) (bs : List Byte) (a : Nat) (b : Byte) :
    SbEntry.forward (es ++ [.store pa bs]) a b
      = if pa ≤ a ∧ a < pa + bs.length then (bs[a - pa]?).getD 0 else SbEntry.forward es a b := by
  induction es generalizing b with
  | nil =>
    simp only [List.nil_append, SbEntry.forward]
    by_cases h1 : pa ≤ a
    · by_cases h2 : a < pa + bs.length
      · have : a - pa < bs.length := by omega
        simp [h1, h2, this]
      · have : bs[a - pa]? = none := by simp; omega
        simp [h1, h2, this]
    · simp [h1]
  | cons e es ih => cases e <;> simp only [List.cons_append, SbEntry.forward] <;> exact ih _

/-- Every byte after a store into the store buffer. -/
theorem loadByte_bufferStore (s : State) (pa : Nat) (bs : List Byte) (a : Nat) :
    State.loadByte (State.bufferStore s pa bs) a
      = if pa ≤ a ∧ a < pa + bs.length then (bs[a - pa]?).getD 0 else State.loadByte s a :=
  forward_append s.cpu.sb pa bs a _

/-- A store into the store buffer changes only the memory system. -/
theorem kept_bufferStore (s : State) (pa : Nat) (bs : List Byte) : Kept s (State.bufferStore s pa bs) :=
  ⟨rfl, rfl, rfl, rfl, rfl, id⟩

end Sys2Proof.Machine
end

