-- ==== Sys2Proof/Laws/Access.lean ====
section
/-! SUPPORT. What translation and the accesses to memory may change: a read, and anything that ends in an exception, changes
only the memory system and no byte this CPU's loads read (`Quiet`); a write changes only the memory system (`Kept`). -/

namespace Sys2Proof.Machine

/-- The state an operation leaves, whether it answers or raises an exception. -/
def Res.state {α : Type} (r : Res α) : State :=
  match r with
  | .ok _ s => s
  | .exc _ s => s

/-- Only the memory system changed, and no byte of memory as this CPU reads it. -/
structure Quiet (s t : State) : Prop where
  kept : Kept s t
  bytes : State.memOk s = true → sameBytes s t

namespace Quiet

/-- Nothing changed. -/
theorem refl (s : State) : Quiet s s := ⟨Kept.refl s, fun _ _ => rfl⟩

/-- One change after the other. -/
theorem trans {s t u : State} (a : Quiet s t) (b : Quiet t u) : Quiet s u :=
  ⟨a.kept.trans b.kept, fun h x => (b.bytes (a.kept.mem h) x).trans (a.bytes h x)⟩

/-- A change of caches and draws only. -/
theorem of_noCaches {s t : State} (h : State.noCaches t = State.noCaches s) : Quiet s t := by
  refine ⟨Kept.of_noCaches h, fun _ => ?_⟩
  obtain ⟨-, h2, -, h4, -⟩ := (noCaches_iff s t).1 h
  exact sameBytes_of_eq h4 (congrArg (fun c => c.sb) h2)

/-- A drain. -/
theorem drainAll (s : State) : Quiet s (State.drainAll s) := ⟨kept_drainAll s, sameBytes_drainAll s⟩

/-- Losing reservations. -/
theorem loseLocks (s : State) (pa n : Nat) : Quiet s (State.loseLocks s pa n) :=
  ⟨kept_loseLocks s pa n, fun _ => sameBytes_of_eq rfl (sb_loseLocks s pa n)⟩

/-- A change of a TLB. -/
theorem withTlb (s : State) (k : Kind) (t : Tlb) : Quiet s (State.withTlb s k t) := by
  cases k <;> exact ⟨⟨rfl, rfl, rfl, rfl, rfl, id⟩, fun _ => sameBytes_of_eq rfl rfl⟩

/-- A draw. -/
theorem bump (s : State) : Quiet s (State.bump s) := of_noCaches rfl

end Quiet

/-- A sequence is quiet if its parts are. -/
theorem quiet_bind {α β : Type} {s : State} {r : Res α} {f : α → State → Res β} (h : Quiet s r.state)
    (hf : ∀ a t, Quiet t (f a t).state) : Quiet s (Res.bind r f).state := by
  cases r with
  | ok a t => exact h.trans (hf a t)
  | exc e t => exact h

/-- A sequence changes only the memory system if its parts do. -/
theorem kept_bind {α β : Type} {s : State} {r : Res α} {f : α → State → Res β} (h : Kept s r.state)
    (hf : ∀ a t, Kept t (f a t).state) : Kept s (Res.bind r f).state := by
  cases r with
  | ok a t => exact h.trans (hf a t)
  | exc e t => exact h

/-! Physical accesses. -/

/-- A handler call. -/
theorem quiet_mmioCall (s : State) (r : MmioRegion) (pa n : Nat) (w : Option Word) :
    Quiet s (State.mmioCall s r pa n w).state := by
  unfold State.mmioCall
  dsimp only
  split <;> exact ⟨⟨rfl, rfl, rfl, rfl, rfl, id⟩, fun _ => sameBytes_of_eq rfl rfl⟩

/-- The back-end. -/
theorem quiet_backend (s : State) (v : Word) : Quiet s (State.backend s v).state := by
  unfold State.backend
  split
  · split <;> exact Quiet.bump s
  · exact Quiet.refl s

/-- An unanswered read. -/
theorem quiet_unmappedRead (s : State) (n : Nat) : Quiet s (State.unmappedRead s n).state := by
  unfold State.unmappedRead; split <;> exact Quiet.refl s

/-- A dropped write. -/
theorem quiet_droppedWrite (s : State) : Quiet s (State.droppedWrite s).state := by
  unfold State.droppedWrite; split <;> exact Quiet.refl s

/-- A physical read. -/
theorem quiet_physRead (n : Nat) (s : State) (pa : Nat) : Quiet s (State.physRead n s pa).state := by
  unfold State.physRead
  split
  · exact Quiet.refl s
  · exact (Quiet.drainAll s).trans (quiet_mmioCall _ _ _ _ _)
  · exact (Quiet.of_noCaches (noCaches_cacheRead .data s pa n)).trans (quiet_backend _ _)
  · exact Quiet.drainAll s
  · exact quiet_unmappedRead s n

/-- The read of a fetch. -/
theorem quiet_physFetch (s : State) (pa : Nat) : Quiet s (State.physFetch s pa).state := by
  unfold State.physFetch
  split
  · exact Quiet.refl s
  · exact quiet_mmioCall _ _ _ _ _
  · dsimp only
    refine Quiet.trans ?_ (quiet_backend _ _)
    refine Quiet.of_noCaches ((noCaches_cacheRead .inst _ pa 4).trans ?_)
    split <;> rfl
  · exact Quiet.refl s
  · exact quiet_unmappedRead s 4

/-- The read of the walker. -/
theorem quiet_physWalk (s : State) (pa : Nat) : Quiet s (State.physWalk s pa).state := by
  unfold State.physWalk
  split
  · exact Quiet.refl s
  · exact quiet_backend _ _
  all_goals exact Quiet.refl s

/-- A physical write. -/
theorem kept_physWrite (n : Nat) (v : Word) (s : State) (pa : Nat) : Kept s (State.physWrite n v s pa).state := by
  unfold State.physWrite
  split
  · exact Kept.refl s
  · exact kept_bind ((kept_drainAll s).trans (quiet_mmioCall _ _ _ _ _).kept) fun _ t => kept_loseLocks t pa n
  · exact kept_bufferStore s pa _
  · exact (kept_drainAll s).trans (quiet_droppedWrite _).kept
  · exact (quiet_droppedWrite s).kept

/-- A physical write that raises an exception stores nothing (60_exceptions.md R826). -/
theorem quiet_physWrite_exc {n : Nat} {v : Word} {s : State} {pa : Nat} {e : Exc} {t : State}
    (h : State.physWrite n v s pa = .exc e t) : Quiet s t := by
  unfold State.physWrite at h
  split at h
  · cases h; exact Quiet.refl s
  · rename_i r _
    have hq := (Quiet.drainAll s).trans (quiet_mmioCall (State.drainAll s) r pa n (some (lowBytes n v)))
    revert h hq
    generalize State.mmioCall (State.drainAll s) r pa n (some (lowBytes n v)) = m
    intro h hq
    cases m with
    | ok a u => cases h
    | exc e' u => cases h; exact hq
  · cases h
  · have hq := (Quiet.drainAll s).trans (quiet_droppedWrite (State.drainAll s))
    rwa [h] at hq
  · have hq := quiet_droppedWrite s
    rwa [h] at hq

/-- The write of a successful STx_C. -/
theorem kept_physWriteNow (n : Nat) (v : Word) (s : State) (pa : Nat) :
    Kept s (State.physWriteNow n v s pa).state := by
  unfold State.physWriteNow
  split
  · exact kept_completeStore s pa _
  · exact kept_physWrite n v s pa

/-- The write of a successful STx_C that raises an exception stores nothing (60_exceptions.md R826). -/
theorem quiet_physWriteNow_exc {n : Nat} {v : Word} {s : State} {pa : Nat} {e : Exc} {t : State}
    (h : State.physWriteNow n v s pa = .exc e t) : Quiet s t := by
  unfold State.physWriteNow at h
  split at h
  · cases h
  · exact quiet_physWrite_exc h

/-! Translation. -/

/-- One level of a walk. -/
theorem quiet_walkLevel (s : State) (a : Access) (va table : Word) (i : BitVec 10) :
    Quiet s (State.walkLevel s a va table i).state := by
  unfold State.walkLevel
  refine quiet_bind (quiet_physWalk _ _) fun pte t => ?_
  split <;> exact Quiet.refl t

/-- A walk. -/
theorem quiet_walk (s : State) (a : Access) (va : Word) : Quiet s (State.walk s a va).state := by
  unfold State.walk
  exact quiet_bind (quiet_walkLevel _ _ _ _ _) fun _ _ =>
    quiet_bind (quiet_walkLevel _ _ _ _ _) fun _ _ => quiet_walkLevel _ _ _ _ _

/-- The TLB lookup and fill of an access. -/
theorem quiet_tlbEntry (s : State) (a : Access) (va : Word) : Quiet s (State.tlbEntry s a va).state := by
  unfold State.tlbEntry
  dsimp only
  split
  · exact Quiet.withTlb s _ _
  · exact quiet_bind ((Quiet.withTlb s _ _).trans (quiet_walk _ _ _)) fun _ t =>
      (Quiet.withTlb t _ _).trans (Quiet.bump _)

/-- Translation. -/
theorem quiet_translate (s : State) (a : Access) (va : Word) : Quiet s (State.translate s a va).state := by
  unfold State.translate
  split
  · exact Quiet.refl s
  · split
    · exact Quiet.refl s
    · refine quiet_bind (quiet_tlbEntry s a va) fun e t => ?_
      split <;> exact Quiet.refl t

/-- Untranslated accesses go to the address itself, with no check (20_memory.md R200). -/
theorem translate_untranslated {s : State} (h : State.translates s = false) (a : Access) (va : Word) :
    State.translate s a va = .ok va s := by
  simp [State.translate, h]

/-- Translation byte by byte. -/
theorem quiet_translateEach (a : Access) (va : Word) (k : Nat) (s : State) :
    Quiet s (State.translateEach a va k s).state := by
  induction k generalizing va s with
  | zero => exact Quiet.refl s
  | succ k ih =>
    exact quiet_bind (quiet_translate s a va) fun _ _ => quiet_bind (ih _ _) fun _ t => Quiet.refl t

/-- Translation and the alignment check. -/
theorem quiet_place (n : Nat) (a : Access) (va : Word) (s : State) : Quiet s (State.place n a va s).state := by
  unfold State.place
  refine quiet_bind (quiet_translate s a va) fun pa t => ?_
  split
  · exact Quiet.refl t
  · split
    · exact Quiet.refl t
    · exact quiet_bind (quiet_translateEach _ _ _ t) fun _ u => Quiet.refl u

/-- Translation and the alignment check of an access that is never split. -/
theorem quiet_placeAligned (n : Nat) (a : Access) (va : Word) (s : State) :
    Quiet s (State.placeAligned n a va s).state := by
  unfold State.placeAligned
  refine quiet_bind (quiet_translate s a va) fun pa t => ?_
  split <;> exact Quiet.refl t

/-! Accesses. -/

/-- Single-byte reads. -/
theorem quiet_readEach (pas : List Nat) (s : State) : Quiet s (State.readEach pas s).state := by
  induction pas generalizing s with
  | nil => exact Quiet.refl s
  | cons pa pas ih =>
    exact quiet_bind (quiet_physRead 1 s pa) fun _ _ => quiet_bind (ih _) fun _ t => Quiet.refl t

/-- Single-byte writes. -/
theorem kept_writeEach (pas : List Nat) (v : Word) (s : State) : Kept s (State.writeEach pas v s).state := by
  induction pas generalizing v s with
  | nil => exact Kept.refl s
  | cons pa pas ih => exact kept_bind (kept_physWrite 1 v s pa) fun _ t => ih _ t

/-- `MemRead`. -/
theorem quiet_memRead (n : Nat) (a : Access) (va : Word) (s : State) : Quiet s (State.memRead n a va s).state := by
  unfold State.memRead
  refine quiet_bind (quiet_place n a va s) fun p t => ?_
  cases p with
  | whole pa => exact quiet_physRead n t pa
  | split pas => exact quiet_readEach pas t

/-- The certain machine check of a split store: at most the store buffer has drained. -/
theorem quiet_writeCheck {s t : State} {pas : List Nat} {c : BitVec 8} (h : pas.findSome? (State.writeCheck s) = some (c, t)) :
    Quiet s t := by
  obtain ⟨pa, -, h⟩ := List.exists_of_findSome?_eq_some h
  unfold State.writeCheck at h
  split at h
  · cases h; exact Quiet.refl s
  · split at h
    · cases h; exact Quiet.drainAll s
    · cases h
  · split at h
    · cases h; exact Quiet.refl s
    · cases h
  · cases h
  · cases h

/-- A split store that a device's error ends: the older stores have drained, and handlers were called. -/
theorem quiet_abandoned (s : State) (calls : List MmioCall) (draws : Nat) :
    Quiet s { State.drainAll s with mmioLog := calls, draws := draws } :=
  (Quiet.drainAll s).trans ⟨⟨rfl, rfl, rfl, rfl, rfl, id⟩, fun _ => sameBytes_of_eq rfl rfl⟩

/-- `MemWrite`. -/
theorem kept_memWrite (n : Nat) (a : Access) (va v : Word) (s : State) : Kept s (State.memWrite n a va v s).state := by
  unfold State.memWrite
  refine kept_bind (quiet_place n a va s).kept fun p t => ?_
  cases p with
  | whole pa => exact kept_physWrite n v t pa
  | split pas =>
    dsimp only
    split
    · rename_i hc
      exact (quiet_writeCheck hc).kept
    · have h := kept_writeEach pas v t
      split
      · rename_i hw
        rwa [hw] at h
      · exact (quiet_abandoned t _ _).kept

/-- `MemWrite` that raises an exception stores nothing (20_memory.md R161, 60_exceptions.md R826). -/
theorem quiet_memWrite_exc {n : Nat} {a : Access} {va v : Word} {s : State} {e : Exc} {t : State}
    (h : State.memWrite n a va v s = .exc e t) : Quiet s t := by
  unfold State.memWrite at h
  have hq := quiet_place n a va s
  revert h hq
  generalize State.place n a va s = p
  intro h hq
  cases p with
  | exc e' u => cases h; exact hq
  | ok p u =>
    simp only [Res.bind, Res.state] at h hq
    refine Quiet.trans (t := u) hq ?_
    cases p with
    | whole pa => exact quiet_physWrite_exc h
    | split pas =>
      dsimp only at h
      split at h
      · rename_i hc
        cases h
        exact quiet_writeCheck hc
      · split at h
        · cases h
        · cases h
          exact quiet_abandoned u _ _

/-- The read of LDx_L. -/
theorem quiet_memReadLocked (n : Nat) (a : Access) (va : Word) (s : State) :
    Quiet s (State.memReadLocked n a va s).state := by
  unfold State.memReadLocked
  refine (Quiet.drainAll s).trans (quiet_bind (quiet_placeAligned n a va _) fun pa t => ?_)
  refine quiet_bind (quiet_physRead n t pa) fun v u => ?_
  exact ⟨⟨rfl, rfl, rfl, rfl, rfl, id⟩, fun _ => sameBytes_of_eq rfl rfl⟩

/-- The write of STx_C. -/
theorem kept_memWriteConditional (n : Nat) (a : Access) (va v : Word) (s : State) :
    Kept s (State.memWriteConditional n a va v s).state := by
  unfold State.memWriteConditional
  refine (kept_drainAll s).trans (kept_bind (quiet_placeAligned n a va _).kept fun pa t => ?_)
  dsimp only
  split
  · exact kept_bind (kept_physWriteNow n v t pa) fun _ _ => ⟨rfl, rfl, rfl, rfl, rfl, id⟩
  · exact ⟨rfl, rfl, rfl, rfl, rfl, id⟩

/-- STx_C that raises an exception stores nothing (41_loadstore.md R515). -/
theorem quiet_memWriteConditional_exc {n : Nat} {a : Access} {va v : Word} {s : State} {e : Exc} {t : State}
    (h : State.memWriteConditional n a va v s = .exc e t) : Quiet s t := by
  unfold State.memWriteConditional at h
  refine (Quiet.drainAll s).trans ?_
  have hq := quiet_placeAligned n a va (State.drainAll s)
  revert h hq
  generalize State.placeAligned n a va (State.drainAll s) = p
  intro h hq
  cases p with
  | exc e' u => cases h; exact hq
  | ok pa u =>
    simp only [Res.bind, Res.state] at h hq
    refine hq.trans ?_
    split at h
    · revert h
      generalize hm : State.physWriteNow n v u pa = m
      intro h
      cases m with
      | ok a w => cases h
      | exc e' w => cases h; exact quiet_physWriteNow_exc hm
    · cases h

/-- The read of HW_LD. -/
theorem quiet_hwRead (n : Nat) (a : Access) (pa : Word) (s : State) : Quiet s (State.hwRead n a pa s).state := by
  unfold State.hwRead
  split
  · exact quiet_physRead n s _
  · exact Quiet.refl s

/-- The write of HW_ST. -/
theorem kept_hwWrite (n : Nat) (a : Access) (pa v : Word) (s : State) : Kept s (State.hwWrite n a pa v s).state := by
  unfold State.hwWrite
  split
  · exact kept_physWrite n v s _
  · exact Kept.refl s

/-- HW_ST that raises an exception stores nothing. -/
theorem quiet_hwWrite_exc {n : Nat} {a : Access} {pa v : Word} {s : State} {e : Exc} {t : State}
    (h : State.hwWrite n a pa v s = .exc e t) : Quiet s t := by
  unfold State.hwWrite at h
  split at h
  · exact quiet_physWrite_exc h
  · cases h; exact Quiet.refl s

/-- `Fetch`. -/
theorem quiet_fetchWord (s : State) : Quiet s (State.fetchWord s).state := by
  unfold State.fetchWord
  split
  · exact Quiet.refl s
  · exact quiet_bind (quiet_translate s _ _) fun _ _ => quiet_bind (quiet_physFetch _ _) fun _ t => Quiet.refl t

end Sys2Proof.Machine
end

