-- ==== Sys2Proof/Laws/State.lean ====
section
/-! SUPPORT. What each update of State changes and leaves: one lemma per field per update, each true by `rfl`; and the
laws of reading a register after a write. -/

namespace Sys2Proof.Machine

variable (s : State)

@[simp] theorem setX_whami (r : Reg) (v : Word) : (State.setX s r v).cpu.whami = s.cpu.whami := rfl
@[simp] theorem setX_regs (r : Reg) (v : Word) : (State.setX s r v).cpu.regs = s.cpu.regs.setIfInBounds r.toNat v := rfl
@[simp] theorem setX_fregs (r : Reg) (v : Word) : (State.setX s r v).cpu.fregs = s.cpu.fregs := rfl
@[simp] theorem setX_pc (r : Reg) (v : Word) : (State.setX s r v).cpu.pc = s.cpu.pc := rfl
@[simp] theorem setX_ps (r : Reg) (v : Word) : (State.setX s r v).cpu.ps = s.cpu.ps := rfl
@[simp] theorem setX_fpcr (r : Reg) (v : Word) : (State.setX s r v).cpu.fpcr = s.cpu.fpcr := rfl
@[simp] theorem setX_excAddr (r : Reg) (v : Word) : (State.setX s r v).cpu.excAddr = s.cpu.excAddr := rfl
@[simp] theorem setX_excPs (r : Reg) (v : Word) : (State.setX s r v).cpu.excPs = s.cpu.excPs := rfl
@[simp] theorem setX_palBase (r : Reg) (v : Word) : (State.setX s r v).cpu.palBase = s.cpu.palBase := rfl
@[simp] theorem setX_mmStat (r : Reg) (v : Word) : (State.setX s r v).cpu.mmStat = s.cpu.mmStat := rfl
@[simp] theorem setX_va (r : Reg) (v : Word) : (State.setX s r v).cpu.va = s.cpu.va := rfl
@[simp] theorem setX_ptbr (r : Reg) (v : Word) : (State.setX s r v).cpu.ptbr = s.cpu.ptbr := rfl
@[simp] theorem setX_pcbb (r : Reg) (v : Word) : (State.setX s r v).cpu.pcbb = s.cpu.pcbb := rfl
@[simp] theorem setX_itbAsn (r : Reg) (v : Word) : (State.setX s r v).cpu.itbAsn = s.cpu.itbAsn := rfl
@[simp] theorem setX_dtbAsn (r : Reg) (v : Word) : (State.setX s r v).cpu.dtbAsn = s.cpu.dtbAsn := rfl
@[simp] theorem setX_unique (r : Reg) (v : Word) : (State.setX s r v).cpu.unique = s.cpu.unique := rfl
@[simp] theorem setX_intid (r : Reg) (v : Word) : (State.setX s r v).cpu.intid = s.cpu.intid := rfl
@[simp] theorem setX_excSum (r : Reg) (v : Word) : (State.setX s r v).cpu.excSum = s.cpu.excSum := rfl
@[simp] theorem setX_excMask (r : Reg) (v : Word) : (State.setX s r v).cpu.excMask = s.cpu.excMask := rfl
@[simp] theorem setX_cc (r : Reg) (v : Word) : (State.setX s r v).cpu.cc = s.cpu.cc := rfl
@[simp] theorem setX_mmuCtl (r : Reg) (v : Word) : (State.setX s r v).cpu.mmuCtl = s.cpu.mmuCtl := rfl
@[simp] theorem setX_mces (r : Reg) (v : Word) : (State.setX s r v).cpu.mces = s.cpu.mces := rfl
@[simp] theorem setX_lockFlag (r : Reg) (v : Word) : (State.setX s r v).cpu.lockFlag = s.cpu.lockFlag := rfl
@[simp] theorem setX_lockLine (r : Reg) (v : Word) : (State.setX s r v).cpu.lockLine = s.cpu.lockLine := rfl
@[simp] theorem setX_intrFlag (r : Reg) (v : Word) : (State.setX s r v).cpu.intrFlag = s.cpu.intrFlag := rfl
@[simp] theorem setX_halted (r : Reg) (v : Word) : (State.setX s r v).cpu.halted = s.cpu.halted := rfl
@[simp] theorem setX_sleeping (r : Reg) (v : Word) : (State.setX s r v).cpu.sleeping = s.cpu.sleeping := rfl
@[simp] theorem setX_haltReq (r : Reg) (v : Word) : (State.setX s r v).cpu.haltReq = s.cpu.haltReq := rfl
@[simp] theorem setX_palBaseLocked (r : Reg) (v : Word) : (State.setX s r v).cpu.palBaseLocked = s.cpu.palBaseLocked := rfl
@[simp] theorem setX_pend (r : Reg) (v : Word) : (State.setX s r v).cpu.pend = s.cpu.pend := rfl
@[simp] theorem setX_irq (r : Reg) (v : Word) : (State.setX s r v).cpu.irq = s.cpu.irq := rfl
@[simp] theorem setX_sb (r : Reg) (v : Word) : (State.setX s r v).cpu.sb = s.cpu.sb := rfl
@[simp] theorem setX_tbiIn (r : Reg) (v : Word) : (State.setX s r v).cpu.tbiIn = s.cpu.tbiIn := rfl
@[simp] theorem setX_itb (r : Reg) (v : Word) : (State.setX s r v).cpu.itb = s.cpu.itb := rfl
@[simp] theorem setX_dtb (r : Reg) (v : Word) : (State.setX s r v).cpu.dtb = s.cpu.dtb := rfl
@[simp] theorem setX_icache (r : Reg) (v : Word) : (State.setX s r v).cpu.icache = s.cpu.icache := rfl
@[simp] theorem setX_l1d (r : Reg) (v : Word) : (State.setX s r v).cpu.l1d = s.cpu.l1d := rfl
@[simp] theorem setX_icHist (r : Reg) (v : Word) : (State.setX s r v).cpu.icHist = s.cpu.icHist := rfl
@[simp] theorem setX_cfg (r : Reg) (v : Word) : (State.setX s r v).cfg = s.cfg := rfl
@[simp] theorem setX_peers (r : Reg) (v : Word) : (State.setX s r v).peers = s.peers := rfl
@[simp] theorem setX_mem (r : Reg) (v : Word) : (State.setX s r v).mem = s.mem := rfl
@[simp] theorem setX_rom (r : Reg) (v : Word) : (State.setX s r v).rom = s.rom := rfl
@[simp] theorem setX_regions (r : Reg) (v : Word) : (State.setX s r v).regions = s.regions := rfl
@[simp] theorem setX_mmioLog (r : Reg) (v : Word) : (State.setX s r v).mmioLog = s.mmioLog := rfl
@[simp] theorem setX_l2 (r : Reg) (v : Word) : (State.setX s r v).l2 = s.l2 := rfl
@[simp] theorem setX_l3 (r : Reg) (v : Word) : (State.setX s r v).l3 = s.l3 := rfl
@[simp] theorem setX_draws (r : Reg) (v : Word) : (State.setX s r v).draws = s.draws := rfl

@[simp] theorem setF_whami (r : Reg) (v : Word) : (State.setF s r v).cpu.whami = s.cpu.whami := rfl
@[simp] theorem setF_regs (r : Reg) (v : Word) : (State.setF s r v).cpu.regs = s.cpu.regs := rfl
@[simp] theorem setF_fregs (r : Reg) (v : Word) : (State.setF s r v).cpu.fregs = s.cpu.fregs.setIfInBounds r.toNat v := rfl
@[simp] theorem setF_pc (r : Reg) (v : Word) : (State.setF s r v).cpu.pc = s.cpu.pc := rfl
@[simp] theorem setF_ps (r : Reg) (v : Word) : (State.setF s r v).cpu.ps = s.cpu.ps := rfl
@[simp] theorem setF_fpcr (r : Reg) (v : Word) : (State.setF s r v).cpu.fpcr = s.cpu.fpcr := rfl
@[simp] theorem setF_excAddr (r : Reg) (v : Word) : (State.setF s r v).cpu.excAddr = s.cpu.excAddr := rfl
@[simp] theorem setF_excPs (r : Reg) (v : Word) : (State.setF s r v).cpu.excPs = s.cpu.excPs := rfl
@[simp] theorem setF_palBase (r : Reg) (v : Word) : (State.setF s r v).cpu.palBase = s.cpu.palBase := rfl
@[simp] theorem setF_mmStat (r : Reg) (v : Word) : (State.setF s r v).cpu.mmStat = s.cpu.mmStat := rfl
@[simp] theorem setF_va (r : Reg) (v : Word) : (State.setF s r v).cpu.va = s.cpu.va := rfl
@[simp] theorem setF_ptbr (r : Reg) (v : Word) : (State.setF s r v).cpu.ptbr = s.cpu.ptbr := rfl
@[simp] theorem setF_pcbb (r : Reg) (v : Word) : (State.setF s r v).cpu.pcbb = s.cpu.pcbb := rfl
@[simp] theorem setF_itbAsn (r : Reg) (v : Word) : (State.setF s r v).cpu.itbAsn = s.cpu.itbAsn := rfl
@[simp] theorem setF_dtbAsn (r : Reg) (v : Word) : (State.setF s r v).cpu.dtbAsn = s.cpu.dtbAsn := rfl
@[simp] theorem setF_unique (r : Reg) (v : Word) : (State.setF s r v).cpu.unique = s.cpu.unique := rfl
@[simp] theorem setF_intid (r : Reg) (v : Word) : (State.setF s r v).cpu.intid = s.cpu.intid := rfl
@[simp] theorem setF_excSum (r : Reg) (v : Word) : (State.setF s r v).cpu.excSum = s.cpu.excSum := rfl
@[simp] theorem setF_excMask (r : Reg) (v : Word) : (State.setF s r v).cpu.excMask = s.cpu.excMask := rfl
@[simp] theorem setF_cc (r : Reg) (v : Word) : (State.setF s r v).cpu.cc = s.cpu.cc := rfl
@[simp] theorem setF_mmuCtl (r : Reg) (v : Word) : (State.setF s r v).cpu.mmuCtl = s.cpu.mmuCtl := rfl
@[simp] theorem setF_mces (r : Reg) (v : Word) : (State.setF s r v).cpu.mces = s.cpu.mces := rfl
@[simp] theorem setF_lockFlag (r : Reg) (v : Word) : (State.setF s r v).cpu.lockFlag = s.cpu.lockFlag := rfl
@[simp] theorem setF_lockLine (r : Reg) (v : Word) : (State.setF s r v).cpu.lockLine = s.cpu.lockLine := rfl
@[simp] theorem setF_intrFlag (r : Reg) (v : Word) : (State.setF s r v).cpu.intrFlag = s.cpu.intrFlag := rfl
@[simp] theorem setF_halted (r : Reg) (v : Word) : (State.setF s r v).cpu.halted = s.cpu.halted := rfl
@[simp] theorem setF_sleeping (r : Reg) (v : Word) : (State.setF s r v).cpu.sleeping = s.cpu.sleeping := rfl
@[simp] theorem setF_haltReq (r : Reg) (v : Word) : (State.setF s r v).cpu.haltReq = s.cpu.haltReq := rfl
@[simp] theorem setF_palBaseLocked (r : Reg) (v : Word) : (State.setF s r v).cpu.palBaseLocked = s.cpu.palBaseLocked := rfl
@[simp] theorem setF_pend (r : Reg) (v : Word) : (State.setF s r v).cpu.pend = s.cpu.pend := rfl
@[simp] theorem setF_irq (r : Reg) (v : Word) : (State.setF s r v).cpu.irq = s.cpu.irq := rfl
@[simp] theorem setF_sb (r : Reg) (v : Word) : (State.setF s r v).cpu.sb = s.cpu.sb := rfl
@[simp] theorem setF_tbiIn (r : Reg) (v : Word) : (State.setF s r v).cpu.tbiIn = s.cpu.tbiIn := rfl
@[simp] theorem setF_itb (r : Reg) (v : Word) : (State.setF s r v).cpu.itb = s.cpu.itb := rfl
@[simp] theorem setF_dtb (r : Reg) (v : Word) : (State.setF s r v).cpu.dtb = s.cpu.dtb := rfl
@[simp] theorem setF_icache (r : Reg) (v : Word) : (State.setF s r v).cpu.icache = s.cpu.icache := rfl
@[simp] theorem setF_l1d (r : Reg) (v : Word) : (State.setF s r v).cpu.l1d = s.cpu.l1d := rfl
@[simp] theorem setF_icHist (r : Reg) (v : Word) : (State.setF s r v).cpu.icHist = s.cpu.icHist := rfl
@[simp] theorem setF_cfg (r : Reg) (v : Word) : (State.setF s r v).cfg = s.cfg := rfl
@[simp] theorem setF_peers (r : Reg) (v : Word) : (State.setF s r v).peers = s.peers := rfl
@[simp] theorem setF_mem (r : Reg) (v : Word) : (State.setF s r v).mem = s.mem := rfl
@[simp] theorem setF_rom (r : Reg) (v : Word) : (State.setF s r v).rom = s.rom := rfl
@[simp] theorem setF_regions (r : Reg) (v : Word) : (State.setF s r v).regions = s.regions := rfl
@[simp] theorem setF_mmioLog (r : Reg) (v : Word) : (State.setF s r v).mmioLog = s.mmioLog := rfl
@[simp] theorem setF_l2 (r : Reg) (v : Word) : (State.setF s r v).l2 = s.l2 := rfl
@[simp] theorem setF_l3 (r : Reg) (v : Word) : (State.setF s r v).l3 = s.l3 := rfl
@[simp] theorem setF_draws (r : Reg) (v : Word) : (State.setF s r v).draws = s.draws := rfl

@[simp] theorem setPc_whami (v : Word) : (State.setPc s v).cpu.whami = s.cpu.whami := rfl
@[simp] theorem setPc_regs (v : Word) : (State.setPc s v).cpu.regs = s.cpu.regs := rfl
@[simp] theorem setPc_fregs (v : Word) : (State.setPc s v).cpu.fregs = s.cpu.fregs := rfl
@[simp] theorem setPc_pc (v : Word) : (State.setPc s v).cpu.pc = v := rfl
@[simp] theorem setPc_ps (v : Word) : (State.setPc s v).cpu.ps = s.cpu.ps := rfl
@[simp] theorem setPc_fpcr (v : Word) : (State.setPc s v).cpu.fpcr = s.cpu.fpcr := rfl
@[simp] theorem setPc_excAddr (v : Word) : (State.setPc s v).cpu.excAddr = s.cpu.excAddr := rfl
@[simp] theorem setPc_excPs (v : Word) : (State.setPc s v).cpu.excPs = s.cpu.excPs := rfl
@[simp] theorem setPc_palBase (v : Word) : (State.setPc s v).cpu.palBase = s.cpu.palBase := rfl
@[simp] theorem setPc_mmStat (v : Word) : (State.setPc s v).cpu.mmStat = s.cpu.mmStat := rfl
@[simp] theorem setPc_va (v : Word) : (State.setPc s v).cpu.va = s.cpu.va := rfl
@[simp] theorem setPc_ptbr (v : Word) : (State.setPc s v).cpu.ptbr = s.cpu.ptbr := rfl
@[simp] theorem setPc_pcbb (v : Word) : (State.setPc s v).cpu.pcbb = s.cpu.pcbb := rfl
@[simp] theorem setPc_itbAsn (v : Word) : (State.setPc s v).cpu.itbAsn = s.cpu.itbAsn := rfl
@[simp] theorem setPc_dtbAsn (v : Word) : (State.setPc s v).cpu.dtbAsn = s.cpu.dtbAsn := rfl
@[simp] theorem setPc_unique (v : Word) : (State.setPc s v).cpu.unique = s.cpu.unique := rfl
@[simp] theorem setPc_intid (v : Word) : (State.setPc s v).cpu.intid = s.cpu.intid := rfl
@[simp] theorem setPc_excSum (v : Word) : (State.setPc s v).cpu.excSum = s.cpu.excSum := rfl
@[simp] theorem setPc_excMask (v : Word) : (State.setPc s v).cpu.excMask = s.cpu.excMask := rfl
@[simp] theorem setPc_cc (v : Word) : (State.setPc s v).cpu.cc = s.cpu.cc := rfl
@[simp] theorem setPc_mmuCtl (v : Word) : (State.setPc s v).cpu.mmuCtl = s.cpu.mmuCtl := rfl
@[simp] theorem setPc_mces (v : Word) : (State.setPc s v).cpu.mces = s.cpu.mces := rfl
@[simp] theorem setPc_lockFlag (v : Word) : (State.setPc s v).cpu.lockFlag = s.cpu.lockFlag := rfl
@[simp] theorem setPc_lockLine (v : Word) : (State.setPc s v).cpu.lockLine = s.cpu.lockLine := rfl
@[simp] theorem setPc_intrFlag (v : Word) : (State.setPc s v).cpu.intrFlag = s.cpu.intrFlag := rfl
@[simp] theorem setPc_halted (v : Word) : (State.setPc s v).cpu.halted = s.cpu.halted := rfl
@[simp] theorem setPc_sleeping (v : Word) : (State.setPc s v).cpu.sleeping = s.cpu.sleeping := rfl
@[simp] theorem setPc_haltReq (v : Word) : (State.setPc s v).cpu.haltReq = s.cpu.haltReq := rfl
@[simp] theorem setPc_palBaseLocked (v : Word) : (State.setPc s v).cpu.palBaseLocked = s.cpu.palBaseLocked := rfl
@[simp] theorem setPc_pend (v : Word) : (State.setPc s v).cpu.pend = s.cpu.pend := rfl
@[simp] theorem setPc_irq (v : Word) : (State.setPc s v).cpu.irq = s.cpu.irq := rfl
@[simp] theorem setPc_sb (v : Word) : (State.setPc s v).cpu.sb = s.cpu.sb := rfl
@[simp] theorem setPc_tbiIn (v : Word) : (State.setPc s v).cpu.tbiIn = s.cpu.tbiIn := rfl
@[simp] theorem setPc_itb (v : Word) : (State.setPc s v).cpu.itb = s.cpu.itb := rfl
@[simp] theorem setPc_dtb (v : Word) : (State.setPc s v).cpu.dtb = s.cpu.dtb := rfl
@[simp] theorem setPc_icache (v : Word) : (State.setPc s v).cpu.icache = s.cpu.icache := rfl
@[simp] theorem setPc_l1d (v : Word) : (State.setPc s v).cpu.l1d = s.cpu.l1d := rfl
@[simp] theorem setPc_icHist (v : Word) : (State.setPc s v).cpu.icHist = s.cpu.icHist := rfl
@[simp] theorem setPc_cfg (v : Word) : (State.setPc s v).cfg = s.cfg := rfl
@[simp] theorem setPc_peers (v : Word) : (State.setPc s v).peers = s.peers := rfl
@[simp] theorem setPc_mem (v : Word) : (State.setPc s v).mem = s.mem := rfl
@[simp] theorem setPc_rom (v : Word) : (State.setPc s v).rom = s.rom := rfl
@[simp] theorem setPc_regions (v : Word) : (State.setPc s v).regions = s.regions := rfl
@[simp] theorem setPc_mmioLog (v : Word) : (State.setPc s v).mmioLog = s.mmioLog := rfl
@[simp] theorem setPc_l2 (v : Word) : (State.setPc s v).l2 = s.l2 := rfl
@[simp] theorem setPc_l3 (v : Word) : (State.setPc s v).l3 = s.l3 := rfl
@[simp] theorem setPc_draws (v : Word) : (State.setPc s v).draws = s.draws := rfl

@[simp] theorem advance_whami : (State.advance s).cpu.whami = s.cpu.whami := rfl
@[simp] theorem advance_regs : (State.advance s).cpu.regs = s.cpu.regs := rfl
@[simp] theorem advance_fregs : (State.advance s).cpu.fregs = s.cpu.fregs := rfl
@[simp] theorem advance_pc : (State.advance s).cpu.pc = s.cpu.pc + 4 := rfl
@[simp] theorem advance_ps : (State.advance s).cpu.ps = s.cpu.ps := rfl
@[simp] theorem advance_fpcr : (State.advance s).cpu.fpcr = s.cpu.fpcr := rfl
@[simp] theorem advance_excAddr : (State.advance s).cpu.excAddr = s.cpu.excAddr := rfl
@[simp] theorem advance_excPs : (State.advance s).cpu.excPs = s.cpu.excPs := rfl
@[simp] theorem advance_palBase : (State.advance s).cpu.palBase = s.cpu.palBase := rfl
@[simp] theorem advance_mmStat : (State.advance s).cpu.mmStat = s.cpu.mmStat := rfl
@[simp] theorem advance_va : (State.advance s).cpu.va = s.cpu.va := rfl
@[simp] theorem advance_ptbr : (State.advance s).cpu.ptbr = s.cpu.ptbr := rfl
@[simp] theorem advance_pcbb : (State.advance s).cpu.pcbb = s.cpu.pcbb := rfl
@[simp] theorem advance_itbAsn : (State.advance s).cpu.itbAsn = s.cpu.itbAsn := rfl
@[simp] theorem advance_dtbAsn : (State.advance s).cpu.dtbAsn = s.cpu.dtbAsn := rfl
@[simp] theorem advance_unique : (State.advance s).cpu.unique = s.cpu.unique := rfl
@[simp] theorem advance_intid : (State.advance s).cpu.intid = s.cpu.intid := rfl
@[simp] theorem advance_excSum : (State.advance s).cpu.excSum = s.cpu.excSum := rfl
@[simp] theorem advance_excMask : (State.advance s).cpu.excMask = s.cpu.excMask := rfl
@[simp] theorem advance_cc : (State.advance s).cpu.cc = s.cpu.cc := rfl
@[simp] theorem advance_mmuCtl : (State.advance s).cpu.mmuCtl = s.cpu.mmuCtl := rfl
@[simp] theorem advance_mces : (State.advance s).cpu.mces = s.cpu.mces := rfl
@[simp] theorem advance_lockFlag : (State.advance s).cpu.lockFlag = s.cpu.lockFlag := rfl
@[simp] theorem advance_lockLine : (State.advance s).cpu.lockLine = s.cpu.lockLine := rfl
@[simp] theorem advance_intrFlag : (State.advance s).cpu.intrFlag = s.cpu.intrFlag := rfl
@[simp] theorem advance_halted : (State.advance s).cpu.halted = s.cpu.halted := rfl
@[simp] theorem advance_sleeping : (State.advance s).cpu.sleeping = s.cpu.sleeping := rfl
@[simp] theorem advance_haltReq : (State.advance s).cpu.haltReq = s.cpu.haltReq := rfl
@[simp] theorem advance_palBaseLocked : (State.advance s).cpu.palBaseLocked = s.cpu.palBaseLocked := rfl
@[simp] theorem advance_pend : (State.advance s).cpu.pend = s.cpu.pend := rfl
@[simp] theorem advance_irq : (State.advance s).cpu.irq = s.cpu.irq := rfl
@[simp] theorem advance_sb : (State.advance s).cpu.sb = s.cpu.sb := rfl
@[simp] theorem advance_tbiIn : (State.advance s).cpu.tbiIn = s.cpu.tbiIn := rfl
@[simp] theorem advance_itb : (State.advance s).cpu.itb = s.cpu.itb := rfl
@[simp] theorem advance_dtb : (State.advance s).cpu.dtb = s.cpu.dtb := rfl
@[simp] theorem advance_icache : (State.advance s).cpu.icache = s.cpu.icache := rfl
@[simp] theorem advance_l1d : (State.advance s).cpu.l1d = s.cpu.l1d := rfl
@[simp] theorem advance_icHist : (State.advance s).cpu.icHist = s.cpu.icHist := rfl
@[simp] theorem advance_cfg : (State.advance s).cfg = s.cfg := rfl
@[simp] theorem advance_peers : (State.advance s).peers = s.peers := rfl
@[simp] theorem advance_mem : (State.advance s).mem = s.mem := rfl
@[simp] theorem advance_rom : (State.advance s).rom = s.rom := rfl
@[simp] theorem advance_regions : (State.advance s).regions = s.regions := rfl
@[simp] theorem advance_mmioLog : (State.advance s).mmioLog = s.mmioLog := rfl
@[simp] theorem advance_l2 : (State.advance s).l2 = s.l2 := rfl
@[simp] theorem advance_l3 : (State.advance s).l3 = s.l3 := rfl
@[simp] theorem advance_draws : (State.advance s).draws = s.draws := rfl

@[simp] theorem bump_whami : (State.bump s).cpu.whami = s.cpu.whami := rfl
@[simp] theorem bump_regs : (State.bump s).cpu.regs = s.cpu.regs := rfl
@[simp] theorem bump_fregs : (State.bump s).cpu.fregs = s.cpu.fregs := rfl
@[simp] theorem bump_pc : (State.bump s).cpu.pc = s.cpu.pc := rfl
@[simp] theorem bump_ps : (State.bump s).cpu.ps = s.cpu.ps := rfl
@[simp] theorem bump_fpcr : (State.bump s).cpu.fpcr = s.cpu.fpcr := rfl
@[simp] theorem bump_excAddr : (State.bump s).cpu.excAddr = s.cpu.excAddr := rfl
@[simp] theorem bump_excPs : (State.bump s).cpu.excPs = s.cpu.excPs := rfl
@[simp] theorem bump_palBase : (State.bump s).cpu.palBase = s.cpu.palBase := rfl
@[simp] theorem bump_mmStat : (State.bump s).cpu.mmStat = s.cpu.mmStat := rfl
@[simp] theorem bump_va : (State.bump s).cpu.va = s.cpu.va := rfl
@[simp] theorem bump_ptbr : (State.bump s).cpu.ptbr = s.cpu.ptbr := rfl
@[simp] theorem bump_pcbb : (State.bump s).cpu.pcbb = s.cpu.pcbb := rfl
@[simp] theorem bump_itbAsn : (State.bump s).cpu.itbAsn = s.cpu.itbAsn := rfl
@[simp] theorem bump_dtbAsn : (State.bump s).cpu.dtbAsn = s.cpu.dtbAsn := rfl
@[simp] theorem bump_unique : (State.bump s).cpu.unique = s.cpu.unique := rfl
@[simp] theorem bump_intid : (State.bump s).cpu.intid = s.cpu.intid := rfl
@[simp] theorem bump_excSum : (State.bump s).cpu.excSum = s.cpu.excSum := rfl
@[simp] theorem bump_excMask : (State.bump s).cpu.excMask = s.cpu.excMask := rfl
@[simp] theorem bump_cc : (State.bump s).cpu.cc = s.cpu.cc := rfl
@[simp] theorem bump_mmuCtl : (State.bump s).cpu.mmuCtl = s.cpu.mmuCtl := rfl
@[simp] theorem bump_mces : (State.bump s).cpu.mces = s.cpu.mces := rfl
@[simp] theorem bump_lockFlag : (State.bump s).cpu.lockFlag = s.cpu.lockFlag := rfl
@[simp] theorem bump_lockLine : (State.bump s).cpu.lockLine = s.cpu.lockLine := rfl
@[simp] theorem bump_intrFlag : (State.bump s).cpu.intrFlag = s.cpu.intrFlag := rfl
@[simp] theorem bump_halted : (State.bump s).cpu.halted = s.cpu.halted := rfl
@[simp] theorem bump_sleeping : (State.bump s).cpu.sleeping = s.cpu.sleeping := rfl
@[simp] theorem bump_haltReq : (State.bump s).cpu.haltReq = s.cpu.haltReq := rfl
@[simp] theorem bump_palBaseLocked : (State.bump s).cpu.palBaseLocked = s.cpu.palBaseLocked := rfl
@[simp] theorem bump_pend : (State.bump s).cpu.pend = s.cpu.pend := rfl
@[simp] theorem bump_irq : (State.bump s).cpu.irq = s.cpu.irq := rfl
@[simp] theorem bump_sb : (State.bump s).cpu.sb = s.cpu.sb := rfl
@[simp] theorem bump_tbiIn : (State.bump s).cpu.tbiIn = s.cpu.tbiIn := rfl
@[simp] theorem bump_itb : (State.bump s).cpu.itb = s.cpu.itb := rfl
@[simp] theorem bump_dtb : (State.bump s).cpu.dtb = s.cpu.dtb := rfl
@[simp] theorem bump_icache : (State.bump s).cpu.icache = s.cpu.icache := rfl
@[simp] theorem bump_l1d : (State.bump s).cpu.l1d = s.cpu.l1d := rfl
@[simp] theorem bump_icHist : (State.bump s).cpu.icHist = s.cpu.icHist := rfl
@[simp] theorem bump_cfg : (State.bump s).cfg = s.cfg := rfl
@[simp] theorem bump_peers : (State.bump s).peers = s.peers := rfl
@[simp] theorem bump_mem : (State.bump s).mem = s.mem := rfl
@[simp] theorem bump_rom : (State.bump s).rom = s.rom := rfl
@[simp] theorem bump_regions : (State.bump s).regions = s.regions := rfl
@[simp] theorem bump_mmioLog : (State.bump s).mmioLog = s.mmioLog := rfl
@[simp] theorem bump_l2 : (State.bump s).l2 = s.l2 := rfl
@[simp] theorem bump_l3 : (State.bump s).l3 = s.l3 := rfl
@[simp] theorem bump_draws : (State.bump s).draws = s.draws + 1 := rfl

@[simp] theorem raiseConds_whami (c : Conds) : (State.raiseConds s c).cpu.whami = s.cpu.whami := rfl
@[simp] theorem raiseConds_regs (c : Conds) : (State.raiseConds s c).cpu.regs = s.cpu.regs := rfl
@[simp] theorem raiseConds_fregs (c : Conds) : (State.raiseConds s c).cpu.fregs = s.cpu.fregs := rfl
@[simp] theorem raiseConds_pc (c : Conds) : (State.raiseConds s c).cpu.pc = s.cpu.pc := rfl
@[simp] theorem raiseConds_ps (c : Conds) : (State.raiseConds s c).cpu.ps = s.cpu.ps := rfl
@[simp] theorem raiseConds_fpcr (c : Conds) : (State.raiseConds s c).cpu.fpcr = Fpcr.raise s.cpu.fpcr c := rfl
@[simp] theorem raiseConds_excAddr (c : Conds) : (State.raiseConds s c).cpu.excAddr = s.cpu.excAddr := rfl
@[simp] theorem raiseConds_excPs (c : Conds) : (State.raiseConds s c).cpu.excPs = s.cpu.excPs := rfl
@[simp] theorem raiseConds_palBase (c : Conds) : (State.raiseConds s c).cpu.palBase = s.cpu.palBase := rfl
@[simp] theorem raiseConds_mmStat (c : Conds) : (State.raiseConds s c).cpu.mmStat = s.cpu.mmStat := rfl
@[simp] theorem raiseConds_va (c : Conds) : (State.raiseConds s c).cpu.va = s.cpu.va := rfl
@[simp] theorem raiseConds_ptbr (c : Conds) : (State.raiseConds s c).cpu.ptbr = s.cpu.ptbr := rfl
@[simp] theorem raiseConds_pcbb (c : Conds) : (State.raiseConds s c).cpu.pcbb = s.cpu.pcbb := rfl
@[simp] theorem raiseConds_itbAsn (c : Conds) : (State.raiseConds s c).cpu.itbAsn = s.cpu.itbAsn := rfl
@[simp] theorem raiseConds_dtbAsn (c : Conds) : (State.raiseConds s c).cpu.dtbAsn = s.cpu.dtbAsn := rfl
@[simp] theorem raiseConds_unique (c : Conds) : (State.raiseConds s c).cpu.unique = s.cpu.unique := rfl
@[simp] theorem raiseConds_intid (c : Conds) : (State.raiseConds s c).cpu.intid = s.cpu.intid := rfl
@[simp] theorem raiseConds_excSum (c : Conds) : (State.raiseConds s c).cpu.excSum = s.cpu.excSum := rfl
@[simp] theorem raiseConds_excMask (c : Conds) : (State.raiseConds s c).cpu.excMask = s.cpu.excMask := rfl
@[simp] theorem raiseConds_cc (c : Conds) : (State.raiseConds s c).cpu.cc = s.cpu.cc := rfl
@[simp] theorem raiseConds_mmuCtl (c : Conds) : (State.raiseConds s c).cpu.mmuCtl = s.cpu.mmuCtl := rfl
@[simp] theorem raiseConds_mces (c : Conds) : (State.raiseConds s c).cpu.mces = s.cpu.mces := rfl
@[simp] theorem raiseConds_lockFlag (c : Conds) : (State.raiseConds s c).cpu.lockFlag = s.cpu.lockFlag := rfl
@[simp] theorem raiseConds_lockLine (c : Conds) : (State.raiseConds s c).cpu.lockLine = s.cpu.lockLine := rfl
@[simp] theorem raiseConds_intrFlag (c : Conds) : (State.raiseConds s c).cpu.intrFlag = s.cpu.intrFlag := rfl
@[simp] theorem raiseConds_halted (c : Conds) : (State.raiseConds s c).cpu.halted = s.cpu.halted := rfl
@[simp] theorem raiseConds_sleeping (c : Conds) : (State.raiseConds s c).cpu.sleeping = s.cpu.sleeping := rfl
@[simp] theorem raiseConds_haltReq (c : Conds) : (State.raiseConds s c).cpu.haltReq = s.cpu.haltReq := rfl
@[simp] theorem raiseConds_palBaseLocked (c : Conds) : (State.raiseConds s c).cpu.palBaseLocked = s.cpu.palBaseLocked := rfl
@[simp] theorem raiseConds_pend (c : Conds) : (State.raiseConds s c).cpu.pend = s.cpu.pend := rfl
@[simp] theorem raiseConds_irq (c : Conds) : (State.raiseConds s c).cpu.irq = s.cpu.irq := rfl
@[simp] theorem raiseConds_sb (c : Conds) : (State.raiseConds s c).cpu.sb = s.cpu.sb := rfl
@[simp] theorem raiseConds_tbiIn (c : Conds) : (State.raiseConds s c).cpu.tbiIn = s.cpu.tbiIn := rfl
@[simp] theorem raiseConds_itb (c : Conds) : (State.raiseConds s c).cpu.itb = s.cpu.itb := rfl
@[simp] theorem raiseConds_dtb (c : Conds) : (State.raiseConds s c).cpu.dtb = s.cpu.dtb := rfl
@[simp] theorem raiseConds_icache (c : Conds) : (State.raiseConds s c).cpu.icache = s.cpu.icache := rfl
@[simp] theorem raiseConds_l1d (c : Conds) : (State.raiseConds s c).cpu.l1d = s.cpu.l1d := rfl
@[simp] theorem raiseConds_icHist (c : Conds) : (State.raiseConds s c).cpu.icHist = s.cpu.icHist := rfl
@[simp] theorem raiseConds_cfg (c : Conds) : (State.raiseConds s c).cfg = s.cfg := rfl
@[simp] theorem raiseConds_peers (c : Conds) : (State.raiseConds s c).peers = s.peers := rfl
@[simp] theorem raiseConds_mem (c : Conds) : (State.raiseConds s c).mem = s.mem := rfl
@[simp] theorem raiseConds_rom (c : Conds) : (State.raiseConds s c).rom = s.rom := rfl
@[simp] theorem raiseConds_regions (c : Conds) : (State.raiseConds s c).regions = s.regions := rfl
@[simp] theorem raiseConds_mmioLog (c : Conds) : (State.raiseConds s c).mmioLog = s.mmioLog := rfl
@[simp] theorem raiseConds_l2 (c : Conds) : (State.raiseConds s c).l2 = s.l2 := rfl
@[simp] theorem raiseConds_l3 (c : Conds) : (State.raiseConds s c).l3 = s.l3 := rfl
@[simp] theorem raiseConds_draws (c : Conds) : (State.raiseConds s c).draws = s.draws := rfl

@[simp] theorem recordTrap_whami (a b : Word) : (State.recordTrap s a b).cpu.whami = s.cpu.whami := rfl
@[simp] theorem recordTrap_regs (a b : Word) : (State.recordTrap s a b).cpu.regs = s.cpu.regs := rfl
@[simp] theorem recordTrap_fregs (a b : Word) : (State.recordTrap s a b).cpu.fregs = s.cpu.fregs := rfl
@[simp] theorem recordTrap_pc (a b : Word) : (State.recordTrap s a b).cpu.pc = s.cpu.pc := rfl
@[simp] theorem recordTrap_ps (a b : Word) : (State.recordTrap s a b).cpu.ps = s.cpu.ps := rfl
@[simp] theorem recordTrap_fpcr (a b : Word) : (State.recordTrap s a b).cpu.fpcr = s.cpu.fpcr := rfl
@[simp] theorem recordTrap_excAddr (a b : Word) : (State.recordTrap s a b).cpu.excAddr = s.cpu.excAddr := rfl
@[simp] theorem recordTrap_excPs (a b : Word) : (State.recordTrap s a b).cpu.excPs = s.cpu.excPs := rfl
@[simp] theorem recordTrap_palBase (a b : Word) : (State.recordTrap s a b).cpu.palBase = s.cpu.palBase := rfl
@[simp] theorem recordTrap_mmStat (a b : Word) : (State.recordTrap s a b).cpu.mmStat = s.cpu.mmStat := rfl
@[simp] theorem recordTrap_va (a b : Word) : (State.recordTrap s a b).cpu.va = s.cpu.va := rfl
@[simp] theorem recordTrap_ptbr (a b : Word) : (State.recordTrap s a b).cpu.ptbr = s.cpu.ptbr := rfl
@[simp] theorem recordTrap_pcbb (a b : Word) : (State.recordTrap s a b).cpu.pcbb = s.cpu.pcbb := rfl
@[simp] theorem recordTrap_itbAsn (a b : Word) : (State.recordTrap s a b).cpu.itbAsn = s.cpu.itbAsn := rfl
@[simp] theorem recordTrap_dtbAsn (a b : Word) : (State.recordTrap s a b).cpu.dtbAsn = s.cpu.dtbAsn := rfl
@[simp] theorem recordTrap_unique (a b : Word) : (State.recordTrap s a b).cpu.unique = s.cpu.unique := rfl
@[simp] theorem recordTrap_intid (a b : Word) : (State.recordTrap s a b).cpu.intid = s.cpu.intid := rfl
@[simp] theorem recordTrap_excSum (a b : Word) : (State.recordTrap s a b).cpu.excSum = s.cpu.excSum := rfl
@[simp] theorem recordTrap_excMask (a b : Word) : (State.recordTrap s a b).cpu.excMask = s.cpu.excMask := rfl
@[simp] theorem recordTrap_cc (a b : Word) : (State.recordTrap s a b).cpu.cc = s.cpu.cc := rfl
@[simp] theorem recordTrap_mmuCtl (a b : Word) : (State.recordTrap s a b).cpu.mmuCtl = s.cpu.mmuCtl := rfl
@[simp] theorem recordTrap_mces (a b : Word) : (State.recordTrap s a b).cpu.mces = s.cpu.mces := rfl
@[simp] theorem recordTrap_lockFlag (a b : Word) : (State.recordTrap s a b).cpu.lockFlag = s.cpu.lockFlag := rfl
@[simp] theorem recordTrap_lockLine (a b : Word) : (State.recordTrap s a b).cpu.lockLine = s.cpu.lockLine := rfl
@[simp] theorem recordTrap_intrFlag (a b : Word) : (State.recordTrap s a b).cpu.intrFlag = s.cpu.intrFlag := rfl
@[simp] theorem recordTrap_halted (a b : Word) : (State.recordTrap s a b).cpu.halted = s.cpu.halted := rfl
@[simp] theorem recordTrap_sleeping (a b : Word) : (State.recordTrap s a b).cpu.sleeping = s.cpu.sleeping := rfl
@[simp] theorem recordTrap_haltReq (a b : Word) : (State.recordTrap s a b).cpu.haltReq = s.cpu.haltReq := rfl
@[simp] theorem recordTrap_palBaseLocked (a b : Word) : (State.recordTrap s a b).cpu.palBaseLocked = s.cpu.palBaseLocked := rfl
@[simp] theorem recordTrap_pend (a b : Word) : (State.recordTrap s a b).cpu.pend = Pend.record s.cpu.pend a b := rfl
@[simp] theorem recordTrap_irq (a b : Word) : (State.recordTrap s a b).cpu.irq = s.cpu.irq := rfl
@[simp] theorem recordTrap_sb (a b : Word) : (State.recordTrap s a b).cpu.sb = s.cpu.sb := rfl
@[simp] theorem recordTrap_tbiIn (a b : Word) : (State.recordTrap s a b).cpu.tbiIn = s.cpu.tbiIn := rfl
@[simp] theorem recordTrap_itb (a b : Word) : (State.recordTrap s a b).cpu.itb = s.cpu.itb := rfl
@[simp] theorem recordTrap_dtb (a b : Word) : (State.recordTrap s a b).cpu.dtb = s.cpu.dtb := rfl
@[simp] theorem recordTrap_icache (a b : Word) : (State.recordTrap s a b).cpu.icache = s.cpu.icache := rfl
@[simp] theorem recordTrap_l1d (a b : Word) : (State.recordTrap s a b).cpu.l1d = s.cpu.l1d := rfl
@[simp] theorem recordTrap_icHist (a b : Word) : (State.recordTrap s a b).cpu.icHist = s.cpu.icHist := rfl
@[simp] theorem recordTrap_cfg (a b : Word) : (State.recordTrap s a b).cfg = s.cfg := rfl
@[simp] theorem recordTrap_peers (a b : Word) : (State.recordTrap s a b).peers = s.peers := rfl
@[simp] theorem recordTrap_mem (a b : Word) : (State.recordTrap s a b).mem = s.mem := rfl
@[simp] theorem recordTrap_rom (a b : Word) : (State.recordTrap s a b).rom = s.rom := rfl
@[simp] theorem recordTrap_regions (a b : Word) : (State.recordTrap s a b).regions = s.regions := rfl
@[simp] theorem recordTrap_mmioLog (a b : Word) : (State.recordTrap s a b).mmioLog = s.mmioLog := rfl
@[simp] theorem recordTrap_l2 (a b : Word) : (State.recordTrap s a b).l2 = s.l2 := rfl
@[simp] theorem recordTrap_l3 (a b : Word) : (State.recordTrap s a b).l3 = s.l3 := rfl
@[simp] theorem recordTrap_draws (a b : Word) : (State.recordTrap s a b).draws = s.draws := rfl

@[simp] theorem finishX_whami (r : Reg) (v : Word) : (State.finishX s r v).cpu.whami = s.cpu.whami := rfl
@[simp] theorem finishX_regs (r : Reg) (v : Word) : (State.finishX s r v).cpu.regs = s.cpu.regs.setIfInBounds r.toNat v := rfl
@[simp] theorem finishX_fregs (r : Reg) (v : Word) : (State.finishX s r v).cpu.fregs = s.cpu.fregs := rfl
@[simp] theorem finishX_pc (r : Reg) (v : Word) : (State.finishX s r v).cpu.pc = s.cpu.pc + 4 := rfl
@[simp] theorem finishX_ps (r : Reg) (v : Word) : (State.finishX s r v).cpu.ps = s.cpu.ps := rfl
@[simp] theorem finishX_fpcr (r : Reg) (v : Word) : (State.finishX s r v).cpu.fpcr = s.cpu.fpcr := rfl
@[simp] theorem finishX_excAddr (r : Reg) (v : Word) : (State.finishX s r v).cpu.excAddr = s.cpu.excAddr := rfl
@[simp] theorem finishX_excPs (r : Reg) (v : Word) : (State.finishX s r v).cpu.excPs = s.cpu.excPs := rfl
@[simp] theorem finishX_palBase (r : Reg) (v : Word) : (State.finishX s r v).cpu.palBase = s.cpu.palBase := rfl
@[simp] theorem finishX_mmStat (r : Reg) (v : Word) : (State.finishX s r v).cpu.mmStat = s.cpu.mmStat := rfl
@[simp] theorem finishX_va (r : Reg) (v : Word) : (State.finishX s r v).cpu.va = s.cpu.va := rfl
@[simp] theorem finishX_ptbr (r : Reg) (v : Word) : (State.finishX s r v).cpu.ptbr = s.cpu.ptbr := rfl
@[simp] theorem finishX_pcbb (r : Reg) (v : Word) : (State.finishX s r v).cpu.pcbb = s.cpu.pcbb := rfl
@[simp] theorem finishX_itbAsn (r : Reg) (v : Word) : (State.finishX s r v).cpu.itbAsn = s.cpu.itbAsn := rfl
@[simp] theorem finishX_dtbAsn (r : Reg) (v : Word) : (State.finishX s r v).cpu.dtbAsn = s.cpu.dtbAsn := rfl
@[simp] theorem finishX_unique (r : Reg) (v : Word) : (State.finishX s r v).cpu.unique = s.cpu.unique := rfl
@[simp] theorem finishX_intid (r : Reg) (v : Word) : (State.finishX s r v).cpu.intid = s.cpu.intid := rfl
@[simp] theorem finishX_excSum (r : Reg) (v : Word) : (State.finishX s r v).cpu.excSum = s.cpu.excSum := rfl
@[simp] theorem finishX_excMask (r : Reg) (v : Word) : (State.finishX s r v).cpu.excMask = s.cpu.excMask := rfl
@[simp] theorem finishX_cc (r : Reg) (v : Word) : (State.finishX s r v).cpu.cc = s.cpu.cc := rfl
@[simp] theorem finishX_mmuCtl (r : Reg) (v : Word) : (State.finishX s r v).cpu.mmuCtl = s.cpu.mmuCtl := rfl
@[simp] theorem finishX_mces (r : Reg) (v : Word) : (State.finishX s r v).cpu.mces = s.cpu.mces := rfl
@[simp] theorem finishX_lockFlag (r : Reg) (v : Word) : (State.finishX s r v).cpu.lockFlag = s.cpu.lockFlag := rfl
@[simp] theorem finishX_lockLine (r : Reg) (v : Word) : (State.finishX s r v).cpu.lockLine = s.cpu.lockLine := rfl
@[simp] theorem finishX_intrFlag (r : Reg) (v : Word) : (State.finishX s r v).cpu.intrFlag = s.cpu.intrFlag := rfl
@[simp] theorem finishX_halted (r : Reg) (v : Word) : (State.finishX s r v).cpu.halted = s.cpu.halted := rfl
@[simp] theorem finishX_sleeping (r : Reg) (v : Word) : (State.finishX s r v).cpu.sleeping = s.cpu.sleeping := rfl
@[simp] theorem finishX_haltReq (r : Reg) (v : Word) : (State.finishX s r v).cpu.haltReq = s.cpu.haltReq := rfl
@[simp] theorem finishX_palBaseLocked (r : Reg) (v : Word) : (State.finishX s r v).cpu.palBaseLocked = s.cpu.palBaseLocked := rfl
@[simp] theorem finishX_pend (r : Reg) (v : Word) : (State.finishX s r v).cpu.pend = s.cpu.pend := rfl
@[simp] theorem finishX_irq (r : Reg) (v : Word) : (State.finishX s r v).cpu.irq = s.cpu.irq := rfl
@[simp] theorem finishX_sb (r : Reg) (v : Word) : (State.finishX s r v).cpu.sb = s.cpu.sb := rfl
@[simp] theorem finishX_tbiIn (r : Reg) (v : Word) : (State.finishX s r v).cpu.tbiIn = s.cpu.tbiIn := rfl
@[simp] theorem finishX_itb (r : Reg) (v : Word) : (State.finishX s r v).cpu.itb = s.cpu.itb := rfl
@[simp] theorem finishX_dtb (r : Reg) (v : Word) : (State.finishX s r v).cpu.dtb = s.cpu.dtb := rfl
@[simp] theorem finishX_icache (r : Reg) (v : Word) : (State.finishX s r v).cpu.icache = s.cpu.icache := rfl
@[simp] theorem finishX_l1d (r : Reg) (v : Word) : (State.finishX s r v).cpu.l1d = s.cpu.l1d := rfl
@[simp] theorem finishX_icHist (r : Reg) (v : Word) : (State.finishX s r v).cpu.icHist = s.cpu.icHist := rfl
@[simp] theorem finishX_cfg (r : Reg) (v : Word) : (State.finishX s r v).cfg = s.cfg := rfl
@[simp] theorem finishX_peers (r : Reg) (v : Word) : (State.finishX s r v).peers = s.peers := rfl
@[simp] theorem finishX_mem (r : Reg) (v : Word) : (State.finishX s r v).mem = s.mem := rfl
@[simp] theorem finishX_rom (r : Reg) (v : Word) : (State.finishX s r v).rom = s.rom := rfl
@[simp] theorem finishX_regions (r : Reg) (v : Word) : (State.finishX s r v).regions = s.regions := rfl
@[simp] theorem finishX_mmioLog (r : Reg) (v : Word) : (State.finishX s r v).mmioLog = s.mmioLog := rfl
@[simp] theorem finishX_l2 (r : Reg) (v : Word) : (State.finishX s r v).l2 = s.l2 := rfl
@[simp] theorem finishX_l3 (r : Reg) (v : Word) : (State.finishX s r v).l3 = s.l3 := rfl
@[simp] theorem finishX_draws (r : Reg) (v : Word) : (State.finishX s r v).draws = s.draws := rfl

@[simp] theorem finishF_whami (r : Reg) (v : Word) : (State.finishF s r v).cpu.whami = s.cpu.whami := rfl
@[simp] theorem finishF_regs (r : Reg) (v : Word) : (State.finishF s r v).cpu.regs = s.cpu.regs := rfl
@[simp] theorem finishF_fregs (r : Reg) (v : Word) : (State.finishF s r v).cpu.fregs = s.cpu.fregs.setIfInBounds r.toNat v := rfl
@[simp] theorem finishF_pc (r : Reg) (v : Word) : (State.finishF s r v).cpu.pc = s.cpu.pc + 4 := rfl
@[simp] theorem finishF_ps (r : Reg) (v : Word) : (State.finishF s r v).cpu.ps = s.cpu.ps := rfl
@[simp] theorem finishF_fpcr (r : Reg) (v : Word) : (State.finishF s r v).cpu.fpcr = s.cpu.fpcr := rfl
@[simp] theorem finishF_excAddr (r : Reg) (v : Word) : (State.finishF s r v).cpu.excAddr = s.cpu.excAddr := rfl
@[simp] theorem finishF_excPs (r : Reg) (v : Word) : (State.finishF s r v).cpu.excPs = s.cpu.excPs := rfl
@[simp] theorem finishF_palBase (r : Reg) (v : Word) : (State.finishF s r v).cpu.palBase = s.cpu.palBase := rfl
@[simp] theorem finishF_mmStat (r : Reg) (v : Word) : (State.finishF s r v).cpu.mmStat = s.cpu.mmStat := rfl
@[simp] theorem finishF_va (r : Reg) (v : Word) : (State.finishF s r v).cpu.va = s.cpu.va := rfl
@[simp] theorem finishF_ptbr (r : Reg) (v : Word) : (State.finishF s r v).cpu.ptbr = s.cpu.ptbr := rfl
@[simp] theorem finishF_pcbb (r : Reg) (v : Word) : (State.finishF s r v).cpu.pcbb = s.cpu.pcbb := rfl
@[simp] theorem finishF_itbAsn (r : Reg) (v : Word) : (State.finishF s r v).cpu.itbAsn = s.cpu.itbAsn := rfl
@[simp] theorem finishF_dtbAsn (r : Reg) (v : Word) : (State.finishF s r v).cpu.dtbAsn = s.cpu.dtbAsn := rfl
@[simp] theorem finishF_unique (r : Reg) (v : Word) : (State.finishF s r v).cpu.unique = s.cpu.unique := rfl
@[simp] theorem finishF_intid (r : Reg) (v : Word) : (State.finishF s r v).cpu.intid = s.cpu.intid := rfl
@[simp] theorem finishF_excSum (r : Reg) (v : Word) : (State.finishF s r v).cpu.excSum = s.cpu.excSum := rfl
@[simp] theorem finishF_excMask (r : Reg) (v : Word) : (State.finishF s r v).cpu.excMask = s.cpu.excMask := rfl
@[simp] theorem finishF_cc (r : Reg) (v : Word) : (State.finishF s r v).cpu.cc = s.cpu.cc := rfl
@[simp] theorem finishF_mmuCtl (r : Reg) (v : Word) : (State.finishF s r v).cpu.mmuCtl = s.cpu.mmuCtl := rfl
@[simp] theorem finishF_mces (r : Reg) (v : Word) : (State.finishF s r v).cpu.mces = s.cpu.mces := rfl
@[simp] theorem finishF_lockFlag (r : Reg) (v : Word) : (State.finishF s r v).cpu.lockFlag = s.cpu.lockFlag := rfl
@[simp] theorem finishF_lockLine (r : Reg) (v : Word) : (State.finishF s r v).cpu.lockLine = s.cpu.lockLine := rfl
@[simp] theorem finishF_intrFlag (r : Reg) (v : Word) : (State.finishF s r v).cpu.intrFlag = s.cpu.intrFlag := rfl
@[simp] theorem finishF_halted (r : Reg) (v : Word) : (State.finishF s r v).cpu.halted = s.cpu.halted := rfl
@[simp] theorem finishF_sleeping (r : Reg) (v : Word) : (State.finishF s r v).cpu.sleeping = s.cpu.sleeping := rfl
@[simp] theorem finishF_haltReq (r : Reg) (v : Word) : (State.finishF s r v).cpu.haltReq = s.cpu.haltReq := rfl
@[simp] theorem finishF_palBaseLocked (r : Reg) (v : Word) : (State.finishF s r v).cpu.palBaseLocked = s.cpu.palBaseLocked := rfl
@[simp] theorem finishF_pend (r : Reg) (v : Word) : (State.finishF s r v).cpu.pend = s.cpu.pend := rfl
@[simp] theorem finishF_irq (r : Reg) (v : Word) : (State.finishF s r v).cpu.irq = s.cpu.irq := rfl
@[simp] theorem finishF_sb (r : Reg) (v : Word) : (State.finishF s r v).cpu.sb = s.cpu.sb := rfl
@[simp] theorem finishF_tbiIn (r : Reg) (v : Word) : (State.finishF s r v).cpu.tbiIn = s.cpu.tbiIn := rfl
@[simp] theorem finishF_itb (r : Reg) (v : Word) : (State.finishF s r v).cpu.itb = s.cpu.itb := rfl
@[simp] theorem finishF_dtb (r : Reg) (v : Word) : (State.finishF s r v).cpu.dtb = s.cpu.dtb := rfl
@[simp] theorem finishF_icache (r : Reg) (v : Word) : (State.finishF s r v).cpu.icache = s.cpu.icache := rfl
@[simp] theorem finishF_l1d (r : Reg) (v : Word) : (State.finishF s r v).cpu.l1d = s.cpu.l1d := rfl
@[simp] theorem finishF_icHist (r : Reg) (v : Word) : (State.finishF s r v).cpu.icHist = s.cpu.icHist := rfl
@[simp] theorem finishF_cfg (r : Reg) (v : Word) : (State.finishF s r v).cfg = s.cfg := rfl
@[simp] theorem finishF_peers (r : Reg) (v : Word) : (State.finishF s r v).peers = s.peers := rfl
@[simp] theorem finishF_mem (r : Reg) (v : Word) : (State.finishF s r v).mem = s.mem := rfl
@[simp] theorem finishF_rom (r : Reg) (v : Word) : (State.finishF s r v).rom = s.rom := rfl
@[simp] theorem finishF_regions (r : Reg) (v : Word) : (State.finishF s r v).regions = s.regions := rfl
@[simp] theorem finishF_mmioLog (r : Reg) (v : Word) : (State.finishF s r v).mmioLog = s.mmioLog := rfl
@[simp] theorem finishF_l2 (r : Reg) (v : Word) : (State.finishF s r v).l2 = s.l2 := rfl
@[simp] theorem finishF_l3 (r : Reg) (v : Word) : (State.finishF s r v).l3 = s.l3 := rfl
@[simp] theorem finishF_draws (r : Reg) (v : Word) : (State.finishF s r v).draws = s.draws := rfl

/-- Reading an integer register after a write (10_state.md R50, R51). -/
theorem x_setX (r q : Reg) (v : Word) :
    State.x (State.setX s r v) q = if q = r then (if r = 31 then 0 else v) else State.x s q := by
  unfold State.x State.setX
  simp only [Vector.getElem?_setIfInBounds]
  by_cases h : q = r
  · subst h
    by_cases h31 : q = 31
    · subst h31; simp
    · have : q.toNat < 31 := by
        have := q.isLt
        have : q.toNat ≠ 31 := fun e => h31 (BitVec.eq_of_toNat_eq e)
        omega
      simp only [if_true, this, Option.getD_some, if_neg h31]
  · have hne : ¬ r.toNat = q.toNat := fun e => h (BitVec.eq_of_toNat_eq e.symm)
    simp [h, hne]

/-- Reading a floating register after a write (10_state.md R54). -/
theorem f_setF (r q : Reg) (v : Word) :
    State.f (State.setF s r v) q = if q = r then (if r = 31 then 0 else v) else State.f s q := by
  unfold State.f State.setF
  simp only [Vector.getElem?_setIfInBounds]
  by_cases h : q = r
  · subst h
    by_cases h31 : q = 31
    · subst h31; simp
    · have : q.toNat < 31 := by
        have := q.isLt
        have : q.toNat ≠ 31 := fun e => h31 (BitVec.eq_of_toNat_eq e)
        omega
      simp only [if_true, this, Option.getD_some, if_neg h31]
  · have hne : ¬ r.toNat = q.toNat := fun e => h (BitVec.eq_of_toNat_eq e.symm)
    simp [h, hne]

/-- R31 reads 0 (10_state.md R50). -/
@[simp] theorem x_r31 : State.x s 31 = 0 := by simp [State.x]

/-- F31 reads 0 (10_state.md R54). -/
@[simp] theorem f_r31 : State.f s 31 = 0 := by simp [State.f]

/-- A write to R31 changes nothing (10_state.md R51). -/
@[simp] theorem setX_r31 (v : Word) : State.setX s 31 v = s := by
  have : s.cpu.regs.setIfInBounds 31 v = s.cpu.regs := by
    apply Vector.ext
    intro i hi
    rw [Vector.getElem_setIfInBounds]
    have : ¬ 31 = i := by omega
    simp [this]
  simp [State.setX, this]

/-- A write to F31 changes nothing (10_state.md R54). -/
@[simp] theorem setF_r31 (v : Word) : State.setF s 31 v = s := by
  have : s.cpu.fregs.setIfInBounds 31 v = s.cpu.fregs := by
    apply Vector.ext
    intro i hi
    rw [Vector.getElem_setIfInBounds]
    have : ¬ 31 = i := by omega
    simp [this]
  simp [State.setF, this]

@[simp] theorem x_setF (r q : Reg) (v : Word) : State.x (State.setF s r v) q = State.x s q := rfl
@[simp] theorem f_setX (r q : Reg) (v : Word) : State.f (State.setX s r v) q = State.f s q := rfl
@[simp] theorem x_setPc (q : Reg) (v : Word) : State.x (State.setPc s v) q = State.x s q := rfl
@[simp] theorem f_setPc (q : Reg) (v : Word) : State.f (State.setPc s v) q = State.f s q := rfl
@[simp] theorem x_advance (q : Reg) : State.x (State.advance s) q = State.x s q := rfl
@[simp] theorem f_advance (q : Reg) : State.f (State.advance s) q = State.f s q := rfl
@[simp] theorem x_bump (q : Reg) : State.x (State.bump s) q = State.x s q := rfl
@[simp] theorem f_bump (q : Reg) : State.f (State.bump s) q = State.f s q := rfl
@[simp] theorem x_raiseConds (q : Reg) (c : Conds) : State.x (State.raiseConds s c) q = State.x s q := rfl
@[simp] theorem f_raiseConds (q : Reg) (c : Conds) : State.f (State.raiseConds s c) q = State.f s q := rfl
@[simp] theorem x_recordTrap (q : Reg) (a b : Word) : State.x (State.recordTrap s a b) q = State.x s q := rfl
@[simp] theorem f_recordTrap (q : Reg) (a b : Word) : State.f (State.recordTrap s a b) q = State.f s q := rfl

/-- Reading an integer register after the end of an instruction that wrote one. -/
theorem x_finishX (r q : Reg) (v : Word) :
    State.x (State.finishX s r v) q = if q = r then (if r = 31 then 0 else v) else State.x s q := x_setX s r q v

/-- Reading a floating register after the end of an instruction that wrote one. -/
theorem f_finishF (r q : Reg) (v : Word) :
    State.f (State.finishF s r v) q = if q = r then (if r = 31 then 0 else v) else State.f s q := f_setF s r q v

@[simp] theorem f_finishX (r q : Reg) (v : Word) : State.f (State.finishX s r v) q = State.f s q := rfl
@[simp] theorem x_finishF (r q : Reg) (v : Word) : State.x (State.finishF s r v) q = State.x s q := rfl

end Sys2Proof.Machine
end

