-- ==== Sys2Proof/Laws/Entry.lean ====
section
/-! SUPPORT. What a PAL entry does (60_exceptions.md R830), for each way into it, and what the outcome combinators answer. -/

namespace Sys2Proof.Machine

/-- The drained state agrees with the state on every register. -/
theorem core_drainAll (s : State) : Cpu.core (State.drainAll s).cpu = Cpu.core s.cpu := (kept_drainAll s).cpu

/-- THE PAL ENTRY (60_exceptions.md R830), once: the CPU's registers after it, its memory system apart. -/
theorem core_enterPal (s : State) (saved target : Word) :
    Cpu.core (State.enterPal s saved target).cpu
      = Cpu.core { s.cpu with excAddr := saved, excPs := s.cpu.ps, ps := s.cpu.ps ||| psPalm, pc := target } := by
  have h := core_drainAll s
  have hps := (kept_drainAll s).ps
  unfold State.enterPal
  dsimp only
  rw [hps]
  generalize (State.drainAll s).cpu = c at h
  have h2 : Cpu.core { Cpu.core c with excAddr := saved, excPs := s.cpu.ps, ps := s.cpu.ps ||| psPalm, pc := target }
      = Cpu.core { Cpu.core s.cpu with excAddr := saved, excPs := s.cpu.ps, ps := s.cpu.ps ||| psPalm, pc := target } := by
    rw [h]
  exact h2

/-- A PAL entry empties the store buffer. -/
@[simp] theorem sb_enterPal (s : State) (a b : Word) : (State.enterPal s a b).cpu.sb = [] := sb_drainAll s

/-- A PAL entry loses the reservation (20_memory.md R182). -/
@[simp] theorem lockFlag_enterPal (s : State) (a b : Word) : (State.enterPal s a b).cpu.lockFlag = false := rfl

/-- A PAL entry goes to its target. -/
@[simp] theorem pc_enterPal (s : State) (a b : Word) : (State.enterPal s a b).cpu.pc = b := rfl

/-- A PAL entry saves the pc. -/
@[simp] theorem excAddr_enterPal (s : State) (a b : Word) : (State.enterPal s a b).cpu.excAddr = a := rfl

/-- A PAL entry leaves the memory the drained state has. -/
@[simp] theorem mem_enterPal (s : State) (a b : Word) : (State.enterPal s a b).mem = (State.drainAll s).mem := rfl

/-- A PAL entry changes no byte this CPU's loads read. -/
theorem sameBytes_enterPal (s : State) (a b : Word) (h : State.memOk s = true) :
    sameBytes s (State.enterPal s a b) := sameBytes_drainAll s h

/-- A PAL entry keeps the memory's form. -/
theorem memOk_enterPal (s : State) (a b : Word) (h : State.memOk s = true) :
    State.memOk (State.enterPal s a b) = true := (kept_drainAll s).mem h

/-- A PAL entry leaves the other CPUs' registers alone. -/
theorem peers_enterPal (s : State) (a b : Word) :
    (State.enterPal s a b).peers.map Cpu.core = s.peers.map Cpu.core := (kept_drainAll s).peers

/-- What every way into PAL leaves alone: the register files, the FPCR, the flags that no entry writes, the parameters, the ROM
and the MMIO regions. -/
structure Entered (s t : State) : Prop where
  regs : t.cpu.regs = s.cpu.regs
  fregs : t.cpu.fregs = s.cpu.fregs
  fpcr : t.cpu.fpcr = s.cpu.fpcr
  intrFlag : t.cpu.intrFlag = s.cpu.intrFlag
  peers : t.peers.map Cpu.core = s.peers.map Cpu.core
  cfg : t.cfg = s.cfg
  rom : t.rom = s.rom
  regions : t.regions = s.regions
  mem : State.memOk s = true → State.memOk t = true
  bytes : State.memOk s = true → sameBytes s t

/-- A PAL entry. -/
theorem entered_enterPal (s : State) (a b : Word) : Entered s (State.enterPal s a b) where
  regs := congrArg (fun c => c.regs) (core_enterPal s a b)
  fregs := congrArg (fun c => c.fregs) (core_enterPal s a b)
  fpcr := congrArg (fun c => c.fpcr) (core_enterPal s a b)
  intrFlag := congrArg (fun c => c.intrFlag) (core_enterPal s a b)
  peers := peers_enterPal s a b
  cfg := (kept_drainAll s).cfg
  rom := (kept_drainAll s).rom
  regions := (kept_drainAll s).regions
  mem := memOk_enterPal s a b
  bytes := sameBytes_enterPal s a b

/-- The entry of a class after a change of the exception registers only. -/
theorem Entered.of_regs {s u t : State} (h : Entered u t) (hc : u = { s with cpu := u.cpu }) (h1 : u.cpu.regs = s.cpu.regs)
    (h2 : u.cpu.fregs = s.cpu.fregs) (h3 : u.cpu.fpcr = s.cpu.fpcr) (h4 : u.cpu.intrFlag = s.cpu.intrFlag)
    (h5 : u.cpu.sb = s.cpu.sb) : Entered s t := by
  have hp : u.peers = s.peers := by rw [hc]
  have hm : u.mem = s.mem := by rw [hc]
  have hg : u.cfg = s.cfg := by rw [hc]
  have hr : u.rom = s.rom := by rw [hc]
  have hd : u.regions = s.regions := by rw [hc]
  refine ⟨h.regs.trans h1, h.fregs.trans h2, h.fpcr.trans h3, h.intrFlag.trans h4, ?_, h.cfg.trans hg, h.rom.trans hr,
    h.regions.trans hd, ?_, ?_⟩
  · rw [h.peers, hp]
  · intro hk; exact h.mem (by simpa [State.memOk, hm] using hk)
  · intro hk a
    rw [h.bytes (by simpa [State.memOk, hm] using hk) a]
    simp [State.loadByte, hm, h5]

/-- The entry of an arithmetic trap. -/
theorem entered_deliverArith (s : State) : Entered s (State.deliverArith s) :=
  (entered_enterPal _ _ _).of_regs rfl rfl rfl rfl rfl rfl

/-- A machine check. -/
theorem entered_machineCheck (s : State) (c : BitVec 8) : Entered s (State.machineCheck s c) := by
  unfold State.machineCheck
  split
  · exact ⟨rfl, rfl, rfl, rfl, rfl, rfl, rfl, rfl, id, fun _ => sameBytes_of_eq rfl rfl⟩
  · exact (entered_enterPal _ _ _).of_regs rfl rfl rfl rfl rfl rfl

/-- Any synchronous exception. -/
theorem entered_take (s : State) (e : Exc) : Entered s (State.take s e) := by
  cases e with
  | mchk c => exact entered_machineCheck s c
  | mmFault a c va =>
    simp only [State.take]
    split
    · exact entered_deliverArith s
    · exact (entered_enterPal _ _ _).of_regs rfl rfl rfl rfl rfl rfl
  | opcdec | priv | fen =>
    simp only [State.take]
    split
    · exact entered_deliverArith s
    · exact entered_enterPal _ _ _

/-- Taking an interrupt. -/
theorem entered_takeInterrupt (s : State) (q : Irq) : Entered s (State.takeInterrupt s q) :=
  (entered_enterPal _ _ _).of_regs rfl rfl rfl rfl rfl rfl

/-! The outcome combinators. -/

/-- An extension that is present. -/
theorem needExt_pos {e : Ext} {s : State} (h : State.has s e = true) (k : Outcome) : needExt e s k = k := by
  simp [needExt, h]

/-- An extension that is absent: OPCDEC. -/
theorem needExt_neg {e : Ext} {s : State} (h : State.has s e = false) (k : Outcome) :
    needExt e s k = .next (State.take s .opcdec) := by
  simp [needExt, h, raise]

/-- Floating point enabled. -/
theorem needFen_pos {s : State} (h : State.fen s = true) (k : Outcome) : needFen s k = k := by simp [needFen, h]

/-- Floating point disabled: FEN. -/
theorem needFen_neg {s : State} (h : State.fen s = false) (k : Outcome) :
    needFen s k = .next (State.take s .fen) := by simp [needFen, h, raise]

/-- PAL mode. -/
theorem needPal_pos {s : State} (h : State.inPal s = true) (k : Outcome) : needPal s k = k := by simp [needPal, h]

/-- Any other mode: PRIV. -/
theorem needPal_neg {s : State} (h : State.inPal s = false) (k : Outcome) :
    needPal s k = .next (State.take s .priv) := by simp [needPal, h, raise]

end Sys2Proof.Machine
end

