-- ==== Sys2Proof/Laws/Exec.lean ====
section
/-! SUPPORT. What an instruction can do, said once for all of them: `exec_did`. An invariant or a frame of every instruction
is proved by the cases of `Did` and never unfolds a meaning. -/

namespace Sys2Proof.Machine

/-- Everything an instruction that has a next state can have done. -/
inductive Did (i : Instr) (s : State) : State → Prop
  /-- It raised an exception, after quiet changes of the memory system. -/
  | exc {u : State} (h : Quiet s u) (e : Exc) : Did i s (State.take u e)
  /-- A barrier or CALL_PAL delivered the pending arithmetic trap. -/
  | arith (h : s.cpu.pend.valid = true) : Did i s (State.deliverArith s)
  /-- CALL_PAL entered PAL. -/
  | call (fn : BitVec 26) (hi : i = .callPal fn) :
      Did i s (State.enterPal s (s.cpu.pc + 4) (palEntryCall s.cfg.palScheme s.cpu.palBase fn))
  /-- It advanced the pc, after changes of the memory system (a store, a barrier), or did only that. -/
  | plain {u : State} (h : Kept s u) : Did i s (State.advance u)
  /-- It wrote its integer destination. -/
  | intReg {u : State} (h : Kept s u) {r : Reg} (hd : i.intDest = some r) (v : Word) : Did i s (State.finishX u r v)
  /-- It wrote its integer destination and recorded an integer overflow. -/
  | overflow {r : Reg} (hd : i.intDest = some r) (v m : Word) :
      Did i s (State.recordTrap (State.finishX s r v) (excSumOf .none Conds.iov) m)
  /-- It wrote its floating destination. -/
  | fpReg {u : State} (h : Kept s u) {r : Reg} (hd : i.fpDest = some r) (v : Word) : Did i s (State.finishF u r v)
  /-- It raised floating conditions and wrote its floating destination. -/
  | fpOp {r : Reg} (hd : i.fpDest = some r) (c : Conds) (v : Word) :
      Did i s (State.finishF (State.bump (State.raiseConds s c)) r v)
  /-- It raised floating conditions, of which some trap. -/
  | fpTrap {r : Reg} (hd : i.fpDest = some r) (c : Conds) (v : Word) (t : Trap) (d : Conds) (m : Word) :
      Did i s (State.recordTrap (State.finishF (State.bump (State.raiseConds s c)) r v) (excSumOf t d) m)
  /-- It branched. -/
  | branch (d : BitVec 21) : Did i s (State.setPc s (State.branchTarget s d))
  /-- It branched with a link. -/
  | link {r : Reg} (hd : i.intDest = some r) (d : BitVec 21) :
      Did i s (State.setPc (State.setX s r (s.cpu.pc + 4)) (State.branchTarget s d))
  /-- It jumped. -/
  | jump {r : Reg} (hd : i.intDest = some r) (rb : Reg) :
      Did i s (State.setPc (State.setX s r (s.cpu.pc + 4)) (State.jumpTarget s rb))
  /-- MT_FPCR. -/
  | mtFpcr (fa fb fc : Reg) (hi : i = .mtFpcr fa fb fc) (v : Word) :
      Did i s (State.advance { s with cpu := { s.cpu with fpcr := v &&& fpcrMask } })
  /-- RC or RS. -/
  | flag (ra rb : Reg) (b : Bool) (hi : i = (if b then .rs ra rb else .rc ra rb)) (v : Word) :
      Did i s (State.finishX { s with cpu := { s.cpu with intrFlag := b } } ra v)
  /-- HW_MTPR. -/
  | mtpr (ra : Reg) (index : BitVec 16) (hi : i = .hwMtpr ra index) (hp : State.inPal s = true) (r : Ipr)
      (hr : Ipr.ofIndex index = some r) :
      Did i s (State.advance (State.writeIpr (State.drainAll s) r (State.x s ra)))
  /-- HW_REI. -/
  | rei (hi : i = .hwRei) (hp : State.inPal s = true) : Did i s (State.returnFromPal s)

variable {i : Instr} {s t : State}

/-- A raised exception. -/
theorem did_raise {e : Exc} (h : raise s e = .next t) : Did i s t := by
  cases h; exact .exc (Quiet.refl s) e

/-- Under an extension check. -/
theorem did_needExt {e : Ext} {k : Outcome} (hk : k = .next t → Did i s t) (h : needExt e s k = .next t) : Did i s t := by
  unfold needExt at h
  split at h
  · exact hk h
  · exact did_raise h

/-- Under a FEN check. -/
theorem did_needFen {k : Outcome} (hk : k = .next t → Did i s t) (h : needFen s k = .next t) : Did i s t := by
  unfold needFen at h
  split at h
  · exact hk h
  · exact did_raise h

/-- Under a PAL-mode check. -/
theorem did_needPal {k : Outcome} (hk : State.inPal s = true → k = .next t → Did i s t) (h : needPal s k = .next t) :
    Did i s t := by
  unfold needPal at h
  split at h
  · rename_i hp; exact hk hp h
  · exact did_raise h

/-- The integer operate template. -/
theorem did_intOp {f : Word → Word → Word} {ra rc : Reg} {o : Operand} (hd : i.intDest = some rc)
    (h : intOp f ra o rc s = .next t) : Did i s t := by
  cases h; exact .intReg (Kept.refl s) hd _

/-- The one-operand integer template. -/
theorem did_intOp1 {f : Word → Word} {rc : Reg} {o : Operand} (hd : i.intDest = some rc)
    (h : intOp1 f o rc s = .next t) : Did i s t := by
  cases h; exact .intReg (Kept.refl s) hd _

/-- The /V template. -/
theorem did_intOpV {e : Word → Word → Int} {w : Int → Word} {ov : Int → Bool} {ra rc : Reg} {o : Operand}
    (hd : i.intDest = some rc) (h : intOpV e w ov ra o rc s = .next t) : Did i s t := by
  cases h
  split
  · exact .overflow hd _ _
  · exact .intReg (Kept.refl s) hd _

/-- The conditional move template. -/
theorem did_cmov {c : Word → Bool} {ra rc : Reg} {o : Operand} (hd : i.intDest = some rc)
    (h : cmov c ra o rc s = .next t) : Did i s t := by
  cases h
  split
  · exact .intReg (Kept.refl s) hd _
  · exact .plain (Kept.refl s)

/-- The integer load template. -/
theorem did_loadX {r : State → Res Word} {ext : Word → Word} {ra : Reg} (hq : Quiet s (r s).state)
    (hd : i.intDest = some ra) (h : loadX r ext ra s = .next t) : Did i s t := by
  unfold loadX at h
  revert h hq
  cases r s with
  | ok v u => intro hq h; cases h; exact .intReg hq.kept hd _
  | exc e u => intro hq h; cases h; exact .exc hq e

/-- The floating load template. -/
theorem did_loadF {n : Nat} {op : BitVec 6} {conv : Word → Word} {fa rb : Reg} {d : BitVec 16} (hd : i.fpDest = some fa)
    (h : loadF n op conv fa rb d s = .next t) : Did i s t := by
  refine did_needFen (fun h => ?_) h
  have hq := quiet_memRead n ⟨.read, fa, op⟩ (State.ea s rb d) s
  revert hq h
  cases State.memRead n ⟨.read, fa, op⟩ (State.ea s rb d) s with
  | ok v u => intro h hq; cases h; exact .fpReg hq.kept hd _
  | exc e u => intro h hq; cases h; exact .exc hq e

/-- The store template. -/
theorem did_store {w : State → Res Unit} (hk : Kept s (w s).state) (hq : ∀ e u, w s = .exc e u → Quiet s u)
    (h : store w s = .next t) : Did i s t := by
  unfold store at h
  revert h hk hq
  cases w s with
  | ok v u => intro hk _ h; cases h; exact .plain hk
  | exc e u => intro _ hq h; cases h; exact .exc (hq e u rfl) e

/-- The store template over `MemWrite`. -/
theorem did_storeMem {n : Nat} {a : Access} {va v : Word} (h : store (State.memWrite n a va v) s = .next t) :
    Did i s t :=
  did_store (kept_memWrite n a va v s) (fun _ _ he => quiet_memWrite_exc he) h

/-- The STx_C template. -/
theorem did_storeConditional {n : Nat} {a : Access} {ea : Word} {ra : Reg} (hd : i.intDest = some ra)
    (h : storeConditional n a ea ra s = .next t) : Did i s t := by
  unfold storeConditional at h
  have hk := kept_memWriteConditional n a ea (State.x s ra) s
  revert h hk
  generalize hm : State.memWriteConditional n a ea (State.x s ra) s = m
  cases m with
  | ok v u => intro h hk; cases h; exact .intReg hk hd _
  | exc e u => intro h _; cases h; exact .exc (quiet_memWriteConditional_exc hm) e

/-- The floating operate template. -/
theorem did_fpOperate {tr : Trap} {fc : Reg} {out : FpOut} (hd : i.fpDest = some fc)
    (h : fpOperate tr fc out s = .next t) : Did i s t := by
  unfold fpOperate at h
  dsimp only at h
  split at h
  · cases h; exact .fpOp hd _ _
  · cases h; exact .fpTrap hd _ _ _ _ _

/-- A floating instruction that writes a value. -/
theorem did_finishF {fc : Reg} {v : Word} (hd : i.fpDest = some fc)
    (h : Host.Outcome.next (φ := Fault) (ρ := Refusal) (State.finishF s fc v) = .next t) : Did i s t := by
  cases h; exact .fpReg (Kept.refl s) hd _

/-- An instruction that writes a value to an integer register. -/
theorem did_finishX {rc : Reg} {v : Word} (hd : i.intDest = some rc)
    (h : Host.Outcome.next (φ := Fault) (ρ := Refusal) (State.finishX s rc v) = .next t) : Did i s t := by
  cases h; exact .intReg (Kept.refl s) hd _

/-- The floating conditional move template. -/
theorem did_fcmov {z : ZeroTest} {fa fb fc : Reg} (hd : i.fpDest = some fc) (h : fcmov z fa fb fc s = .next t) :
    Did i s t := by
  refine did_needFen (fun h => ?_) h
  cases h
  split
  · exact .fpReg (Kept.refl s) hd _
  · exact .plain (Kept.refl s)

/-- The conditional branch template. -/
theorem did_branchIf {b : Bool} {d : BitVec 21} (h : branchIf b d s = .next t) : Did i s t := by
  cases h
  split
  · exact .branch d
  · exact .plain (Kept.refl s)

/-- BR and BSR. -/
theorem did_branchLink {ra : Reg} {d : BitVec 21} (hd : i.intDest = some ra) (h : branchLink ra d s = .next t) :
    Did i s t := by
  cases h; exact .link hd d

/-- The jumps. -/
theorem did_jumpLink {ra rb : Reg} (hd : i.intDest = some ra) (h : jumpLink ra rb s = .next t) : Did i s t := by
  cases h; exact .jump hd rb

/-- The trap barriers. -/
theorem did_trapBarrier
    (h : Host.Outcome.next (φ := Fault) (ρ := Refusal) (trapBarrier s) = .next t) : Did i s t := by
  cases h
  unfold trapBarrier
  split
  · rename_i hp; exact .arith hp
  · exact .plain (Kept.refl s)

/-- An instruction that only advances the pc. -/
theorem did_advance {u : State} (hk : Kept s u)
    (h : Host.Outcome.next (φ := Fault) (ρ := Refusal) (State.advance u) = .next t) : Did i s t := by
  cases h; exact .plain hk

/-- CALL_PAL. -/
theorem did_callPal {fn : BitVec 26} (h : execCallPal fn s = .next t) : Did (.callPal fn) s t := by
  unfold execCallPal at h
  split at h
  · exact did_raise h
  · split at h
    · exact did_raise h
    · split at h
      · rename_i hp; cases h; exact .arith hp
      · cases h; exact .call fn rfl

/-- HW_MFPR. -/
theorem did_hwMfpr {ra : Reg} {index : BitVec 16} (h : execHwMfpr ra index s = .next t) :
    Did (.hwMfpr ra index) s t := by
  refine did_needPal (fun _ h => ?_) h
  split at h
  · exact did_raise h
  · exact did_finishX rfl h

/-- HW_MTPR. -/
theorem did_hwMtpr {ra : Reg} {index : BitVec 16} (h : execHwMtpr ra index s = .next t) :
    Did (.hwMtpr ra index) s t := by
  refine did_needPal (fun hp h => ?_) h
  split at h
  · exact did_raise h
  · rename_i r hr; cases h; exact .mtpr ra index rfl hp r hr

/-- WMB. -/
theorem kept_appendWmb (s : State) : Kept s (State.appendWmb s) := by
  unfold State.appendWmb
  split
  · exact Kept.refl s
  · exact ⟨rfl, rfl, rfl, rfl, rfl, id⟩

/-- EVERYTHING AN INSTRUCTION CAN DO: an instruction that answers a next state did one of the things of `Did`. -/
theorem exec_did (h : exec i s = .next t) : Did i s t := by
  cases i with
  | callPal fn => exact did_callPal h
  | lda ra rb disp =>
    replace h : execLda ra rb disp s = .next t := h
    unfold execLda at h
    exact did_finishX rfl h
  | ldah ra rb disp =>
    replace h : execLdah ra rb disp s = .next t := h
    unfold execLdah at h
    exact did_finishX rfl h
  | ldbu ra rb disp =>
    replace h : execLdbu ra rb disp s = .next t := h
    unfold execLdbu at h
    exact did_needExt (fun h => did_loadX (quiet_memRead _ _ _ s) rfl h) h
  | ldqU ra rb disp =>
    replace h : execLdqU ra rb disp s = .next t := h
    unfold execLdqU at h
    exact did_loadX (quiet_memRead _ _ _ s) rfl h
  | ldwu ra rb disp =>
    replace h : execLdwu ra rb disp s = .next t := h
    unfold execLdwu at h
    exact did_needExt (fun h => did_loadX (quiet_memRead _ _ _ s) rfl h) h
  | stw ra rb disp =>
    replace h : execStw ra rb disp s = .next t := h
    unfold execStw at h
    exact did_needExt (fun h => did_storeMem h) h
  | stb ra rb disp =>
    replace h : execStb ra rb disp s = .next t := h
    unfold execStb at h
    exact did_needExt (fun h => did_storeMem h) h
  | stqU ra rb disp =>
    replace h : execStqU ra rb disp s = .next t := h
    unfold execStqU at h
    exact did_storeMem h
  | ldf ra rb disp =>
    replace h : execLdf ra rb disp s = .next t := h
    unfold execLdf at h
    exact did_loadF rfl h
  | ldg ra rb disp =>
    replace h : execLdg ra rb disp s = .next t := h
    unfold execLdg at h
    exact did_loadF rfl h
  | lds ra rb disp =>
    replace h : execLds ra rb disp s = .next t := h
    unfold execLds at h
    exact did_loadF rfl h
  | ldt ra rb disp =>
    replace h : execLdt ra rb disp s = .next t := h
    unfold execLdt at h
    exact did_loadF rfl h
  | stf ra rb disp =>
    replace h : execStf ra rb disp s = .next t := h
    unfold execStf at h
    exact did_needFen (fun h => did_storeMem h) h
  | stg ra rb disp =>
    replace h : execStg ra rb disp s = .next t := h
    unfold execStg at h
    exact did_needFen (fun h => did_storeMem h) h
  | sts ra rb disp =>
    replace h : execSts ra rb disp s = .next t := h
    unfold execSts at h
    exact did_needFen (fun h => did_storeMem h) h
  | stt ra rb disp =>
    replace h : execStt ra rb disp s = .next t := h
    unfold execStt at h
    exact did_needFen (fun h => did_storeMem h) h
  | ldl ra rb disp =>
    replace h : execLdl ra rb disp s = .next t := h
    unfold execLdl at h
    exact did_loadX (quiet_memRead _ _ _ s) rfl h
  | ldq ra rb disp =>
    replace h : execLdq ra rb disp s = .next t := h
    unfold execLdq at h
    exact did_loadX (quiet_memRead _ _ _ s) rfl h
  | ldlL ra rb disp =>
    replace h : execLdlL ra rb disp s = .next t := h
    unfold execLdlL at h
    exact did_loadX (quiet_memReadLocked _ _ _ s) rfl h
  | ldqL ra rb disp =>
    replace h : execLdqL ra rb disp s = .next t := h
    unfold execLdqL at h
    exact did_loadX (quiet_memReadLocked _ _ _ s) rfl h
  | stl ra rb disp =>
    replace h : execStl ra rb disp s = .next t := h
    unfold execStl at h
    exact did_storeMem h
  | stq ra rb disp =>
    replace h : execStq ra rb disp s = .next t := h
    unfold execStq at h
    exact did_storeMem h
  | stlC ra rb disp =>
    replace h : execStlC ra rb disp s = .next t := h
    unfold execStlC at h
    exact did_storeConditional rfl h
  | stqC ra rb disp =>
    replace h : execStqC ra rb disp s = .next t := h
    unfold execStqC at h
    exact did_storeConditional rfl h
  | addl ra o rc =>
    replace h : execAddl ra o rc s = .next t := h
    unfold execAddl at h
    exact did_intOp rfl h
  | s4addl ra o rc =>
    replace h : execS4addl ra o rc s = .next t := h
    unfold execS4addl at h
    exact did_intOp rfl h
  | subl ra o rc =>
    replace h : execSubl ra o rc s = .next t := h
    unfold execSubl at h
    exact did_intOp rfl h
  | s4subl ra o rc =>
    replace h : execS4subl ra o rc s = .next t := h
    unfold execS4subl at h
    exact did_intOp rfl h
  | cmpbge ra o rc =>
    replace h : execCmpbge ra o rc s = .next t := h
    unfold execCmpbge at h
    exact did_intOp rfl h
  | s8addl ra o rc =>
    replace h : execS8addl ra o rc s = .next t := h
    unfold execS8addl at h
    exact did_intOp rfl h
  | s8subl ra o rc =>
    replace h : execS8subl ra o rc s = .next t := h
    unfold execS8subl at h
    exact did_intOp rfl h
  | cmpult ra o rc =>
    replace h : execCmpult ra o rc s = .next t := h
    unfold execCmpult at h
    exact did_intOp rfl h
  | addq ra o rc =>
    replace h : execAddq ra o rc s = .next t := h
    unfold execAddq at h
    exact did_intOp rfl h
  | s4addq ra o rc =>
    replace h : execS4addq ra o rc s = .next t := h
    unfold execS4addq at h
    exact did_intOp rfl h
  | subq ra o rc =>
    replace h : execSubq ra o rc s = .next t := h
    unfold execSubq at h
    exact did_intOp rfl h
  | s4subq ra o rc =>
    replace h : execS4subq ra o rc s = .next t := h
    unfold execS4subq at h
    exact did_intOp rfl h
  | cmpeq ra o rc =>
    replace h : execCmpeq ra o rc s = .next t := h
    unfold execCmpeq at h
    exact did_intOp rfl h
  | s8addq ra o rc =>
    replace h : execS8addq ra o rc s = .next t := h
    unfold execS8addq at h
    exact did_intOp rfl h
  | s8subq ra o rc =>
    replace h : execS8subq ra o rc s = .next t := h
    unfold execS8subq at h
    exact did_intOp rfl h
  | cmpule ra o rc =>
    replace h : execCmpule ra o rc s = .next t := h
    unfold execCmpule at h
    exact did_intOp rfl h
  | addlV ra o rc =>
    replace h : execAddlV ra o rc s = .next t := h
    unfold execAddlV at h
    exact did_intOpV rfl h
  | sublV ra o rc =>
    replace h : execSublV ra o rc s = .next t := h
    unfold execSublV at h
    exact did_intOpV rfl h
  | cmplt ra o rc =>
    replace h : execCmplt ra o rc s = .next t := h
    unfold execCmplt at h
    exact did_intOp rfl h
  | addqV ra o rc =>
    replace h : execAddqV ra o rc s = .next t := h
    unfold execAddqV at h
    exact did_intOpV rfl h
  | subqV ra o rc =>
    replace h : execSubqV ra o rc s = .next t := h
    unfold execSubqV at h
    exact did_intOpV rfl h
  | cmple ra o rc =>
    replace h : execCmple ra o rc s = .next t := h
    unfold execCmple at h
    exact did_intOp rfl h
  | and ra o rc =>
    replace h : execAnd ra o rc s = .next t := h
    unfold execAnd at h
    exact did_intOp rfl h
  | bic ra o rc =>
    replace h : execBic ra o rc s = .next t := h
    unfold execBic at h
    exact did_intOp rfl h
  | cmovlbs ra o rc =>
    replace h : execCmovlbs ra o rc s = .next t := h
    unfold execCmovlbs at h
    exact did_cmov rfl h
  | cmovlbc ra o rc =>
    replace h : execCmovlbc ra o rc s = .next t := h
    unfold execCmovlbc at h
    exact did_cmov rfl h
  | bis ra o rc =>
    replace h : execBis ra o rc s = .next t := h
    unfold execBis at h
    exact did_intOp rfl h
  | cmoveq ra o rc =>
    replace h : execCmoveq ra o rc s = .next t := h
    unfold execCmoveq at h
    exact did_cmov rfl h
  | cmovne ra o rc =>
    replace h : execCmovne ra o rc s = .next t := h
    unfold execCmovne at h
    exact did_cmov rfl h
  | ornot ra o rc =>
    replace h : execOrnot ra o rc s = .next t := h
    unfold execOrnot at h
    exact did_intOp rfl h
  | xor ra o rc =>
    replace h : execXor ra o rc s = .next t := h
    unfold execXor at h
    exact did_intOp rfl h
  | cmovlt ra o rc =>
    replace h : execCmovlt ra o rc s = .next t := h
    unfold execCmovlt at h
    exact did_cmov rfl h
  | cmovge ra o rc =>
    replace h : execCmovge ra o rc s = .next t := h
    unfold execCmovge at h
    exact did_cmov rfl h
  | eqv ra o rc =>
    replace h : execEqv ra o rc s = .next t := h
    unfold execEqv at h
    exact did_intOp rfl h
  | amask o rc =>
    replace h : execAmask o rc s = .next t := h
    unfold execAmask at h
    exact did_intOp1 rfl h
  | cmovle ra o rc =>
    replace h : execCmovle ra o rc s = .next t := h
    unfold execCmovle at h
    exact did_cmov rfl h
  | cmovgt ra o rc =>
    replace h : execCmovgt ra o rc s = .next t := h
    unfold execCmovgt at h
    exact did_cmov rfl h
  | implver o rc =>
    replace h : execImplver o rc s = .next t := h
    unfold execImplver at h
    exact did_intOp1 rfl h
  | mskbl ra o rc =>
    replace h : execMskbl ra o rc s = .next t := h
    unfold execMskbl at h
    exact did_intOp rfl h
  | extbl ra o rc =>
    replace h : execExtbl ra o rc s = .next t := h
    unfold execExtbl at h
    exact did_intOp rfl h
  | insbl ra o rc =>
    replace h : execInsbl ra o rc s = .next t := h
    unfold execInsbl at h
    exact did_intOp rfl h
  | mskwl ra o rc =>
    replace h : execMskwl ra o rc s = .next t := h
    unfold execMskwl at h
    exact did_intOp rfl h
  | extwl ra o rc =>
    replace h : execExtwl ra o rc s = .next t := h
    unfold execExtwl at h
    exact did_intOp rfl h
  | inswl ra o rc =>
    replace h : execInswl ra o rc s = .next t := h
    unfold execInswl at h
    exact did_intOp rfl h
  | mskll ra o rc =>
    replace h : execMskll ra o rc s = .next t := h
    unfold execMskll at h
    exact did_intOp rfl h
  | extll ra o rc =>
    replace h : execExtll ra o rc s = .next t := h
    unfold execExtll at h
    exact did_intOp rfl h
  | insll ra o rc =>
    replace h : execInsll ra o rc s = .next t := h
    unfold execInsll at h
    exact did_intOp rfl h
  | zap ra o rc =>
    replace h : execZap ra o rc s = .next t := h
    unfold execZap at h
    exact did_intOp rfl h
  | zapnot ra o rc =>
    replace h : execZapnot ra o rc s = .next t := h
    unfold execZapnot at h
    exact did_intOp rfl h
  | mskql ra o rc =>
    replace h : execMskql ra o rc s = .next t := h
    unfold execMskql at h
    exact did_intOp rfl h
  | srl ra o rc =>
    replace h : execSrl ra o rc s = .next t := h
    unfold execSrl at h
    exact did_intOp rfl h
  | extql ra o rc =>
    replace h : execExtql ra o rc s = .next t := h
    unfold execExtql at h
    exact did_intOp rfl h
  | sll ra o rc =>
    replace h : execSll ra o rc s = .next t := h
    unfold execSll at h
    exact did_intOp rfl h
  | insql ra o rc =>
    replace h : execInsql ra o rc s = .next t := h
    unfold execInsql at h
    exact did_intOp rfl h
  | sra ra o rc =>
    replace h : execSra ra o rc s = .next t := h
    unfold execSra at h
    exact did_intOp rfl h
  | mskwh ra o rc =>
    replace h : execMskwh ra o rc s = .next t := h
    unfold execMskwh at h
    exact did_intOp rfl h
  | inswh ra o rc =>
    replace h : execInswh ra o rc s = .next t := h
    unfold execInswh at h
    exact did_intOp rfl h
  | extwh ra o rc =>
    replace h : execExtwh ra o rc s = .next t := h
    unfold execExtwh at h
    exact did_intOp rfl h
  | msklh ra o rc =>
    replace h : execMsklh ra o rc s = .next t := h
    unfold execMsklh at h
    exact did_intOp rfl h
  | inslh ra o rc =>
    replace h : execInslh ra o rc s = .next t := h
    unfold execInslh at h
    exact did_intOp rfl h
  | extlh ra o rc =>
    replace h : execExtlh ra o rc s = .next t := h
    unfold execExtlh at h
    exact did_intOp rfl h
  | mskqh ra o rc =>
    replace h : execMskqh ra o rc s = .next t := h
    unfold execMskqh at h
    exact did_intOp rfl h
  | insqh ra o rc =>
    replace h : execInsqh ra o rc s = .next t := h
    unfold execInsqh at h
    exact did_intOp rfl h
  | extqh ra o rc =>
    replace h : execExtqh ra o rc s = .next t := h
    unfold execExtqh at h
    exact did_intOp rfl h
  | mull ra o rc =>
    replace h : execMull ra o rc s = .next t := h
    unfold execMull at h
    exact did_intOp rfl h
  | mulq ra o rc =>
    replace h : execMulq ra o rc s = .next t := h
    unfold execMulq at h
    exact did_intOp rfl h
  | umulh ra o rc =>
    replace h : execUmulh ra o rc s = .next t := h
    unfold execUmulh at h
    exact did_intOp rfl h
  | mullV ra o rc =>
    replace h : execMullV ra o rc s = .next t := h
    unfold execMullV at h
    exact did_intOpV rfl h
  | mulqV ra o rc =>
    replace h : execMulqV ra o rc s = .next t := h
    unfold execMulqV at h
    exact did_intOpV rfl h
  | sextb o rc =>
    replace h : execSextb o rc s = .next t := h
    unfold execSextb at h
    exact did_needExt (fun h => did_intOp1 rfl h) h
  | sextw o rc =>
    replace h : execSextw o rc s = .next t := h
    unfold execSextw at h
    exact did_needExt (fun h => did_intOp1 rfl h) h
  | ctpop o rc =>
    replace h : execCtpop o rc s = .next t := h
    unfold execCtpop at h
    exact did_needExt (fun h => did_intOp1 rfl h) h
  | perr ra o rc =>
    replace h : execPerr ra o rc s = .next t := h
    unfold execPerr at h
    exact did_needExt (fun h => did_intOp rfl h) h
  | ctlz o rc =>
    replace h : execCtlz o rc s = .next t := h
    unfold execCtlz at h
    exact did_needExt (fun h => did_intOp1 rfl h) h
  | cttz o rc =>
    replace h : execCttz o rc s = .next t := h
    unfold execCttz at h
    exact did_needExt (fun h => did_intOp1 rfl h) h
  | unpkbw o rc =>
    replace h : execUnpkbw o rc s = .next t := h
    unfold execUnpkbw at h
    exact did_needExt (fun h => did_intOp1 rfl h) h
  | unpkbl o rc =>
    replace h : execUnpkbl o rc s = .next t := h
    unfold execUnpkbl at h
    exact did_needExt (fun h => did_intOp1 rfl h) h
  | pkwb o rc =>
    replace h : execPkwb o rc s = .next t := h
    unfold execPkwb at h
    exact did_needExt (fun h => did_intOp1 rfl h) h
  | pklb o rc =>
    replace h : execPklb o rc s = .next t := h
    unfold execPklb at h
    exact did_needExt (fun h => did_intOp1 rfl h) h
  | minsb8 ra o rc =>
    replace h : execMinsb8 ra o rc s = .next t := h
    unfold execMinsb8 at h
    exact did_needExt (fun h => did_intOp rfl h) h
  | minsw4 ra o rc =>
    replace h : execMinsw4 ra o rc s = .next t := h
    unfold execMinsw4 at h
    exact did_needExt (fun h => did_intOp rfl h) h
  | minub8 ra o rc =>
    replace h : execMinub8 ra o rc s = .next t := h
    unfold execMinub8 at h
    exact did_needExt (fun h => did_intOp rfl h) h
  | minuw4 ra o rc =>
    replace h : execMinuw4 ra o rc s = .next t := h
    unfold execMinuw4 at h
    exact did_needExt (fun h => did_intOp rfl h) h
  | maxub8 ra o rc =>
    replace h : execMaxub8 ra o rc s = .next t := h
    unfold execMaxub8 at h
    exact did_needExt (fun h => did_intOp rfl h) h
  | maxuw4 ra o rc =>
    replace h : execMaxuw4 ra o rc s = .next t := h
    unfold execMaxuw4 at h
    exact did_needExt (fun h => did_intOp rfl h) h
  | maxsb8 ra o rc =>
    replace h : execMaxsb8 ra o rc s = .next t := h
    unfold execMaxsb8 at h
    exact did_needExt (fun h => did_intOp rfl h) h
  | maxsw4 ra o rc =>
    replace h : execMaxsw4 ra o rc s = .next t := h
    unfold execMaxsw4 at h
    exact did_needExt (fun h => did_intOp rfl h) h
  | ftoit fa rc =>
    replace h : execFtoit fa rc s = .next t := h
    unfold execFtoit at h
    exact did_needExt (fun h => did_needFen (fun h => did_finishX rfl h) h) h
  | ftois fa rc =>
    replace h : execFtois fa rc s = .next t := h
    unfold execFtois at h
    exact did_needExt (fun h => did_needFen (fun h => did_finishX rfl h) h) h
  | adds q fa fb fc =>
    replace h : execAdds q fa fb fc s = .next t := h
    unfold execAdds at h
    exact did_needFen (fun h => did_fpOperate rfl h) h
  | subs q fa fb fc =>
    replace h : execSubs q fa fb fc s = .next t := h
    unfold execSubs at h
    exact did_needFen (fun h => did_fpOperate rfl h) h
  | muls q fa fb fc =>
    replace h : execMuls q fa fb fc s = .next t := h
    unfold execMuls at h
    exact did_needFen (fun h => did_fpOperate rfl h) h
  | divs q fa fb fc =>
    replace h : execDivs q fa fb fc s = .next t := h
    unfold execDivs at h
    exact did_needFen (fun h => did_fpOperate rfl h) h
  | addt q fa fb fc =>
    replace h : execAddt q fa fb fc s = .next t := h
    unfold execAddt at h
    exact did_needFen (fun h => did_fpOperate rfl h) h
  | subt q fa fb fc =>
    replace h : execSubt q fa fb fc s = .next t := h
    unfold execSubt at h
    exact did_needFen (fun h => did_fpOperate rfl h) h
  | mult q fa fb fc =>
    replace h : execMult q fa fb fc s = .next t := h
    unfold execMult at h
    exact did_needFen (fun h => did_fpOperate rfl h) h
  | divt q fa fb fc =>
    replace h : execDivt q fa fb fc s = .next t := h
    unfold execDivt at h
    exact did_needFen (fun h => did_fpOperate rfl h) h
  | cmptun q fa fb fc =>
    replace h : execCmptun q fa fb fc s = .next t := h
    unfold execCmptun at h
    exact did_needFen (fun h => did_fpOperate rfl h) h
  | cmpteq q fa fb fc =>
    replace h : execCmpteq q fa fb fc s = .next t := h
    unfold execCmpteq at h
    exact did_needFen (fun h => did_fpOperate rfl h) h
  | cmptlt q fa fb fc =>
    replace h : execCmptlt q fa fb fc s = .next t := h
    unfold execCmptlt at h
    exact did_needFen (fun h => did_fpOperate rfl h) h
  | cmptle q fa fb fc =>
    replace h : execCmptle q fa fb fc s = .next t := h
    unfold execCmptle at h
    exact did_needFen (fun h => did_fpOperate rfl h) h
  | cvtts q fb fc =>
    replace h : execCvtts q fb fc s = .next t := h
    unfold execCvtts at h
    exact did_needFen (fun h => did_fpOperate rfl h) h
  | cvttq q fb fc =>
    replace h : execCvttq q fb fc s = .next t := h
    unfold execCvttq at h
    exact did_needFen (fun h => did_fpOperate rfl h) h
  | cvtqs q fb fc =>
    replace h : execCvtqs q fb fc s = .next t := h
    unfold execCvtqs at h
    exact did_needFen (fun h => did_fpOperate rfl h) h
  | cvtqt q fb fc =>
    replace h : execCvtqt q fb fc s = .next t := h
    unfold execCvtqt at h
    exact did_needFen (fun h => did_fpOperate rfl h) h
  | cvtst sw fb fc =>
    replace h : execCvtst sw fb fc s = .next t := h
    unfold execCvtst at h
    exact did_needFen (fun h => did_fpOperate rfl h) h
  | addf q fa fb fc =>
    replace h : execAddf q fa fb fc s = .next t := h
    unfold execAddf at h
    exact did_needFen (fun h => did_fpOperate rfl h) h
  | subf q fa fb fc =>
    replace h : execSubf q fa fb fc s = .next t := h
    unfold execSubf at h
    exact did_needFen (fun h => did_fpOperate rfl h) h
  | mulf q fa fb fc =>
    replace h : execMulf q fa fb fc s = .next t := h
    unfold execMulf at h
    exact did_needFen (fun h => did_fpOperate rfl h) h
  | divf q fa fb fc =>
    replace h : execDivf q fa fb fc s = .next t := h
    unfold execDivf at h
    exact did_needFen (fun h => did_fpOperate rfl h) h
  | cvtdg q fb fc =>
    replace h : execCvtdg q fb fc s = .next t := h
    unfold execCvtdg at h
    exact did_needFen (fun h => did_fpOperate rfl h) h
  | addg q fa fb fc =>
    replace h : execAddg q fa fb fc s = .next t := h
    unfold execAddg at h
    exact did_needFen (fun h => did_fpOperate rfl h) h
  | subg q fa fb fc =>
    replace h : execSubg q fa fb fc s = .next t := h
    unfold execSubg at h
    exact did_needFen (fun h => did_fpOperate rfl h) h
  | mulg q fa fb fc =>
    replace h : execMulg q fa fb fc s = .next t := h
    unfold execMulg at h
    exact did_needFen (fun h => did_fpOperate rfl h) h
  | divg q fa fb fc =>
    replace h : execDivg q fa fb fc s = .next t := h
    unfold execDivg at h
    exact did_needFen (fun h => did_fpOperate rfl h) h
  | cmpgeq q fa fb fc =>
    replace h : execCmpgeq q fa fb fc s = .next t := h
    unfold execCmpgeq at h
    exact did_needFen (fun h => did_fpOperate rfl h) h
  | cmpglt q fa fb fc =>
    replace h : execCmpglt q fa fb fc s = .next t := h
    unfold execCmpglt at h
    exact did_needFen (fun h => did_fpOperate rfl h) h
  | cmpgle q fa fb fc =>
    replace h : execCmpgle q fa fb fc s = .next t := h
    unfold execCmpgle at h
    exact did_needFen (fun h => did_fpOperate rfl h) h
  | cvtgf q fb fc =>
    replace h : execCvtgf q fb fc s = .next t := h
    unfold execCvtgf at h
    exact did_needFen (fun h => did_fpOperate rfl h) h
  | cvtgd q fb fc =>
    replace h : execCvtgd q fb fc s = .next t := h
    unfold execCvtgd at h
    exact did_needFen (fun h => did_fpOperate rfl h) h
  | cvtgq q fb fc =>
    replace h : execCvtgq q fb fc s = .next t := h
    unfold execCvtgq at h
    exact did_needFen (fun h => did_fpOperate rfl h) h
  | cvtqf q fb fc =>
    replace h : execCvtqf q fb fc s = .next t := h
    unfold execCvtqf at h
    exact did_needFen (fun h => did_fpOperate rfl h) h
  | cvtqg q fb fc =>
    replace h : execCvtqg q fb fc s = .next t := h
    unfold execCvtqg at h
    exact did_needFen (fun h => did_fpOperate rfl h) h
  | itofs ra fc =>
    replace h : execItofs ra fc s = .next t := h
    unfold execItofs at h
    exact did_needExt (fun h => did_needFen (fun h => did_finishF rfl h) h) h
  | itoff ra fc =>
    replace h : execItoff ra fc s = .next t := h
    unfold execItoff at h
    exact did_needExt (fun h => did_needFen (fun h => did_finishF rfl h) h) h
  | itoft ra fc =>
    replace h : execItoft ra fc s = .next t := h
    unfold execItoft at h
    exact did_needExt (fun h => did_needFen (fun h => did_finishF rfl h) h) h
  | sqrtf q fb fc =>
    replace h : execSqrtf q fb fc s = .next t := h
    unfold execSqrtf at h
    exact did_needExt (fun h => did_needFen (fun h => did_fpOperate rfl h) h) h
  | sqrtg q fb fc =>
    replace h : execSqrtg q fb fc s = .next t := h
    unfold execSqrtg at h
    exact did_needExt (fun h => did_needFen (fun h => did_fpOperate rfl h) h) h
  | sqrts q fb fc =>
    replace h : execSqrts q fb fc s = .next t := h
    unfold execSqrts at h
    exact did_needExt (fun h => did_needFen (fun h => did_fpOperate rfl h) h) h
  | sqrtt q fb fc =>
    replace h : execSqrtt q fb fc s = .next t := h
    unfold execSqrtt at h
    exact did_needExt (fun h => did_needFen (fun h => did_fpOperate rfl h) h) h
  | cvtlq fb fc =>
    replace h : execCvtlq fb fc s = .next t := h
    unfold execCvtlq at h
    exact did_needFen (fun h => did_finishF rfl h) h
  | cpys fa fb fc =>
    replace h : execCpys fa fb fc s = .next t := h
    unfold execCpys at h
    exact did_needFen (fun h => did_finishF rfl h) h
  | cpysn fa fb fc =>
    replace h : execCpysn fa fb fc s = .next t := h
    unfold execCpysn at h
    exact did_needFen (fun h => did_finishF rfl h) h
  | cpyse fa fb fc =>
    replace h : execCpyse fa fb fc s = .next t := h
    unfold execCpyse at h
    exact did_needFen (fun h => did_finishF rfl h) h
  | mtFpcr fa fb fc =>
    replace h : execMtFpcr fa fb fc s = .next t := h
    unfold execMtFpcr at h
    exact did_needFen (fun h => by cases h; exact .mtFpcr fa fb fc rfl _) h
  | mfFpcr fa fb fc =>
    replace h : execMfFpcr fa fb fc s = .next t := h
    unfold execMfFpcr at h
    exact did_needFen (fun h => did_finishF rfl h) h
  | fcmoveq fa fb fc =>
    replace h : execFcmoveq fa fb fc s = .next t := h
    unfold execFcmoveq at h
    exact did_fcmov rfl h
  | fcmovne fa fb fc =>
    replace h : execFcmovne fa fb fc s = .next t := h
    unfold execFcmovne at h
    exact did_fcmov rfl h
  | fcmovlt fa fb fc =>
    replace h : execFcmovlt fa fb fc s = .next t := h
    unfold execFcmovlt at h
    exact did_fcmov rfl h
  | fcmovge fa fb fc =>
    replace h : execFcmovge fa fb fc s = .next t := h
    unfold execFcmovge at h
    exact did_fcmov rfl h
  | fcmovle fa fb fc =>
    replace h : execFcmovle fa fb fc s = .next t := h
    unfold execFcmovle at h
    exact did_fcmov rfl h
  | fcmovgt fa fb fc =>
    replace h : execFcmovgt fa fb fc s = .next t := h
    unfold execFcmovgt at h
    exact did_fcmov rfl h
  | cvtql tr fb fc =>
    replace h : execCvtql tr fb fc s = .next t := h
    unfold execCvtql at h
    exact did_needFen (fun h => did_fpOperate rfl h) h
  | trapb ra rb =>
    replace h : execTrapb ra rb s = .next t := h
    unfold execTrapb at h
    exact did_trapBarrier h
  | excb ra rb =>
    replace h : execExcb ra rb s = .next t := h
    unfold execExcb at h
    exact did_trapBarrier h
  | mb ra rb =>
    replace h : execMb ra rb s = .next t := h
    unfold execMb at h
    exact did_advance (kept_drainAll s) h
  | wmb ra rb =>
    replace h : execWmb ra rb s = .next t := h
    unfold execWmb at h
    exact did_advance (kept_appendWmb s) h
  | fetch ra rb =>
    replace h : execFetch ra rb s = .next t := h
    unfold execFetch at h
    exact did_advance (Kept.refl s) h
  | fetchM ra rb =>
    replace h : execFetchM ra rb s = .next t := h
    unfold execFetchM at h
    exact did_advance (Kept.refl s) h
  | rpcc ra rb =>
    replace h : execRpcc ra rb s = .next t := h
    unfold execRpcc at h
    exact did_finishX rfl h
  | rc ra rb =>
    replace h : execRc ra rb s = .next t := h
    unfold execRc at h
    exact by cases h; exact .flag ra rb false rfl _
  | ecb ra rb =>
    replace h : execEcb ra rb s = .next t := h
    unfold execEcb at h
    exact did_advance (Kept.refl s) h
  | rs ra rb =>
    replace h : execRs ra rb s = .next t := h
    unfold execRs at h
    exact by cases h; exact .flag ra rb true rfl _
  | wh64 ra rb =>
    replace h : execWh64 ra rb s = .next t := h
    unfold execWh64 at h
    exact by cases h
  | wh64en ra rb =>
    replace h : execWh64en ra rb s = .next t := h
    unfold execWh64en at h
    exact by cases h
  | jmp ra rb hint =>
    replace h : execJmp ra rb hint s = .next t := h
    unfold execJmp at h
    exact did_jumpLink rfl h
  | jsr ra rb hint =>
    replace h : execJsr ra rb hint s = .next t := h
    unfold execJsr at h
    exact did_jumpLink rfl h
  | ret ra rb hint =>
    replace h : execRet ra rb hint s = .next t := h
    unfold execRet at h
    exact did_jumpLink rfl h
  | jsrCoroutine ra rb hint =>
    replace h : execJsrCoroutine ra rb hint s = .next t := h
    unfold execJsrCoroutine at h
    exact did_jumpLink rfl h
  | br ra disp =>
    replace h : execBr ra disp s = .next t := h
    unfold execBr at h
    exact did_branchLink rfl h
  | fbeq ra disp =>
    replace h : execFbeq ra disp s = .next t := h
    unfold execFbeq at h
    exact did_needFen (fun h => did_branchIf h) h
  | fblt ra disp =>
    replace h : execFblt ra disp s = .next t := h
    unfold execFblt at h
    exact did_needFen (fun h => did_branchIf h) h
  | fble ra disp =>
    replace h : execFble ra disp s = .next t := h
    unfold execFble at h
    exact did_needFen (fun h => did_branchIf h) h
  | bsr ra disp =>
    replace h : execBsr ra disp s = .next t := h
    unfold execBsr at h
    exact did_branchLink rfl h
  | fbne ra disp =>
    replace h : execFbne ra disp s = .next t := h
    unfold execFbne at h
    exact did_needFen (fun h => did_branchIf h) h
  | fbge ra disp =>
    replace h : execFbge ra disp s = .next t := h
    unfold execFbge at h
    exact did_needFen (fun h => did_branchIf h) h
  | fbgt ra disp =>
    replace h : execFbgt ra disp s = .next t := h
    unfold execFbgt at h
    exact did_needFen (fun h => did_branchIf h) h
  | blbc ra disp =>
    replace h : execBlbc ra disp s = .next t := h
    unfold execBlbc at h
    exact did_branchIf h
  | beq ra disp =>
    replace h : execBeq ra disp s = .next t := h
    unfold execBeq at h
    exact did_branchIf h
  | blt ra disp =>
    replace h : execBlt ra disp s = .next t := h
    unfold execBlt at h
    exact did_branchIf h
  | ble ra disp =>
    replace h : execBle ra disp s = .next t := h
    unfold execBle at h
    exact did_branchIf h
  | blbs ra disp =>
    replace h : execBlbs ra disp s = .next t := h
    unfold execBlbs at h
    exact did_branchIf h
  | bne ra disp =>
    replace h : execBne ra disp s = .next t := h
    unfold execBne at h
    exact did_branchIf h
  | bge ra disp =>
    replace h : execBge ra disp s = .next t := h
    unfold execBge at h
    exact did_branchIf h
  | bgt ra disp =>
    replace h : execBgt ra disp s = .next t := h
    unfold execBgt at h
    exact did_branchIf h
  | hwMfpr ra index => exact did_hwMfpr h
  | hwLd ra rb quad disp =>
    replace h : execHwLd ra rb quad disp s = .next t := h
    unfold execHwLd at h
    exact did_needPal (fun _ h => did_loadX (quiet_hwRead _ _ _ s) rfl h) h
  | hwMtpr ra index => exact did_hwMtpr h
  | hwRei =>
    replace h : execHwRei s = .next t := h
    unfold execHwRei at h
    exact did_needPal (fun hp h => by cases h; exact .rei rfl hp) h
  | hwSt ra rb quad disp =>
    replace h : execHwSt ra rb quad disp s = .next t := h
    unfold execHwSt at h
    exact did_needPal (fun _ h => did_store (kept_hwWrite _ _ _ _ s) (fun _ _ he => quiet_hwWrite_exc he) h) h

end Sys2Proof.Machine
end

