-- ==== Sys2Proof/Laws/PerInstr.lean ====
section
/-! SUPPORT. Facts about every instruction as syntax, one lemma for each constructor: the opcode field of its encoding is the
primary opcode of its row (30_encoding.md R301, R311). -/

namespace Sys2Proof.Laws

/-- The primary opcode of an instruction's row in the opcode table (30_encoding.md R311). -/
def rowOpcode (i : Instr) : BitVec 6 :=
  match i with
  | .callPal .. => 0x00
  | .lda .. => 0x08
  | .ldah .. => 0x09
  | .ldbu .. => 0x0A
  | .ldqU .. => 0x0B
  | .ldwu .. => 0x0C
  | .stw .. => 0x0D
  | .stb .. => 0x0E
  | .stqU .. => 0x0F
  | .addl .. | .s4addl .. | .subl .. | .s4subl .. | .cmpbge .. | .s8addl .. | .s8subl .. | .cmpult ..
  | .addq .. | .s4addq .. | .subq .. | .s4subq .. | .cmpeq .. | .s8addq .. | .s8subq .. | .cmpule ..
  | .addlV .. | .sublV .. | .cmplt .. | .addqV .. | .subqV .. | .cmple .. => 0x10
  | .and .. | .bic .. | .cmovlbs .. | .cmovlbc .. | .bis .. | .cmoveq .. | .cmovne .. | .ornot ..
  | .xor .. | .cmovlt .. | .cmovge .. | .eqv .. | .amask .. | .cmovle .. | .cmovgt .. | .implver .. => 0x11
  | .mskbl .. | .extbl .. | .insbl .. | .mskwl .. | .extwl .. | .inswl .. | .mskll .. | .extll ..
  | .insll .. | .zap .. | .zapnot .. | .mskql .. | .srl .. | .extql .. | .sll .. | .insql ..
  | .sra .. | .mskwh .. | .inswh .. | .extwh .. | .msklh .. | .inslh .. | .extlh .. | .mskqh ..
  | .insqh .. | .extqh .. => 0x12
  | .mull .. | .mulq .. | .umulh .. | .mullV .. | .mulqV .. => 0x13
  | .itofs .. | .itoff .. | .itoft .. | .sqrtf .. | .sqrtg .. | .sqrts .. | .sqrtt .. => 0x14
  | .addf .. | .subf .. | .mulf .. | .divf .. | .cvtdg .. | .addg .. | .subg .. | .mulg .. | .divg ..
  | .cmpgeq .. | .cmpglt .. | .cmpgle .. | .cvtgf .. | .cvtgd .. | .cvtgq .. | .cvtqf .. | .cvtqg .. => 0x15
  | .adds .. | .subs .. | .muls .. | .divs .. | .addt .. | .subt .. | .mult .. | .divt ..
  | .cmptun .. | .cmpteq .. | .cmptlt .. | .cmptle .. | .cvtts .. | .cvttq .. | .cvtqs .. | .cvtqt ..
  | .cvtst .. => 0x16
  | .cvtlq .. | .cpys .. | .cpysn .. | .cpyse .. | .mtFpcr .. | .mfFpcr .. | .fcmoveq ..
  | .fcmovne .. | .fcmovlt .. | .fcmovge .. | .fcmovle .. | .fcmovgt .. | .cvtql .. => 0x17
  | .trapb .. | .excb .. | .mb .. | .wmb .. | .fetch .. | .fetchM .. | .rpcc .. | .rc .. | .ecb ..
  | .rs .. | .wh64 .. | .wh64en .. => 0x18
  | .hwMfpr .. => 0x19
  | .jmp .. | .jsr .. | .ret .. | .jsrCoroutine .. => 0x1A
  | .hwLd .. => 0x1B
  | .sextb .. | .sextw .. | .ctpop .. | .perr .. | .ctlz .. | .cttz .. | .unpkbw .. | .unpkbl ..
  | .pkwb .. | .pklb .. | .minsb8 .. | .minsw4 .. | .minub8 .. | .minuw4 .. | .maxub8 .. | .maxuw4 ..
  | .maxsb8 .. | .maxsw4 .. | .ftoit .. | .ftois .. => 0x1C
  | .hwMtpr .. => 0x1D
  | .hwRei => 0x1E
  | .hwSt .. => 0x1F
  | .ldf .. => 0x20
  | .ldg .. => 0x21
  | .lds .. => 0x22
  | .ldt .. => 0x23
  | .stf .. => 0x24
  | .stg .. => 0x25
  | .sts .. => 0x26
  | .stt .. => 0x27
  | .ldl .. => 0x28
  | .ldq .. => 0x29
  | .ldlL .. => 0x2A
  | .ldqL .. => 0x2B
  | .stl .. => 0x2C
  | .stq .. => 0x2D
  | .stlC .. => 0x2E
  | .stqC .. => 0x2F
  | .br .. => 0x30
  | .fbeq .. => 0x31
  | .fblt .. => 0x32
  | .fble .. => 0x33
  | .bsr .. => 0x34
  | .fbne .. => 0x35
  | .fbge .. => 0x36
  | .fbgt .. => 0x37
  | .blbc .. => 0x38
  | .beq .. => 0x39
  | .blt .. => 0x3A
  | .ble .. => 0x3B
  | .blbs .. => 0x3C
  | .bne .. => 0x3D
  | .bge .. => 0x3E
  | .bgt .. => 0x3F

/-- A field that lies wholly in the upper part of a concatenation. -/
theorem extract_append {a b : Nat} (x : BitVec a) (y : BitVec b) (n k : Nat) :
    (x ++ y).extractLsb' (b + n) k = x.extractLsb' n k := by
  apply BitVec.eq_of_getLsbD_eq
  intro i hi
  simp [BitVec.getLsbD_append, hi, show ¬ b + n + i < b by omega, show b + n + i - b = n + i by omega]

/-- A value is its own whole field. -/
theorem extract_self {a : Nat} (x : BitVec a) : x.extractLsb' 0 a = x := by simp

/-- The memory format. -/
theorem opcode_mem (op : BitVec 6) (ra rb : Reg) (d : BitVec 16) : (Encode.mem op ra rb d).opcode = op :=
  (extract_append (op ++ ra ++ rb) d 10 6).trans
    ((extract_append (op ++ ra) rb 5 6).trans ((extract_append op ra 0 6).trans (extract_self op)))

/-- The branch format. -/
theorem opcode_bra (op : BitVec 6) (ra : Reg) (d : BitVec 21) : (Encode.bra op ra d).opcode = op :=
  (extract_append (op ++ ra) d 5 6).trans ((extract_append op ra 0 6).trans (extract_self op))

/-- The jump format. -/
theorem opcode_jump (fn : BitVec 2) (ra rb : Reg) (h : BitVec 14) : (Encode.jump fn ra rb h).opcode = 0x1A :=
  (extract_append ((0x1A : BitVec 6) ++ ra ++ rb ++ fn) h 12 6).trans
    ((extract_append ((0x1A : BitVec 6) ++ ra ++ rb) fn 10 6).trans
      ((extract_append ((0x1A : BitVec 6) ++ ra) rb 5 6).trans
        ((extract_append (0x1A : BitVec 6) ra 0 6).trans (extract_self _))))

/-- The integer operate format, with a register and with a literal. -/
theorem opcode_opr (op : BitVec 6) (fn : BitVec 7) (ra : Reg) (o : Operand) (rc : Reg) :
    (Encode.opr op fn ra o rc).opcode = op := by
  cases o with
  | reg rb =>
    exact (extract_append (op ++ ra ++ rb ++ (0 : BitVec 3) ++ (0 : BitVec 1) ++ fn) rc 21 6).trans
      ((extract_append (op ++ ra ++ rb ++ (0 : BitVec 3) ++ (0 : BitVec 1)) fn 14 6).trans
        ((extract_append (op ++ ra ++ rb ++ (0 : BitVec 3)) (0 : BitVec 1) 13 6).trans
          ((extract_append (op ++ ra ++ rb) (0 : BitVec 3) 10 6).trans
            ((extract_append (op ++ ra) rb 5 6).trans ((extract_append op ra 0 6).trans (extract_self op))))))
  | lit v =>
    exact (extract_append (op ++ ra ++ v ++ (1 : BitVec 1) ++ fn) rc 21 6).trans
      ((extract_append (op ++ ra ++ v ++ (1 : BitVec 1)) fn 14 6).trans
        ((extract_append (op ++ ra ++ v) (1 : BitVec 1) 13 6).trans
          ((extract_append (op ++ ra) v 5 6).trans ((extract_append op ra 0 6).trans (extract_self op)))))

/-- The floating operate format. -/
theorem opcode_fp (op : BitVec 6) (fn : BitVec 11) (fa fb fc : Reg) : (Encode.fp op fn fa fb fc).opcode = op :=
  (extract_append (op ++ fa ++ fb ++ fn) fc 21 6).trans
    ((extract_append (op ++ fa ++ fb) fn 10 6).trans
      ((extract_append (op ++ fa) fb 5 6).trans ((extract_append op fa 0 6).trans (extract_self op))))

/-- The floating operate format with qualifiers. -/
theorem opcode_fpq (op : BitVec 6) (q : Qual) (fn : BitVec 6) (fa fb fc : Reg) :
    (Encode.fpq op q fn fa fb fc).opcode = op :=
  (extract_append (op ++ fa ++ fb ++ q.trap.bits ++ q.rnd.bits ++ fn) fc 21 6).trans
    ((extract_append (op ++ fa ++ fb ++ q.trap.bits ++ q.rnd.bits) fn 15 6).trans
      ((extract_append (op ++ fa ++ fb ++ q.trap.bits) q.rnd.bits 13 6).trans
        ((extract_append (op ++ fa ++ fb) q.trap.bits 10 6).trans
          ((extract_append (op ++ fa) fb 5 6).trans ((extract_append op fa 0 6).trans (extract_self op))))))

/-- HW_LD and HW_ST. -/
theorem opcode_hwmem (op : BitVec 6) (ra rb : Reg) (quad : Bool) (d : BitVec 12) :
    (Encode.hwmem op ra rb quad d).opcode = op :=
  (extract_append (op ++ ra ++ rb ++ (4 : BitVec 3) ++ BitVec.ofBool quad) d 14 6).trans
    ((extract_append (op ++ ra ++ rb ++ (4 : BitVec 3)) (BitVec.ofBool quad) 13 6).trans
      ((extract_append (op ++ ra ++ rb) (4 : BitVec 3) 10 6).trans
        ((extract_append (op ++ ra) rb 5 6).trans ((extract_append op ra 0 6).trans (extract_self op)))))

/-- The opcode field of an instruction's word is its row's opcode. -/
def EncodeOpcode.Statement (i : Instr) : Prop := (encode i).opcode = rowOpcode i

namespace EncodeOpcode

/-- CALL_PAL. -/
theorem callPal (fn : BitVec 26) : Statement (.callPal fn) :=
  (extract_append (0 : BitVec 6) fn 0 6).trans (extract_self _)

/-- LDA. -/
theorem lda (ra rb : Reg) (disp : BitVec 16) : Statement (.lda ra rb disp) :=
  opcode_mem _ _ _ _

/-- LDAH. -/
theorem ldah (ra rb : Reg) (disp : BitVec 16) : Statement (.ldah ra rb disp) :=
  opcode_mem _ _ _ _

/-- LDBU. -/
theorem ldbu (ra rb : Reg) (disp : BitVec 16) : Statement (.ldbu ra rb disp) :=
  opcode_mem _ _ _ _

/-- LDQ_U. -/
theorem ldqU (ra rb : Reg) (disp : BitVec 16) : Statement (.ldqU ra rb disp) :=
  opcode_mem _ _ _ _

/-- LDWU. -/
theorem ldwu (ra rb : Reg) (disp : BitVec 16) : Statement (.ldwu ra rb disp) :=
  opcode_mem _ _ _ _

/-- STW. -/
theorem stw (ra rb : Reg) (disp : BitVec 16) : Statement (.stw ra rb disp) :=
  opcode_mem _ _ _ _

/-- STB. -/
theorem stb (ra rb : Reg) (disp : BitVec 16) : Statement (.stb ra rb disp) :=
  opcode_mem _ _ _ _

/-- STQ_U. -/
theorem stqU (ra rb : Reg) (disp : BitVec 16) : Statement (.stqU ra rb disp) :=
  opcode_mem _ _ _ _

/-- LDF. -/
theorem ldf (ra rb : Reg) (disp : BitVec 16) : Statement (.ldf ra rb disp) :=
  opcode_mem _ _ _ _

/-- LDG. -/
theorem ldg (ra rb : Reg) (disp : BitVec 16) : Statement (.ldg ra rb disp) :=
  opcode_mem _ _ _ _

/-- LDS. -/
theorem lds (ra rb : Reg) (disp : BitVec 16) : Statement (.lds ra rb disp) :=
  opcode_mem _ _ _ _

/-- LDT. -/
theorem ldt (ra rb : Reg) (disp : BitVec 16) : Statement (.ldt ra rb disp) :=
  opcode_mem _ _ _ _

/-- STF. -/
theorem stf (ra rb : Reg) (disp : BitVec 16) : Statement (.stf ra rb disp) :=
  opcode_mem _ _ _ _

/-- STG. -/
theorem stg (ra rb : Reg) (disp : BitVec 16) : Statement (.stg ra rb disp) :=
  opcode_mem _ _ _ _

/-- STS. -/
theorem sts (ra rb : Reg) (disp : BitVec 16) : Statement (.sts ra rb disp) :=
  opcode_mem _ _ _ _

/-- STT. -/
theorem stt (ra rb : Reg) (disp : BitVec 16) : Statement (.stt ra rb disp) :=
  opcode_mem _ _ _ _

/-- LDL. -/
theorem ldl (ra rb : Reg) (disp : BitVec 16) : Statement (.ldl ra rb disp) :=
  opcode_mem _ _ _ _

/-- LDQ. -/
theorem ldq (ra rb : Reg) (disp : BitVec 16) : Statement (.ldq ra rb disp) :=
  opcode_mem _ _ _ _

/-- LDL_L. -/
theorem ldlL (ra rb : Reg) (disp : BitVec 16) : Statement (.ldlL ra rb disp) :=
  opcode_mem _ _ _ _

/-- LDQ_L. -/
theorem ldqL (ra rb : Reg) (disp : BitVec 16) : Statement (.ldqL ra rb disp) :=
  opcode_mem _ _ _ _

/-- STL. -/
theorem stl (ra rb : Reg) (disp : BitVec 16) : Statement (.stl ra rb disp) :=
  opcode_mem _ _ _ _

/-- STQ. -/
theorem stq (ra rb : Reg) (disp : BitVec 16) : Statement (.stq ra rb disp) :=
  opcode_mem _ _ _ _

/-- STL_C. -/
theorem stlC (ra rb : Reg) (disp : BitVec 16) : Statement (.stlC ra rb disp) :=
  opcode_mem _ _ _ _

/-- STQ_C. -/
theorem stqC (ra rb : Reg) (disp : BitVec 16) : Statement (.stqC ra rb disp) :=
  opcode_mem _ _ _ _

/-- ADDL. -/
theorem addl (ra : Reg) (o : Operand) (rc : Reg) : Statement (.addl ra o rc) :=
  opcode_opr _ _ _ _ _

/-- S4ADDL. -/
theorem s4addl (ra : Reg) (o : Operand) (rc : Reg) : Statement (.s4addl ra o rc) :=
  opcode_opr _ _ _ _ _

/-- SUBL. -/
theorem subl (ra : Reg) (o : Operand) (rc : Reg) : Statement (.subl ra o rc) :=
  opcode_opr _ _ _ _ _

/-- S4SUBL. -/
theorem s4subl (ra : Reg) (o : Operand) (rc : Reg) : Statement (.s4subl ra o rc) :=
  opcode_opr _ _ _ _ _

/-- CMPBGE. -/
theorem cmpbge (ra : Reg) (o : Operand) (rc : Reg) : Statement (.cmpbge ra o rc) :=
  opcode_opr _ _ _ _ _

/-- S8ADDL. -/
theorem s8addl (ra : Reg) (o : Operand) (rc : Reg) : Statement (.s8addl ra o rc) :=
  opcode_opr _ _ _ _ _

/-- S8SUBL. -/
theorem s8subl (ra : Reg) (o : Operand) (rc : Reg) : Statement (.s8subl ra o rc) :=
  opcode_opr _ _ _ _ _

/-- CMPULT. -/
theorem cmpult (ra : Reg) (o : Operand) (rc : Reg) : Statement (.cmpult ra o rc) :=
  opcode_opr _ _ _ _ _

/-- ADDQ. -/
theorem addq (ra : Reg) (o : Operand) (rc : Reg) : Statement (.addq ra o rc) :=
  opcode_opr _ _ _ _ _

/-- S4ADDQ. -/
theorem s4addq (ra : Reg) (o : Operand) (rc : Reg) : Statement (.s4addq ra o rc) :=
  opcode_opr _ _ _ _ _

/-- SUBQ. -/
theorem subq (ra : Reg) (o : Operand) (rc : Reg) : Statement (.subq ra o rc) :=
  opcode_opr _ _ _ _ _

/-- S4SUBQ. -/
theorem s4subq (ra : Reg) (o : Operand) (rc : Reg) : Statement (.s4subq ra o rc) :=
  opcode_opr _ _ _ _ _

/-- CMPEQ. -/
theorem cmpeq (ra : Reg) (o : Operand) (rc : Reg) : Statement (.cmpeq ra o rc) :=
  opcode_opr _ _ _ _ _

/-- S8ADDQ. -/
theorem s8addq (ra : Reg) (o : Operand) (rc : Reg) : Statement (.s8addq ra o rc) :=
  opcode_opr _ _ _ _ _

/-- S8SUBQ. -/
theorem s8subq (ra : Reg) (o : Operand) (rc : Reg) : Statement (.s8subq ra o rc) :=
  opcode_opr _ _ _ _ _

/-- CMPULE. -/
theorem cmpule (ra : Reg) (o : Operand) (rc : Reg) : Statement (.cmpule ra o rc) :=
  opcode_opr _ _ _ _ _

/-- ADDL_V. -/
theorem addlV (ra : Reg) (o : Operand) (rc : Reg) : Statement (.addlV ra o rc) :=
  opcode_opr _ _ _ _ _

/-- SUBL_V. -/
theorem sublV (ra : Reg) (o : Operand) (rc : Reg) : Statement (.sublV ra o rc) :=
  opcode_opr _ _ _ _ _

/-- CMPLT. -/
theorem cmplt (ra : Reg) (o : Operand) (rc : Reg) : Statement (.cmplt ra o rc) :=
  opcode_opr _ _ _ _ _

/-- ADDQ_V. -/
theorem addqV (ra : Reg) (o : Operand) (rc : Reg) : Statement (.addqV ra o rc) :=
  opcode_opr _ _ _ _ _

/-- SUBQ_V. -/
theorem subqV (ra : Reg) (o : Operand) (rc : Reg) : Statement (.subqV ra o rc) :=
  opcode_opr _ _ _ _ _

/-- CMPLE. -/
theorem cmple (ra : Reg) (o : Operand) (rc : Reg) : Statement (.cmple ra o rc) :=
  opcode_opr _ _ _ _ _

/-- AND. -/
theorem and (ra : Reg) (o : Operand) (rc : Reg) : Statement (.and ra o rc) :=
  opcode_opr _ _ _ _ _

/-- BIC. -/
theorem bic (ra : Reg) (o : Operand) (rc : Reg) : Statement (.bic ra o rc) :=
  opcode_opr _ _ _ _ _

/-- CMOVLBS. -/
theorem cmovlbs (ra : Reg) (o : Operand) (rc : Reg) : Statement (.cmovlbs ra o rc) :=
  opcode_opr _ _ _ _ _

/-- CMOVLBC. -/
theorem cmovlbc (ra : Reg) (o : Operand) (rc : Reg) : Statement (.cmovlbc ra o rc) :=
  opcode_opr _ _ _ _ _

/-- BIS. -/
theorem bis (ra : Reg) (o : Operand) (rc : Reg) : Statement (.bis ra o rc) :=
  opcode_opr _ _ _ _ _

/-- CMOVEQ. -/
theorem cmoveq (ra : Reg) (o : Operand) (rc : Reg) : Statement (.cmoveq ra o rc) :=
  opcode_opr _ _ _ _ _

/-- CMOVNE. -/
theorem cmovne (ra : Reg) (o : Operand) (rc : Reg) : Statement (.cmovne ra o rc) :=
  opcode_opr _ _ _ _ _

/-- ORNOT. -/
theorem ornot (ra : Reg) (o : Operand) (rc : Reg) : Statement (.ornot ra o rc) :=
  opcode_opr _ _ _ _ _

/-- XOR. -/
theorem xor (ra : Reg) (o : Operand) (rc : Reg) : Statement (.xor ra o rc) :=
  opcode_opr _ _ _ _ _

/-- CMOVLT. -/
theorem cmovlt (ra : Reg) (o : Operand) (rc : Reg) : Statement (.cmovlt ra o rc) :=
  opcode_opr _ _ _ _ _

/-- CMOVGE. -/
theorem cmovge (ra : Reg) (o : Operand) (rc : Reg) : Statement (.cmovge ra o rc) :=
  opcode_opr _ _ _ _ _

/-- EQV. -/
theorem eqv (ra : Reg) (o : Operand) (rc : Reg) : Statement (.eqv ra o rc) :=
  opcode_opr _ _ _ _ _

/-- AMASK. -/
theorem amask (o : Operand) (rc : Reg) : Statement (.amask o rc) :=
  opcode_opr _ _ _ _ _

/-- CMOVLE. -/
theorem cmovle (ra : Reg) (o : Operand) (rc : Reg) : Statement (.cmovle ra o rc) :=
  opcode_opr _ _ _ _ _

/-- CMOVGT. -/
theorem cmovgt (ra : Reg) (o : Operand) (rc : Reg) : Statement (.cmovgt ra o rc) :=
  opcode_opr _ _ _ _ _

/-- IMPLVER. -/
theorem implver (o : Operand) (rc : Reg) : Statement (.implver o rc) :=
  opcode_opr _ _ _ _ _

/-- MSKBL. -/
theorem mskbl (ra : Reg) (o : Operand) (rc : Reg) : Statement (.mskbl ra o rc) :=
  opcode_opr _ _ _ _ _

/-- EXTBL. -/
theorem extbl (ra : Reg) (o : Operand) (rc : Reg) : Statement (.extbl ra o rc) :=
  opcode_opr _ _ _ _ _

/-- INSBL. -/
theorem insbl (ra : Reg) (o : Operand) (rc : Reg) : Statement (.insbl ra o rc) :=
  opcode_opr _ _ _ _ _

/-- MSKWL. -/
theorem mskwl (ra : Reg) (o : Operand) (rc : Reg) : Statement (.mskwl ra o rc) :=
  opcode_opr _ _ _ _ _

/-- EXTWL. -/
theorem extwl (ra : Reg) (o : Operand) (rc : Reg) : Statement (.extwl ra o rc) :=
  opcode_opr _ _ _ _ _

/-- INSWL. -/
theorem inswl (ra : Reg) (o : Operand) (rc : Reg) : Statement (.inswl ra o rc) :=
  opcode_opr _ _ _ _ _

/-- MSKLL. -/
theorem mskll (ra : Reg) (o : Operand) (rc : Reg) : Statement (.mskll ra o rc) :=
  opcode_opr _ _ _ _ _

/-- EXTLL. -/
theorem extll (ra : Reg) (o : Operand) (rc : Reg) : Statement (.extll ra o rc) :=
  opcode_opr _ _ _ _ _

/-- INSLL. -/
theorem insll (ra : Reg) (o : Operand) (rc : Reg) : Statement (.insll ra o rc) :=
  opcode_opr _ _ _ _ _

/-- ZAP. -/
theorem zap (ra : Reg) (o : Operand) (rc : Reg) : Statement (.zap ra o rc) :=
  opcode_opr _ _ _ _ _

/-- ZAPNOT. -/
theorem zapnot (ra : Reg) (o : Operand) (rc : Reg) : Statement (.zapnot ra o rc) :=
  opcode_opr _ _ _ _ _

/-- MSKQL. -/
theorem mskql (ra : Reg) (o : Operand) (rc : Reg) : Statement (.mskql ra o rc) :=
  opcode_opr _ _ _ _ _

/-- SRL. -/
theorem srl (ra : Reg) (o : Operand) (rc : Reg) : Statement (.srl ra o rc) :=
  opcode_opr _ _ _ _ _

/-- EXTQL. -/
theorem extql (ra : Reg) (o : Operand) (rc : Reg) : Statement (.extql ra o rc) :=
  opcode_opr _ _ _ _ _

/-- SLL. -/
theorem sll (ra : Reg) (o : Operand) (rc : Reg) : Statement (.sll ra o rc) :=
  opcode_opr _ _ _ _ _

/-- INSQL. -/
theorem insql (ra : Reg) (o : Operand) (rc : Reg) : Statement (.insql ra o rc) :=
  opcode_opr _ _ _ _ _

/-- SRA. -/
theorem sra (ra : Reg) (o : Operand) (rc : Reg) : Statement (.sra ra o rc) :=
  opcode_opr _ _ _ _ _

/-- MSKWH. -/
theorem mskwh (ra : Reg) (o : Operand) (rc : Reg) : Statement (.mskwh ra o rc) :=
  opcode_opr _ _ _ _ _

/-- INSWH. -/
theorem inswh (ra : Reg) (o : Operand) (rc : Reg) : Statement (.inswh ra o rc) :=
  opcode_opr _ _ _ _ _

/-- EXTWH. -/
theorem extwh (ra : Reg) (o : Operand) (rc : Reg) : Statement (.extwh ra o rc) :=
  opcode_opr _ _ _ _ _

/-- MSKLH. -/
theorem msklh (ra : Reg) (o : Operand) (rc : Reg) : Statement (.msklh ra o rc) :=
  opcode_opr _ _ _ _ _

/-- INSLH. -/
theorem inslh (ra : Reg) (o : Operand) (rc : Reg) : Statement (.inslh ra o rc) :=
  opcode_opr _ _ _ _ _

/-- EXTLH. -/
theorem extlh (ra : Reg) (o : Operand) (rc : Reg) : Statement (.extlh ra o rc) :=
  opcode_opr _ _ _ _ _

/-- MSKQH. -/
theorem mskqh (ra : Reg) (o : Operand) (rc : Reg) : Statement (.mskqh ra o rc) :=
  opcode_opr _ _ _ _ _

/-- INSQH. -/
theorem insqh (ra : Reg) (o : Operand) (rc : Reg) : Statement (.insqh ra o rc) :=
  opcode_opr _ _ _ _ _

/-- EXTQH. -/
theorem extqh (ra : Reg) (o : Operand) (rc : Reg) : Statement (.extqh ra o rc) :=
  opcode_opr _ _ _ _ _

/-- MULL. -/
theorem mull (ra : Reg) (o : Operand) (rc : Reg) : Statement (.mull ra o rc) :=
  opcode_opr _ _ _ _ _

/-- MULQ. -/
theorem mulq (ra : Reg) (o : Operand) (rc : Reg) : Statement (.mulq ra o rc) :=
  opcode_opr _ _ _ _ _

/-- UMULH. -/
theorem umulh (ra : Reg) (o : Operand) (rc : Reg) : Statement (.umulh ra o rc) :=
  opcode_opr _ _ _ _ _

/-- MULL_V. -/
theorem mullV (ra : Reg) (o : Operand) (rc : Reg) : Statement (.mullV ra o rc) :=
  opcode_opr _ _ _ _ _

/-- MULQ_V. -/
theorem mulqV (ra : Reg) (o : Operand) (rc : Reg) : Statement (.mulqV ra o rc) :=
  opcode_opr _ _ _ _ _

/-- SEXTB. -/
theorem sextb (o : Operand) (rc : Reg) : Statement (.sextb o rc) :=
  opcode_opr _ _ _ _ _

/-- SEXTW. -/
theorem sextw (o : Operand) (rc : Reg) : Statement (.sextw o rc) :=
  opcode_opr _ _ _ _ _

/-- CTPOP. -/
theorem ctpop (o : Operand) (rc : Reg) : Statement (.ctpop o rc) :=
  opcode_opr _ _ _ _ _

/-- PERR. -/
theorem perr (ra : Reg) (o : Operand) (rc : Reg) : Statement (.perr ra o rc) :=
  opcode_opr _ _ _ _ _

/-- CTLZ. -/
theorem ctlz (o : Operand) (rc : Reg) : Statement (.ctlz o rc) :=
  opcode_opr _ _ _ _ _

/-- CTTZ. -/
theorem cttz (o : Operand) (rc : Reg) : Statement (.cttz o rc) :=
  opcode_opr _ _ _ _ _

/-- UNPKBW. -/
theorem unpkbw (o : Operand) (rc : Reg) : Statement (.unpkbw o rc) :=
  opcode_opr _ _ _ _ _

/-- UNPKBL. -/
theorem unpkbl (o : Operand) (rc : Reg) : Statement (.unpkbl o rc) :=
  opcode_opr _ _ _ _ _

/-- PKWB. -/
theorem pkwb (o : Operand) (rc : Reg) : Statement (.pkwb o rc) :=
  opcode_opr _ _ _ _ _

/-- PKLB. -/
theorem pklb (o : Operand) (rc : Reg) : Statement (.pklb o rc) :=
  opcode_opr _ _ _ _ _

/-- MINSB8. -/
theorem minsb8 (ra : Reg) (o : Operand) (rc : Reg) : Statement (.minsb8 ra o rc) :=
  opcode_opr _ _ _ _ _

/-- MINSW4. -/
theorem minsw4 (ra : Reg) (o : Operand) (rc : Reg) : Statement (.minsw4 ra o rc) :=
  opcode_opr _ _ _ _ _

/-- MINUB8. -/
theorem minub8 (ra : Reg) (o : Operand) (rc : Reg) : Statement (.minub8 ra o rc) :=
  opcode_opr _ _ _ _ _

/-- MINUW4. -/
theorem minuw4 (ra : Reg) (o : Operand) (rc : Reg) : Statement (.minuw4 ra o rc) :=
  opcode_opr _ _ _ _ _

/-- MAXUB8. -/
theorem maxub8 (ra : Reg) (o : Operand) (rc : Reg) : Statement (.maxub8 ra o rc) :=
  opcode_opr _ _ _ _ _

/-- MAXUW4. -/
theorem maxuw4 (ra : Reg) (o : Operand) (rc : Reg) : Statement (.maxuw4 ra o rc) :=
  opcode_opr _ _ _ _ _

/-- MAXSB8. -/
theorem maxsb8 (ra : Reg) (o : Operand) (rc : Reg) : Statement (.maxsb8 ra o rc) :=
  opcode_opr _ _ _ _ _

/-- MAXSW4. -/
theorem maxsw4 (ra : Reg) (o : Operand) (rc : Reg) : Statement (.maxsw4 ra o rc) :=
  opcode_opr _ _ _ _ _

/-- FTOIT. -/
theorem ftoit (fa rc : Reg) : Statement (.ftoit fa rc) :=
  opcode_opr _ _ _ _ _

/-- FTOIS. -/
theorem ftois (fa rc : Reg) : Statement (.ftois fa rc) :=
  opcode_opr _ _ _ _ _

/-- ADDS. -/
theorem adds (q : Qual) (fa fb fc : Reg) : Statement (.adds q fa fb fc) :=
  opcode_fpq _ _ _ _ _ _

/-- SUBS. -/
theorem subs (q : Qual) (fa fb fc : Reg) : Statement (.subs q fa fb fc) :=
  opcode_fpq _ _ _ _ _ _

/-- MULS. -/
theorem muls (q : Qual) (fa fb fc : Reg) : Statement (.muls q fa fb fc) :=
  opcode_fpq _ _ _ _ _ _

/-- DIVS. -/
theorem divs (q : Qual) (fa fb fc : Reg) : Statement (.divs q fa fb fc) :=
  opcode_fpq _ _ _ _ _ _

/-- ADDT. -/
theorem addt (q : Qual) (fa fb fc : Reg) : Statement (.addt q fa fb fc) :=
  opcode_fpq _ _ _ _ _ _

/-- SUBT. -/
theorem subt (q : Qual) (fa fb fc : Reg) : Statement (.subt q fa fb fc) :=
  opcode_fpq _ _ _ _ _ _

/-- MULT. -/
theorem mult (q : Qual) (fa fb fc : Reg) : Statement (.mult q fa fb fc) :=
  opcode_fpq _ _ _ _ _ _

/-- DIVT. -/
theorem divt (q : Qual) (fa fb fc : Reg) : Statement (.divt q fa fb fc) :=
  opcode_fpq _ _ _ _ _ _

/-- CMPTUN. -/
theorem cmptun (q : Qual) (fa fb fc : Reg) : Statement (.cmptun q fa fb fc) :=
  opcode_fpq _ _ _ _ _ _

/-- CMPTEQ. -/
theorem cmpteq (q : Qual) (fa fb fc : Reg) : Statement (.cmpteq q fa fb fc) :=
  opcode_fpq _ _ _ _ _ _

/-- CMPTLT. -/
theorem cmptlt (q : Qual) (fa fb fc : Reg) : Statement (.cmptlt q fa fb fc) :=
  opcode_fpq _ _ _ _ _ _

/-- CMPTLE. -/
theorem cmptle (q : Qual) (fa fb fc : Reg) : Statement (.cmptle q fa fb fc) :=
  opcode_fpq _ _ _ _ _ _

/-- CVTTS. -/
theorem cvtts (q : Qual) (fb fc : Reg) : Statement (.cvtts q fb fc) :=
  opcode_fpq _ _ _ _ _ _

/-- CVTTQ. -/
theorem cvttq (q : Qual) (fb fc : Reg) : Statement (.cvttq q fb fc) :=
  opcode_fpq _ _ _ _ _ _

/-- CVTQS. -/
theorem cvtqs (q : Qual) (fb fc : Reg) : Statement (.cvtqs q fb fc) :=
  opcode_fpq _ _ _ _ _ _

/-- CVTQT. -/
theorem cvtqt (q : Qual) (fb fc : Reg) : Statement (.cvtqt q fb fc) :=
  opcode_fpq _ _ _ _ _ _

/-- CVTST. -/
theorem cvtst (sw : Bool) (fb fc : Reg) : Statement (.cvtst sw fb fc) :=
  by cases sw <;> exact opcode_fp _ _ _ _ _

/-- ADDF. -/
theorem addf (q : Qual) (fa fb fc : Reg) : Statement (.addf q fa fb fc) :=
  opcode_fpq _ _ _ _ _ _

/-- SUBF. -/
theorem subf (q : Qual) (fa fb fc : Reg) : Statement (.subf q fa fb fc) :=
  opcode_fpq _ _ _ _ _ _

/-- MULF. -/
theorem mulf (q : Qual) (fa fb fc : Reg) : Statement (.mulf q fa fb fc) :=
  opcode_fpq _ _ _ _ _ _

/-- DIVF. -/
theorem divf (q : Qual) (fa fb fc : Reg) : Statement (.divf q fa fb fc) :=
  opcode_fpq _ _ _ _ _ _

/-- CVTDG. -/
theorem cvtdg (q : Qual) (fb fc : Reg) : Statement (.cvtdg q fb fc) :=
  opcode_fpq _ _ _ _ _ _

/-- ADDG. -/
theorem addg (q : Qual) (fa fb fc : Reg) : Statement (.addg q fa fb fc) :=
  opcode_fpq _ _ _ _ _ _

/-- SUBG. -/
theorem subg (q : Qual) (fa fb fc : Reg) : Statement (.subg q fa fb fc) :=
  opcode_fpq _ _ _ _ _ _

/-- MULG. -/
theorem mulg (q : Qual) (fa fb fc : Reg) : Statement (.mulg q fa fb fc) :=
  opcode_fpq _ _ _ _ _ _

/-- DIVG. -/
theorem divg (q : Qual) (fa fb fc : Reg) : Statement (.divg q fa fb fc) :=
  opcode_fpq _ _ _ _ _ _

/-- CMPGEQ. -/
theorem cmpgeq (q : Qual) (fa fb fc : Reg) : Statement (.cmpgeq q fa fb fc) :=
  opcode_fpq _ _ _ _ _ _

/-- CMPGLT. -/
theorem cmpglt (q : Qual) (fa fb fc : Reg) : Statement (.cmpglt q fa fb fc) :=
  opcode_fpq _ _ _ _ _ _

/-- CMPGLE. -/
theorem cmpgle (q : Qual) (fa fb fc : Reg) : Statement (.cmpgle q fa fb fc) :=
  opcode_fpq _ _ _ _ _ _

/-- CVTGF. -/
theorem cvtgf (q : Qual) (fb fc : Reg) : Statement (.cvtgf q fb fc) :=
  opcode_fpq _ _ _ _ _ _

/-- CVTGD. -/
theorem cvtgd (q : Qual) (fb fc : Reg) : Statement (.cvtgd q fb fc) :=
  opcode_fpq _ _ _ _ _ _

/-- CVTGQ. -/
theorem cvtgq (q : Qual) (fb fc : Reg) : Statement (.cvtgq q fb fc) :=
  opcode_fpq _ _ _ _ _ _

/-- CVTQF. -/
theorem cvtqf (q : Qual) (fb fc : Reg) : Statement (.cvtqf q fb fc) :=
  opcode_fpq _ _ _ _ _ _

/-- CVTQG. -/
theorem cvtqg (q : Qual) (fb fc : Reg) : Statement (.cvtqg q fb fc) :=
  opcode_fpq _ _ _ _ _ _

/-- ITOFS. -/
theorem itofs (ra fc : Reg) : Statement (.itofs ra fc) :=
  opcode_fp _ _ _ _ _

/-- ITOFF. -/
theorem itoff (ra fc : Reg) : Statement (.itoff ra fc) :=
  opcode_fp _ _ _ _ _

/-- ITOFT. -/
theorem itoft (ra fc : Reg) : Statement (.itoft ra fc) :=
  opcode_fp _ _ _ _ _

/-- SQRTF. -/
theorem sqrtf (q : Qual) (fb fc : Reg) : Statement (.sqrtf q fb fc) :=
  opcode_fpq _ _ _ _ _ _

/-- SQRTG. -/
theorem sqrtg (q : Qual) (fb fc : Reg) : Statement (.sqrtg q fb fc) :=
  opcode_fpq _ _ _ _ _ _

/-- SQRTS. -/
theorem sqrts (q : Qual) (fb fc : Reg) : Statement (.sqrts q fb fc) :=
  opcode_fpq _ _ _ _ _ _

/-- SQRTT. -/
theorem sqrtt (q : Qual) (fb fc : Reg) : Statement (.sqrtt q fb fc) :=
  opcode_fpq _ _ _ _ _ _

/-- CVTLQ. -/
theorem cvtlq (fb fc : Reg) : Statement (.cvtlq fb fc) :=
  opcode_fp _ _ _ _ _

/-- CPYS. -/
theorem cpys (fa fb fc : Reg) : Statement (.cpys fa fb fc) :=
  opcode_fp _ _ _ _ _

/-- CPYSN. -/
theorem cpysn (fa fb fc : Reg) : Statement (.cpysn fa fb fc) :=
  opcode_fp _ _ _ _ _

/-- CPYSE. -/
theorem cpyse (fa fb fc : Reg) : Statement (.cpyse fa fb fc) :=
  opcode_fp _ _ _ _ _

/-- MT_FPCR. -/
theorem mtFpcr (fa fb fc : Reg) : Statement (.mtFpcr fa fb fc) :=
  opcode_fp _ _ _ _ _

/-- MF_FPCR. -/
theorem mfFpcr (fa fb fc : Reg) : Statement (.mfFpcr fa fb fc) :=
  opcode_fp _ _ _ _ _

/-- FCMOVEQ. -/
theorem fcmoveq (fa fb fc : Reg) : Statement (.fcmoveq fa fb fc) :=
  opcode_fp _ _ _ _ _

/-- FCMOVNE. -/
theorem fcmovne (fa fb fc : Reg) : Statement (.fcmovne fa fb fc) :=
  opcode_fp _ _ _ _ _

/-- FCMOVLT. -/
theorem fcmovlt (fa fb fc : Reg) : Statement (.fcmovlt fa fb fc) :=
  opcode_fp _ _ _ _ _

/-- FCMOVGE. -/
theorem fcmovge (fa fb fc : Reg) : Statement (.fcmovge fa fb fc) :=
  opcode_fp _ _ _ _ _

/-- FCMOVLE. -/
theorem fcmovle (fa fb fc : Reg) : Statement (.fcmovle fa fb fc) :=
  opcode_fp _ _ _ _ _

/-- FCMOVGT. -/
theorem fcmovgt (fa fb fc : Reg) : Statement (.fcmovgt fa fb fc) :=
  opcode_fp _ _ _ _ _

/-- CVTQL. -/
theorem cvtql (tr : Trap) (fb fc : Reg) : Statement (.cvtql tr fb fc) :=
  opcode_fpq _ _ _ _ _ _

/-- TRAPB. -/
theorem trapb (ra rb : Reg) : Statement (.trapb ra rb) :=
  opcode_mem _ _ _ _

/-- EXCB. -/
theorem excb (ra rb : Reg) : Statement (.excb ra rb) :=
  opcode_mem _ _ _ _

/-- MB. -/
theorem mb (ra rb : Reg) : Statement (.mb ra rb) :=
  opcode_mem _ _ _ _

/-- WMB. -/
theorem wmb (ra rb : Reg) : Statement (.wmb ra rb) :=
  opcode_mem _ _ _ _

/-- FETCH. -/
theorem fetch (ra rb : Reg) : Statement (.fetch ra rb) :=
  opcode_mem _ _ _ _

/-- FETCH_M. -/
theorem fetchM (ra rb : Reg) : Statement (.fetchM ra rb) :=
  opcode_mem _ _ _ _

/-- RPCC. -/
theorem rpcc (ra rb : Reg) : Statement (.rpcc ra rb) :=
  opcode_mem _ _ _ _

/-- RC. -/
theorem rc (ra rb : Reg) : Statement (.rc ra rb) :=
  opcode_mem _ _ _ _

/-- ECB. -/
theorem ecb (ra rb : Reg) : Statement (.ecb ra rb) :=
  opcode_mem _ _ _ _

/-- RS. -/
theorem rs (ra rb : Reg) : Statement (.rs ra rb) :=
  opcode_mem _ _ _ _

/-- WH64. -/
theorem wh64 (ra rb : Reg) : Statement (.wh64 ra rb) :=
  opcode_mem _ _ _ _

/-- WH64EN. -/
theorem wh64en (ra rb : Reg) : Statement (.wh64en ra rb) :=
  opcode_mem _ _ _ _

/-- JMP. -/
theorem jmp (ra rb : Reg) (hint : BitVec 14) : Statement (.jmp ra rb hint) :=
  opcode_jump _ _ _ _

/-- JSR. -/
theorem jsr (ra rb : Reg) (hint : BitVec 14) : Statement (.jsr ra rb hint) :=
  opcode_jump _ _ _ _

/-- RET. -/
theorem ret (ra rb : Reg) (hint : BitVec 14) : Statement (.ret ra rb hint) :=
  opcode_jump _ _ _ _

/-- JSR_COROUTINE. -/
theorem jsrCoroutine (ra rb : Reg) (hint : BitVec 14) : Statement (.jsrCoroutine ra rb hint) :=
  opcode_jump _ _ _ _

/-- BR. -/
theorem br (ra : Reg) (disp : BitVec 21) : Statement (.br ra disp) :=
  opcode_bra _ _ _

/-- FBEQ. -/
theorem fbeq (ra : Reg) (disp : BitVec 21) : Statement (.fbeq ra disp) :=
  opcode_bra _ _ _

/-- FBLT. -/
theorem fblt (ra : Reg) (disp : BitVec 21) : Statement (.fblt ra disp) :=
  opcode_bra _ _ _

/-- FBLE. -/
theorem fble (ra : Reg) (disp : BitVec 21) : Statement (.fble ra disp) :=
  opcode_bra _ _ _

/-- BSR. -/
theorem bsr (ra : Reg) (disp : BitVec 21) : Statement (.bsr ra disp) :=
  opcode_bra _ _ _

/-- FBNE. -/
theorem fbne (ra : Reg) (disp : BitVec 21) : Statement (.fbne ra disp) :=
  opcode_bra _ _ _

/-- FBGE. -/
theorem fbge (ra : Reg) (disp : BitVec 21) : Statement (.fbge ra disp) :=
  opcode_bra _ _ _

/-- FBGT. -/
theorem fbgt (ra : Reg) (disp : BitVec 21) : Statement (.fbgt ra disp) :=
  opcode_bra _ _ _

/-- BLBC. -/
theorem blbc (ra : Reg) (disp : BitVec 21) : Statement (.blbc ra disp) :=
  opcode_bra _ _ _

/-- BEQ. -/
theorem beq (ra : Reg) (disp : BitVec 21) : Statement (.beq ra disp) :=
  opcode_bra _ _ _

/-- BLT. -/
theorem blt (ra : Reg) (disp : BitVec 21) : Statement (.blt ra disp) :=
  opcode_bra _ _ _

/-- BLE. -/
theorem ble (ra : Reg) (disp : BitVec 21) : Statement (.ble ra disp) :=
  opcode_bra _ _ _

/-- BLBS. -/
theorem blbs (ra : Reg) (disp : BitVec 21) : Statement (.blbs ra disp) :=
  opcode_bra _ _ _

/-- BNE. -/
theorem bne (ra : Reg) (disp : BitVec 21) : Statement (.bne ra disp) :=
  opcode_bra _ _ _

/-- BGE. -/
theorem bge (ra : Reg) (disp : BitVec 21) : Statement (.bge ra disp) :=
  opcode_bra _ _ _

/-- BGT. -/
theorem bgt (ra : Reg) (disp : BitVec 21) : Statement (.bgt ra disp) :=
  opcode_bra _ _ _

/-- HW_MFPR. -/
theorem hwMfpr (ra : Reg) (index : BitVec 16) : Statement (.hwMfpr ra index) :=
  opcode_mem _ _ _ _

/-- HW_LD. -/
theorem hwLd (ra rb : Reg) (quad : Bool) (disp : BitVec 12) : Statement (.hwLd ra rb quad disp) :=
  opcode_hwmem _ _ _ _ _

/-- HW_MTPR. -/
theorem hwMtpr (ra : Reg) (index : BitVec 16) : Statement (.hwMtpr ra index) :=
  opcode_mem _ _ _ _

/-- HW_REI. -/
theorem hwRei : Statement (.hwRei) :=
  rfl

/-- HW_ST. -/
theorem hwSt (ra rb : Reg) (quad : Bool) (disp : BitVec 12) : Statement (.hwSt ra rb quad disp) :=
  opcode_hwmem _ _ _ _ _

end EncodeOpcode

end Sys2Proof.Laws
end

