-- ==== Sys2Proof/Laws/Step.lean ====
section
/-! SUPPORT. What one step can do, said once: `step_cases`. An invariant of the machine is proved by its cases. And what
`run_until` answers, and that every VECTOR_IPL can be given. -/

namespace Sys2Proof.Machine

/-- The state a boundary step runs in: sleep has ended, commands of the TLB inbox may have been applied, draws taken. -/
def Prepared (s u : State) : Prop :=
  s.cpu.halted = false ∧ ∃ a b c d, u = { s with
    cpu := { s.cpu with sleeping := false, tbiIn := a, itb := b, dtb := c }, draws := d }

/-- Everything a boundary step can do (60_exceptions.md R855). -/
inductive Bound (s : State) : State → Prop
  /-- A halted CPU does nothing but clear a halt request. -/
  | halted (h : s.cpu.halted = true) : Bound s { s with cpu := { s.cpu with haltReq := false } }
  /-- A halt request is observed. -/
  | halt (h : s.cpu.halted = false) (hr : s.cpu.haltReq = true) :
      Bound s (State.tick { s with cpu := { s.cpu with halted := true, sleeping := false, haltReq := false } })
  /-- A sleeping CPU sleeps on. -/
  | sleep (h : s.cpu.halted = false) (hs : s.cpu.sleeping = true) : Bound s (State.tick s)
  /-- The pending arithmetic trap is delivered. -/
  | arith {u : State} (hu : Prepared s u) (hp : u.cpu.pend.valid = true) : Bound s (State.tick (State.deliverArith u))
  /-- An interrupt is taken. -/
  | interrupt {u : State} (hu : Prepared s u) (q : Irq) (hq : State.dueInterrupt u = some q) :
      Bound s (State.tick (State.takeInterrupt u q))
  /-- The fetch or the word raises an exception. -/
  | exc {u w : State} (hu : Prepared s u) (hw : Quiet u w) (e : Exc) : Bound s (State.tick (State.take w e))
  /-- An instruction runs. -/
  | run {u w : State} (hu : Prepared s u) (hw : Quiet u w) (i : Instr) {v : State} (hv : exec i w = .next v) :
      Bound s (State.tick v)

/-- An invalidation changes only the two TLBs. -/
theorem tbi_eq (c : Cpu) (cmd : TbiCmd) : ∃ b d, Cpu.tbi c cmd = { c with itb := b, dtb := d } := by
  cases cmd <;> exact ⟨_, _, rfl⟩

/-- So do several. -/
theorem foldl_tbi_eq (cmds : List TbiCmd) (c : Cpu) : ∃ b d, cmds.foldl Cpu.tbi c = { c with itb := b, dtb := d } := by
  induction cmds generalizing c with
  | nil => exact ⟨_, _, rfl⟩
  | cons x xs ih =>
    obtain ⟨b, d, h⟩ := tbi_eq c x
    obtain ⟨b', d', h'⟩ := ih (Cpu.tbi c x)
    refine ⟨b', d', ?_⟩
    rw [List.foldl_cons, h', h]

/-- Consuming the TLB inbox. -/
theorem prepared_consumeTbi (s : State) (h : s.cpu.halted = false) :
    Prepared s (State.consumeTbi { s with cpu := { s.cpu with sleeping := false } }) := by
  refine ⟨h, ?_⟩
  unfold State.consumeTbi
  dsimp only
  split
  · exact ⟨_, _, _, _, rfl⟩
  · obtain ⟨b, d, hb⟩ := foldl_tbi_eq (s.cpu.tbiIn.take (Config.tbiConsume s.draws)) { s.cpu with sleeping := false }
    rw [hb]
    exact ⟨_, _, _, _, rfl⟩

/-- A draw more. -/
theorem Prepared.bump {s u : State} (h : Prepared s u) : Prepared s (State.bump u) := by
  obtain ⟨h0, a, b, c, d, rfl⟩ := h
  exact ⟨h0, _, _, _, _, rfl⟩

/-- A word that is fetched and run. -/
theorem fetchExecute_cases {s t : State} (h : fetchExecute s = .next t) :
    (∃ w e, Quiet s w ∧ t = State.take w e) ∨ (∃ w i, Quiet s w ∧ exec i w = .next t) := by
  unfold fetchExecute at h
  have hq := quiet_fetchWord s
  revert h hq
  cases State.fetchWord s with
  | exc e w => intro h hq; cases h; exact .inl ⟨w, e, hq, rfl⟩
  | ok w u =>
    intro h hq
    dsimp only at h
    unfold runWord at h
    split at h
    · exact .inr ⟨u, _, hq, h⟩
    · cases h; exact .inl ⟨u, .opcdec, hq, rfl⟩
    · cases h
    · split at h
      · cases h
      · cases h; exact .inl ⟨u, .opcdec, hq, rfl⟩

/-- A boundary step. -/
theorem boundary_cases {s t : State} (h : boundary s = .next t) : Bound s t := by
  unfold boundary at h
  split at h
  · rename_i hh; cases h; exact .halted hh
  · rename_i hh
    have hh : s.cpu.halted = false := by simpa using hh
    split at h
    · rename_i hr; cases h; exact .halt hh hr
    · split at h
      · rename_i hs
        cases h
        exact .sleep hh (by simp_all)
      · have hp := prepared_consumeTbi s hh
        revert h hp
        generalize State.consumeTbi { s with cpu := { s.cpu with sleeping := false } } = u
        intro h hp
        unfold deliverOrRun at h
        dsimp only at h
        have hp' : Prepared s (if u.cpu.pend.valid then State.bump u else u) := by split; exacts [hp.bump, hp]
        have hv : (if u.cpu.pend.valid then State.bump u else u).cpu.pend.valid = u.cpu.pend.valid := by split <;> rfl
        split at h
        · rename_i hd
          cases h
          refine .arith hp' ?_
          rw [hv]
          simp_all
        · revert h
          generalize (if u.cpu.pend.valid then State.bump u else u) = u' at hp'
          intro h
          split at h
          · rename_i q hq
            cases h
            exact .interrupt hp' q hq
          · revert h
            cases hf : fetchExecute u' with
            | next v =>
              intro h
              cases h
              rcases fetchExecute_cases hf with ⟨w, e, hw, rfl⟩ | ⟨w, i, hw, hv⟩
              · exact .exc hp' hw e
              · exact .run hp' hw i hv
            | fault f => intro h; cases h
            | refused r => intro h; cases h

/-- Consuming the whole inbox changes the two TLBs and empties the inbox. -/
theorem consumeAll_eq (s : State) :
    ∃ b d, State.consumeAll s = { s with cpu := { s.cpu with itb := b, dtb := d, tbiIn := [] } } := by
  obtain ⟨b, d, h⟩ := foldl_tbi_eq s.cpu.tbiIn s.cpu
  exact ⟨b, d, by rw [State.consumeAll, h]⟩

/-- The drain of one entry. -/
theorem drainOne_eq {s t : State} {k : Nat} (h : State.drainOne s k = some t) :
    ∃ pa bs, s.cpu.sb[k]? = some (.store pa bs) ∧ t = State.completeStore
      { s with cpu := { s.cpu with sb := SbEntry.dropMarkers (s.cpu.sb.eraseIdx k) } } pa bs := by
  unfold State.drainOne at h
  split at h
  · rename_i pa bs hk
    split at h
    · cases h; exact ⟨pa, bs, hk, rfl⟩
    · cases h
  · cases h

/-- Everything an action of the current CPU can do (70_reset_and_hazards.md R930). -/
inductive Acted (s : State) : State → Prop
  /-- A boundary step. -/
  | boundary {t : State} (h : Bound s t) : Acted s t
  /-- The drain of one store. -/
  | drain (k pa : Nat) (bs : List Byte) (h : s.cpu.sb[k]? = some (.store pa bs)) : Acted s (State.completeStore
      { s with cpu := { s.cpu with sb := SbEntry.dropMarkers (s.cpu.sb.eraseIdx k) } } pa bs)
  /-- The consumption of the TLB inbox. -/
  | consume (b d : Tlb) : Acted s { s with cpu := { s.cpu with itb := b, dtb := d, tbiIn := [] } }

/-- An action. -/
theorem perform_cases {s t : State} {c : Choice} (h : perform s c = .next t) : Acted s t := by
  unfold perform at h
  split at h
  · exact .boundary (boundary_cases h)
  · split at h
    · rename_i k _ u hd
      cases h
      obtain ⟨pa, bs, hk, rfl⟩ := drainOne_eq hd
      exact .drain k pa bs hk
    · exact .boundary (boundary_cases h)
  · cases h
    obtain ⟨b, d, hc⟩ := consumeAll_eq s
    rw [hc]
    exact .consume b d

/-- The scheduler only changes which CPU is the current one and takes a draw. -/
theorem choose_cases (s : State) : (State.choose s).1 = s ∨ ∃ n, (State.choose s).1 = State.focus (State.bump s) n := by
  unfold State.choose
  split
  · exact .inl rfl
  · exact .inr ⟨_, rfl⟩

/-- ONE STEP: the machine's CPU, or the one the scheduler names, acts. -/
theorem step_cases {s t : State} (h : step s = .next t) :
    ∃ s', (s' = s ∨ ∃ n, s' = State.focus (State.bump s) n) ∧ Acted s' t :=
  ⟨_, choose_cases s, perform_cases h⟩

/-- A step with no scheduling choice is the boundary step. -/
theorem step_alone {s : State} (h : State.alone s = true) : step s = boundary s := by
  simp only [State.alone] at h
  simp [step, stepOne, State.choose, h, perform]

/-- A drain of another entry than the oldest leaves the oldest where it is (20_memory.md R172; `oldestLeaves`). -/
theorem drainOne_younger {s t : State} {i : Nat} (h : State.drainOne s (i + 1) = some t) :
    t.cpu.sb.head? = s.cpu.sb.head? := by
  unfold State.drainOne at h
  split at h
  · split at h
    · rename_i hp
      cases h
      cases hs : s.cpu.sb with
      | nil => simp_all
      | cons e es =>
        rw [hs] at hp
        cases e with
        | wmb => simp [SbEntry.canPass] at hp
        | store pb cs => simp [SbEntry.dropMarkers]
    · cases h
  · cases h

/-! `run_until`. -/

/-- What `runUntil` answers within its fuel is the outcome of the call (70_reset_and_hazards.md R931). -/
theorem runUntil_sound {stop : State → Bool} {n : Nat} {s : State} {o : Outcome} (h : runUntil stop n s = some o) :
    RunUntil stop s o := by
  induction n generalizing s with
  | zero =>
    simp only [runUntil] at h
    split at h
    · rename_i hs; cases h; exact .done hs
    · cases h
  | succ n ih =>
    simp only [runUntil] at h
    split at h
    · rename_i hs; cases h; exact .done hs
    · rename_i hs
      have hs : stop s = false := by simpa using hs
      split at h
      · rename_i t ht; exact .step hs ht (ih h)
      · rename_i f hf; cases h; exact .fault hs hf
      · rename_i r hr; cases h; exact .refused hs hr

/-- Every outcome of the call is what `runUntil` answers with enough fuel. -/
theorem runUntil_complete {stop : State → Bool} {s : State} {o : Outcome} (h : RunUntil stop s o) :
    ∃ n, runUntil stop n s = some o := by
  induction h with
  | done h => exact ⟨0, by simp [runUntil, h]⟩
  | step h hs _ ih => obtain ⟨n, hn⟩ := ih; exact ⟨n + 1, by simp [runUntil, h, hs, hn]⟩
  | fault h hs => exact ⟨1, by simp [runUntil, h, hs]⟩
  | refused h hs => exact ⟨1, by simp [runUntil, h, hs]⟩

/-- Every function from vectors to IPLs is the VECTOR_IPL of some table (60_exceptions.md R836; log 30). -/
theorem vectorIpl_any (p : Params) (f : BitVec 16 → BitVec 5) :
    ∃ l, ∀ v, Params.vectorIpl { p with vectorIpls := l } v = f v := by
  refine ⟨((List.range (2 ^ 16)).map (BitVec.ofNat 16)).map fun v => (v, f v), fun v => ?_⟩
  have h : v ∈ (List.range (2 ^ 16)).map (BitVec.ofNat 16) :=
    List.mem_map.2 ⟨v.toNat, List.mem_range.2 v.isLt, by simp⟩
  simp only [Params.vectorIpl, List.lookup_graph f h, Option.getD_some]

end Sys2Proof.Machine
end

