-- ==== Sys2Proof/Laws/Translate.lean ====
section
/-! SUPPORT. What a translation changes, said once: the TLB of its kind of access and the counter of draws, and nothing else
(20_memory.md R203, R204, R215). -/

namespace Sys2Proof.Machine

/-- At most the TLB that accesses of kind `k` use and the counter of draws changed. -/
def OnlyTlb (k : Kind) (s u : State) : Prop := ∃ t d, u = { State.withTlb s k t with draws := d }

namespace OnlyTlb

/-- Nothing changed. -/
theorem refl (k : Kind) (s : State) : OnlyTlb k s s := ⟨Cpu.tlb s.cpu k, s.draws, by cases k <;> rfl⟩

/-- One change after the other. -/
theorem trans {k : Kind} {s t u : State} (a : OnlyTlb k s t) (b : OnlyTlb k t u) : OnlyTlb k s u := by
  obtain ⟨x, d, rfl⟩ := a
  obtain ⟨y, e, rfl⟩ := b
  exact ⟨y, e, by cases k <;> rfl⟩

/-- A draw. -/
theorem bump (k : Kind) (s : State) : OnlyTlb k s (State.bump s) :=
  ⟨Cpu.tlb s.cpu k, s.draws + 1, by cases k <;> rfl⟩

/-- A new TLB. -/
theorem withTlb (k : Kind) (s : State) (t : Tlb) : OnlyTlb k s (State.withTlb s k t) :=
  ⟨t, s.draws, by cases k <;> rfl⟩

variable {k : Kind} {s u : State}

/-- Memory. -/
theorem mem (h : OnlyTlb k s u) : u.mem = s.mem := by obtain ⟨_, _, rfl⟩ := h; cases k <;> rfl
/-- The ROM. -/
theorem rom (h : OnlyTlb k s u) : u.rom = s.rom := by obtain ⟨_, _, rfl⟩ := h; cases k <;> rfl
/-- The store buffer. -/
theorem sb (h : OnlyTlb k s u) : u.cpu.sb = s.cpu.sb := by obtain ⟨_, _, rfl⟩ := h; cases k <;> rfl
/-- The parameters. -/
theorem cfg (h : OnlyTlb k s u) : u.cfg = s.cfg := by obtain ⟨_, _, rfl⟩ := h; cases k <;> rfl
/-- The MMIO regions. -/
theorem regions (h : OnlyTlb k s u) : u.regions = s.regions := by obtain ⟨_, _, rfl⟩ := h; cases k <;> rfl
/-- The reservation. -/
theorem lockFlag (h : OnlyTlb k s u) : u.cpu.lockFlag = s.cpu.lockFlag := by obtain ⟨_, _, rfl⟩ := h; cases k <;> rfl
/-- The pc. -/
theorem pc (h : OnlyTlb k s u) : u.cpu.pc = s.cpu.pc := by obtain ⟨_, _, rfl⟩ := h; cases k <;> rfl
/-- The routing of physical addresses. -/
theorem route (h : OnlyTlb k s u) (pa : Nat) : State.route u pa = State.route s pa := by
  simp [State.route, h.cfg, h.regions]
/-- The bytes loads read. -/
theorem loadByte (h : OnlyTlb k s u) (a : Nat) : State.loadByte u a = State.loadByte s a := by
  simp [State.loadByte, h.mem, h.sb]

/-- A data translation leaves everything but the data TLB alone. -/
theorem noCaches_data (h : OnlyTlb k s u) (hk : k ≠ .fetch) :
    State.noCaches u = State.noCaches { s with cpu := { s.cpu with dtb := u.cpu.dtb } } := by
  obtain ⟨_, _, rfl⟩ := h
  cases k
  · rfl
  · rfl
  · exact absurd rfl hk

end OnlyTlb

/-- Sequencing. -/
theorem onlyTlb_bind {α β : Type} {k : Kind} {s : State} {r : Res α} {f : α → State → Res β} (h : OnlyTlb k s r.state)
    (hf : ∀ a t, OnlyTlb k t (f a t).state) : OnlyTlb k s (Res.bind r f).state := by
  cases r with
  | ok a t => exact h.trans (hf a t)
  | exc e t => exact h

/-- The walker's read. -/
theorem onlyTlb_physWalk (k : Kind) (s : State) (pa : Nat) : OnlyTlb k s (State.physWalk s pa).state := by
  unfold State.physWalk
  split
  · exact .refl k s
  · unfold State.backend
    split
    · split <;> exact .bump k s
    · exact .refl k s
  all_goals exact .refl k s

/-- One level of the walk. -/
theorem onlyTlb_walkLevel (s : State) (a : Access) (va table : Word) (i : BitVec 10) :
    OnlyTlb a.kind s (State.walkLevel s a va table i).state := by
  unfold State.walkLevel
  refine onlyTlb_bind (onlyTlb_physWalk _ _ _) fun pte t => ?_
  split <;> exact .refl _ t

/-- TRANSLATION changes only the TLB of its kind of access and the counter of draws. -/
theorem onlyTlb_translate (s : State) (a : Access) (va : Word) : OnlyTlb a.kind s (State.translate s a va).state := by
  unfold State.translate
  split
  · exact .refl _ s
  · split
    · exact .refl _ s
    · refine onlyTlb_bind ?_ fun e t => ?_
      · unfold State.tlbEntry
        dsimp only
        split
        · exact .withTlb _ s _
        · refine onlyTlb_bind ((OnlyTlb.withTlb _ s (Tlb.countMiss (Cpu.tlb s.cpu a.kind))).trans ?_) fun leaf t => ?_
          · unfold State.walk
            exact onlyTlb_bind (onlyTlb_walkLevel _ _ _ _ _) fun _ _ =>
              onlyTlb_bind (onlyTlb_walkLevel _ _ _ _ _) fun _ _ => onlyTlb_walkLevel _ _ _ _ _
          · exact (OnlyTlb.withTlb _ t _).trans (.bump _ _)
      · split <;> exact .refl _ t

/-- A translation that succeeds. -/
theorem translate_ok {s u : State} {a : Access} {va pa : Word} (h : State.translate s a va = .ok pa u) :
    OnlyTlb a.kind s u := by
  have := onlyTlb_translate s a va
  rw [h] at this
  exact this

end Sys2Proof.Machine
end

