-- ==== Sys2Proof/Tests/Slice0.lean ====
section
/-! SUPPORT. The model's own tests: the checks of WellFormed on ill-formed terms, the decoder on words written out from the
encodings of 30_encoding.md (every constructor), single steps with results from 95_test_vectors.md, and for every obligation
with hypotheses a state that meets them (`witness_…`). -/

namespace Sys2Proof.Tests

open Sys2Proof Sys2Proof.Machine

/- One theorem after the other: each `decide +kernel` waits for all before it, and one waiting thread for each would take much
memory. -/
set_option Elab.async false

/-! States. -/

/-- Reset, with a changed CPU. -/
def withCpu (f : Cpu → Cpu) : State := { State.reset with cpu := f State.reset.cpu }

/-- Kernel mode at 0x1000, floating point enabled, R2 = 0x2000, bytes 1 to 8 at 0x2000. -/
def kernel : State :=
  { withCpu fun c => { c with ps := 0x1F80, pc := 0x1000, regs := c.regs.setIfInBounds 2 0x2000 } with
    mem := Memory.setBytes [] 0x2000 [1, 2, 3, 4, 5, 6, 7, 8] }

/-- The same in PAL mode. -/
def palMode : State := { kernel with cpu := { kernel.cpu with ps := 0x1FA0 } }

/-- The same in user mode, all interrupts open. -/
def user : State := { kernel with cpu := { kernel.cpu with ps := 0xD8 } }

/-- Kernel mode with translation on and the page tables of scenario S4 (95_test_vectors.md section 1.1). -/
def paged : State :=
  { kernel with
    cpu := { kernel.cpu with mmuCtl := 1, ptbr := 1 }
    mem := Memory.setBytes (Memory.setBytes (Memory.setBytes (Memory.setBytes [] 0x2000 (bytesOf 8 0x0000000200000001)) 0x4400
      (bytesOf 8 0x0000000300000001)) 0x6000 (bytesOf 8 0x0000008000001101)) 0x100000 (bytesOf 8 0x1111) }

/-- The TLB entry that S4 fills. -/
def filled : TlbEntry :=
  { set := 0, tag := 0x20000, asn := 0, global := false, base := 0x100000, perms := 0x11, fo := 0, shift := 13,
    dirty := false, referenced := false }

/-- `paged` with that entry in the data TLB. -/
def mapped : State := { paged with cpu := { paged.cpu with dtb := ⟨[filled], 0, 0⟩ } }

/-- The state after an instruction that completes. -/
def after (o : Outcome) : Option State :=
  match o with
  | .next t => some t
  | .fault _ => none
  | .refused _ => none

/-- The host error of a call that fails. -/
def faultOf (o : Outcome) : Option Fault :=
  match o with
  | .fault f => some f
  | .next _ => none
  | .refused _ => none

/-- The value of an operation that succeeds. -/
def value {α : Type} (r : Res α) : Option α :=
  match r with
  | .ok a _ => some a
  | .exc _ _ => none

/-- An operation that succeeds leaves a state. -/
theorem ok_of_value {α : Type} {r : Res α} {a : α} (h : value r = some a) : ∃ s, r = .ok a s := by
  cases r with
  | ok b s => cases h; exact ⟨s, rfl⟩
  | exc e s => cases h

/-- An instruction that completes has a next state. -/
theorem next_of_after {o : Outcome} (h : (after o).isSome = true) : ∃ t, o = .next t := by
  cases o with
  | next t => exact ⟨t, rfl⟩
  | fault f => cases h
  | refused r => cases h

/-! WellFormed: for each check an ill-formed term that it refuses. -/

/-- ADDS has no function with /S alone. -/
theorem test_wf_refuses_ieeeArith : Instr.wf (.adds ⟨.s, .normal⟩ 1 2 3) = false := by decide
/-- CMPTEQ rounds normally only. -/
theorem test_wf_refuses_ieeeCompare : Instr.wf (.cmpteq ⟨.none, .chopped⟩ 1 2 3) = false := by decide
/-- CVTQS has no /SU. -/
theorem test_wf_refuses_ieeeFromInt : Instr.wf (.cvtqs ⟨.su, .normal⟩ 1 2) = false := by decide
/-- ADDF has no directed rounding. -/
theorem test_wf_refuses_vaxArith : Instr.wf (.addf ⟨.none, .minus⟩ 1 2 3) = false := by decide
/-- CMPGEQ has no /U. -/
theorem test_wf_refuses_vaxCompare : Instr.wf (.cmpgeq ⟨.u, .normal⟩ 1 2 3) = false := by decide
/-- CVTQF has no trap qualifier. -/
theorem test_wf_refuses_vaxFromInt : Instr.wf (.cvtqf ⟨.s, .normal⟩ 1 2) = false := by decide
/-- CVTQL has no /S alone. -/
theorem test_wf_refuses_cvtql : Instr.wf (.cvtql .s 1 2) = false := by decide

/-! Decoding: words written out from the encodings of 30_encoding.md R302 to R310 and R319, every constructor once, the fields
from the high bits down. -/

/-- Every word decodes to the instruction beside it. -/
abbrev Decodes (l : List (IWord × Instr)) : Prop := ∀ p ∈ l, decode p.1 = .instr p.2

/-- CALL_PAL and the hardware-privileged instructions (R308, R310). -/
theorem test_decode_pal_and_privileged : Decodes [
    (0b000000_10000000000000000010000011, .callPal 0x2000083),
    (0b011001_01111_11111_0111111100011010, .hwMfpr 15 0x7F1A),
    (0b011011_10010_10100_100_0_000010101111, .hwLd 18 20 false 0x0AF),
    (0b011101_10101_11111_1000011010111100, .hwMtpr 21 0x86BC),
    (0b011110_00000000000000000000000000, .hwRei),
    (0b011111_11011_00100_100_1_000011010000, .hwSt 27 4 true 0x0D0)] := by
  decide

/-- The memory format (R302). -/
theorem test_decode_loads_and_stores : Decodes [
    (0b001000_00111_01100_1000011110100011, .lda 7 12 0x87A3),
    (0b001001_01010_10001_1000101101110100, .ldah 10 17 0x8B74),
    (0b001010_01101_10110_1000111101000101, .ldbu 13 22 0x8F45),
    (0b001011_10000_11011_1001001100010110, .ldqU 16 27 0x9316),
    (0b001100_10011_00001_1001011011100111, .ldwu 19 1 0x96E7),
    (0b001101_10110_00110_1001101010111000, .stw 22 6 0x9AB8),
    (0b001110_11001_01011_1001111010001001, .stb 25 11 0x9E89),
    (0b001111_11100_10000_1010001001011010, .stqU 28 16 0xA25A),
    (0b100000_00000_10101_1010011000101011, .ldf 0 21 0xA62B),
    (0b100001_00011_11010_1010100111111100, .ldg 3 26 0xA9FC),
    (0b100010_00110_00000_1010110111001101, .lds 6 0 0xADCD),
    (0b100011_01001_00101_1011000110011110, .ldt 9 5 0xB19E),
    (0b100100_01100_01010_1011010101101111, .stf 12 10 0xB56F),
    (0b100101_01111_01111_1011100101000000, .stg 15 15 0xB940),
    (0b100110_10010_10100_1011110100010001, .sts 18 20 0xBD11),
    (0b100111_10101_11001_1100000011100010, .stt 21 25 0xC0E2),
    (0b101000_11000_11110_1100010010110011, .ldl 24 30 0xC4B3),
    (0b101001_11011_00100_1100100010000100, .ldq 27 4 0xC884),
    (0b101010_11110_01001_1100110001010101, .ldlL 30 9 0xCC55),
    (0b101011_00010_01110_1101000000100110, .ldqL 2 14 0xD026),
    (0b101100_00101_10011_1101001111110111, .stl 5 19 0xD3F7),
    (0b101101_01000_11000_1101011111001000, .stq 8 24 0xD7C8),
    (0b101110_01011_11101_1101101110011001, .stlC 11 29 0xDB99),
    (0b101111_01110_00011_1101111101101010, .stqC 14 3 0xDF6A)] := by
  decide

/-- The branch and jump formats (R304, R305). -/
theorem test_decode_branches_and_jumps : Decodes [
    (0b011010_10001_01000_00_11101000101010, .jmp 17 8 0x3A2A),
    (0b011010_10100_01101_01_11101001001111, .jsr 20 13 0x3A4F),
    (0b011010_10111_10010_10_11101001110100, .ret 23 18 0x3A74),
    (0b011010_11010_10111_11_11101010011001, .jsrCoroutine 26 23 0x3A99),
    (0b110000_11101_111100001110010010000, .br 29 0x1E1C90),
    (0b110001_00001_111100011000000010111, .fbeq 1 0x1E3017),
    (0b110010_00100_111100100001110011110, .fblt 4 0x1E439E),
    (0b110011_00111_111100101011100100101, .fble 7 0x1E5725),
    (0b110100_01010_111100110101010101100, .bsr 10 0x1E6AAC),
    (0b110101_01101_111100111111000110011, .fbne 13 0x1E7E33),
    (0b110110_10000_111101001000110111010, .fbge 16 0x1E91BA),
    (0b110111_10011_111101010010101000001, .fbgt 19 0x1EA541),
    (0b111000_10110_111101011100011001000, .blbc 22 0x1EB8C8),
    (0b111001_11001_111101100110001001111, .beq 25 0x1ECC4F),
    (0b111010_11100_111101101111111010110, .blt 28 0x1EDFD6),
    (0b111011_00000_111101111001101011101, .ble 0 0x1EF35D),
    (0b111100_00011_111110000011011100100, .blbs 3 0x1F06E4),
    (0b111101_00110_111110001101001101011, .bne 6 0x1F1A6B),
    (0b111110_01001_111110010110111110010, .bge 9 0x1F2DF2),
    (0b111111_01100_111110100000101111001, .bgt 12 0x1F4179)] := by
  decide

/-- Opcode 0x10 (R306). -/
theorem test_decode_integer_arithmetic : Decodes [
    (0b010000_10001_01000_000_0_0000000_11110, .addl 17 (.reg 8) 30),
    (0b010000_10100_11010010_1_0000010_00110, .s4addl 20 (.lit 0xD2) 6),
    (0b010000_10111_10010_000_0_0001001_01101, .subl 23 (.reg 18) 13),
    (0b010000_11010_11011000_1_0001011_10100, .s4subl 26 (.lit 0xD8) 20),
    (0b010000_11101_11100_000_0_0001111_11011, .cmpbge 29 (.reg 28) 27),
    (0b010000_00001_11011110_1_0010010_00011, .s8addl 1 (.lit 0xDE) 3),
    (0b010000_00100_00111_000_0_0011011_01010, .s8subl 4 (.reg 7) 10),
    (0b010000_00111_11100100_1_0011101_10001, .cmpult 7 (.lit 0xE4) 17),
    (0b010000_01010_10001_000_0_0100000_11000, .addq 10 (.reg 17) 24),
    (0b010000_01101_11101010_1_0100010_00000, .s4addq 13 (.lit 0xEA) 0),
    (0b010000_10000_11011_000_0_0101001_00111, .subq 16 (.reg 27) 7),
    (0b010000_10011_11110000_1_0101011_01110, .s4subq 19 (.lit 0xF0) 14),
    (0b010000_10110_00110_000_0_0101101_10101, .cmpeq 22 (.reg 6) 21),
    (0b010000_11001_11110110_1_0110010_11100, .s8addq 25 (.lit 0xF6) 28),
    (0b010000_11100_10000_000_0_0111011_00100, .s8subq 28 (.reg 16) 4),
    (0b010000_00000_11111100_1_0111101_01011, .cmpule 0 (.lit 0xFC) 11),
    (0b010000_00011_11010_000_0_1000000_10010, .addlV 3 (.reg 26) 18),
    (0b010000_00110_00000010_1_1001001_11001, .sublV 6 (.lit 0x02) 25),
    (0b010000_01001_00101_000_0_1001101_00001, .cmplt 9 (.reg 5) 1),
    (0b010000_01100_00001000_1_1100000_01000, .addqV 12 (.lit 0x08) 8),
    (0b010000_01111_01111_000_0_1101001_01111, .subqV 15 (.reg 15) 15),
    (0b010000_10010_00001110_1_1101101_10110, .cmple 18 (.lit 0x0E) 22)] := by
  decide

/-- Opcode 0x11 (R306). -/
theorem test_decode_integer_logical : Decodes [
    (0b010001_10101_11001_000_0_0000000_11101, .and 21 (.reg 25) 29),
    (0b010001_11000_00010100_1_0001000_00101, .bic 24 (.lit 0x14) 5),
    (0b010001_11011_00100_000_0_0010100_01100, .cmovlbs 27 (.reg 4) 12),
    (0b010001_11110_00011010_1_0010110_10011, .cmovlbc 30 (.lit 0x1A) 19),
    (0b010001_00010_01110_000_0_0100000_11010, .bis 2 (.reg 14) 26),
    (0b010001_00101_00100000_1_0100100_00010, .cmoveq 5 (.lit 0x20) 2),
    (0b010001_01000_11000_000_0_0100110_01001, .cmovne 8 (.reg 24) 9),
    (0b010001_01011_00100110_1_0101000_10000, .ornot 11 (.lit 0x26) 16),
    (0b010001_01110_00011_000_0_1000000_10111, .xor 14 (.reg 3) 23),
    (0b010001_10001_00101100_1_1000100_11110, .cmovlt 17 (.lit 0x2C) 30),
    (0b010001_10100_01101_000_0_1000110_00110, .cmovge 20 (.reg 13) 6),
    (0b010001_10111_00110010_1_1001000_01101, .eqv 23 (.lit 0x32) 13),
    (0b010001_11111_10111_000_0_1100001_10100, .amask (.reg 23) 20),
    (0b010001_11101_00111000_1_1100100_11011, .cmovle 29 (.lit 0x38) 27),
    (0b010001_00001_00010_000_0_1100110_00011, .cmovgt 1 (.reg 2) 3),
    (0b010001_11111_00111110_1_1101100_01010, .implver (.lit 0x3E) 10)] := by
  decide

/-- Opcode 0x12 (R306). -/
theorem test_decode_shift_and_byte : Decodes [
    (0b010010_00111_01100_000_0_0000010_10001, .mskbl 7 (.reg 12) 17),
    (0b010010_01010_01000100_1_0000110_11000, .extbl 10 (.lit 0x44) 24),
    (0b010010_01101_10110_000_0_0001011_00000, .insbl 13 (.reg 22) 0),
    (0b010010_10000_01001010_1_0010010_00111, .mskwl 16 (.lit 0x4A) 7),
    (0b010010_10011_00001_000_0_0010110_01110, .extwl 19 (.reg 1) 14),
    (0b010010_10110_01010000_1_0011011_10101, .inswl 22 (.lit 0x50) 21),
    (0b010010_11001_01011_000_0_0100010_11100, .mskll 25 (.reg 11) 28),
    (0b010010_11100_01010110_1_0100110_00100, .extll 28 (.lit 0x56) 4),
    (0b010010_00000_10101_000_0_0101011_01011, .insll 0 (.reg 21) 11),
    (0b010010_00011_01011100_1_0110000_10010, .zap 3 (.lit 0x5C) 18),
    (0b010010_00110_00000_000_0_0110001_11001, .zapnot 6 (.reg 0) 25),
    (0b010010_01001_01100010_1_0110010_00001, .mskql 9 (.lit 0x62) 1),
    (0b010010_01100_01010_000_0_0110100_01000, .srl 12 (.reg 10) 8),
    (0b010010_01111_01101000_1_0110110_01111, .extql 15 (.lit 0x68) 15),
    (0b010010_10010_10100_000_0_0111001_10110, .sll 18 (.reg 20) 22),
    (0b010010_10101_01101110_1_0111011_11101, .insql 21 (.lit 0x6E) 29),
    (0b010010_11000_11110_000_0_0111100_00101, .sra 24 (.reg 30) 5),
    (0b010010_11011_01110100_1_1010010_01100, .mskwh 27 (.lit 0x74) 12),
    (0b010010_11110_01001_000_0_1010111_10011, .inswh 30 (.reg 9) 19),
    (0b010010_00010_01111010_1_1011010_11010, .extwh 2 (.lit 0x7A) 26),
    (0b010010_00101_10011_000_0_1100010_00010, .msklh 5 (.reg 19) 2),
    (0b010010_01000_10000000_1_1100111_01001, .inslh 8 (.lit 0x80) 9),
    (0b010010_01011_11101_000_0_1101010_10000, .extlh 11 (.reg 29) 16),
    (0b010010_01110_10000110_1_1110010_10111, .mskqh 14 (.lit 0x86) 23),
    (0b010010_10001_01000_000_0_1110111_11110, .insqh 17 (.reg 8) 30),
    (0b010010_10100_10001100_1_1111010_00110, .extqh 20 (.lit 0x8C) 6)] := by
  decide

/-- Opcode 0x13 (R306). -/
theorem test_decode_integer_multiply : Decodes [
    (0b010011_10111_10010_000_0_0000000_01101, .mull 23 (.reg 18) 13),
    (0b010011_11010_10010010_1_0100000_10100, .mulq 26 (.lit 0x92) 20),
    (0b010011_11101_11100_000_0_0110000_11011, .umulh 29 (.reg 28) 27),
    (0b010011_00001_10011000_1_1000000_00011, .mullV 1 (.lit 0x98) 3),
    (0b010011_00100_00111_000_0_1100000_01010, .mulqV 4 (.reg 7) 10)] := by
  decide

/-- Opcode 0x14 (R307). -/
theorem test_decode_itfp_and_roots : Decodes [
    (0b010100_01110_11111_00000000100_10111, .itofs 14 23),
    (0b010100_10001_11111_00000010100_11110, .itoff 17 30),
    (0b010100_10100_11111_00000100100_00110, .itoft 20 6),
    (0b010100_11111_10010_000_10_001010_01101, .sqrtf ⟨.none, .normal⟩ 18 13),
    (0b010100_11111_10111_101_00_101010_10100, .sqrtg ⟨.su, .chopped⟩ 23 20),
    (0b010100_11111_11100_000_11_001011_11011, .sqrts ⟨.none, .dynamic⟩ 28 27),
    (0b010100_11111_00010_101_00_101011_00011, .sqrtt ⟨.su, .chopped⟩ 2 3)] := by
  decide

/-- Opcode 0x15 (R307). -/
theorem test_decode_vax_floating : Decodes [
    (0b010101_11001_01011_100_10_000000_11100, .addf ⟨.s, .normal⟩ 25 11 28),
    (0b010101_11100_10000_001_00_000001_00100, .subf ⟨.u, .chopped⟩ 28 16 4),
    (0b010101_00000_10101_101_10_000010_01011, .mulf ⟨.su, .normal⟩ 0 21 11),
    (0b010101_00011_11010_100_00_000011_10010, .divf ⟨.s, .chopped⟩ 3 26 18),
    (0b010101_11111_00000_000_10_011110_11001, .cvtdg ⟨.none, .normal⟩ 0 25),
    (0b010101_01001_00101_101_00_100000_00001, .addg ⟨.su, .chopped⟩ 9 5 1),
    (0b010101_01100_01010_001_10_100001_01000, .subg ⟨.u, .normal⟩ 12 10 8),
    (0b010101_01111_01111_000_00_100010_01111, .mulg ⟨.none, .chopped⟩ 15 15 15),
    (0b010101_10010_10100_100_10_100011_10110, .divg ⟨.s, .normal⟩ 18 20 22),
    (0b010101_10101_11001_000_10_100101_11101, .cmpgeq ⟨.none, .normal⟩ 21 25 29),
    (0b010101_11000_11110_100_10_100110_00101, .cmpglt ⟨.s, .normal⟩ 24 30 5),
    (0b010101_11011_00100_000_10_100111_01100, .cmpgle ⟨.none, .normal⟩ 27 4 12),
    (0b010101_11111_01001_000_10_101100_10011, .cvtgf ⟨.none, .normal⟩ 9 19),
    (0b010101_11111_01110_101_00_101101_11010, .cvtgd ⟨.su, .chopped⟩ 14 26),
    (0b010101_11111_10011_001_10_101111_00010, .cvtgq ⟨.u, .normal⟩ 19 2),
    (0b010101_11111_11000_000_00_111100_01001, .cvtqf ⟨.none, .chopped⟩ 24 9),
    (0b010101_11111_11101_000_10_111110_10000, .cvtqg ⟨.none, .normal⟩ 29 16)] := by
  decide

/-- Opcode 0x16 (R307). -/
theorem test_decode_ieee_floating : Decodes [
    (0b010110_00101_10011_000_00_000000_00010, .adds ⟨.none, .chopped⟩ 5 19 2),
    (0b010110_01000_11000_001_01_000001_01001, .subs ⟨.u, .minus⟩ 8 24 9),
    (0b010110_01011_11101_101_10_000010_10000, .muls ⟨.su, .normal⟩ 11 29 16),
    (0b010110_01110_00011_111_11_000011_10111, .divs ⟨.sui, .dynamic⟩ 14 3 23),
    (0b010110_10001_01000_001_00_100000_11110, .addt ⟨.u, .chopped⟩ 17 8 30),
    (0b010110_10100_01101_101_01_100001_00110, .subt ⟨.su, .minus⟩ 20 13 6),
    (0b010110_10111_10010_111_10_100010_01101, .mult ⟨.sui, .normal⟩ 23 18 13),
    (0b010110_11010_10111_000_11_100011_10100, .divt ⟨.none, .dynamic⟩ 26 23 20),
    (0b010110_11101_11100_000_10_100100_11011, .cmptun ⟨.none, .normal⟩ 29 28 27),
    (0b010110_00001_00010_101_10_100101_00011, .cmpteq ⟨.su, .normal⟩ 1 2 3),
    (0b010110_00100_00111_000_10_100110_01010, .cmptlt ⟨.none, .normal⟩ 4 7 10),
    (0b010110_00111_01100_101_10_100111_10001, .cmptle ⟨.su, .normal⟩ 7 12 17),
    (0b010110_11111_10001_111_00_101100_11000, .cvtts ⟨.sui, .chopped⟩ 17 24),
    (0b010110_11111_10110_000_01_101111_00000, .cvttq ⟨.none, .minus⟩ 22 0),
    (0b010110_11111_11011_111_10_111100_00111, .cvtqs ⟨.sui, .normal⟩ 27 7),
    (0b010110_11111_00001_000_11_111110_01110, .cvtqt ⟨.none, .dynamic⟩ 1 14),
    (0b010110_11111_00110_01010101100_10101, .cvtst false 6 21)] := by
  decide

/-- Opcode 0x17 (R307). -/
theorem test_decode_floating_misc : Decodes [
    (0b010111_11111_00111_00000010000_01010, .cvtlq 7 10),
    (0b010111_00111_01100_00000100000_10001, .cpys 7 12 17),
    (0b010111_01010_10001_00000100001_11000, .cpysn 10 17 24),
    (0b010111_01101_10110_00000100010_00000, .cpyse 13 22 0),
    (0b010111_10000_11011_00000100100_00111, .mtFpcr 16 27 7),
    (0b010111_10011_00001_00000100101_01110, .mfFpcr 19 1 14),
    (0b010111_10110_00110_00000101010_10101, .fcmoveq 22 6 21),
    (0b010111_11001_01011_00000101011_11100, .fcmovne 25 11 28),
    (0b010111_11100_10000_00000101100_00100, .fcmovlt 28 16 4),
    (0b010111_00000_10101_00000101101_01011, .fcmovge 0 21 11),
    (0b010111_00011_11010_00000101110_10010, .fcmovle 3 26 18),
    (0b010111_00110_00000_00000101111_11001, .fcmovgt 6 0 25),
    (0b010111_11111_00101_00100110000_00001, .cvtql .u 5 1)] := by
  decide

/-- Opcode 0x18 (R303). -/
theorem test_decode_miscellaneous : Decodes [
    (0b011000_01100_01010_0000000000000000, .trapb 12 10),
    (0b011000_01111_01111_0000010000000000, .excb 15 15),
    (0b011000_10010_10100_0100000000000000, .mb 18 20),
    (0b011000_10101_11001_0100010000000000, .wmb 21 25),
    (0b011000_11000_11110_1000000000000000, .fetch 24 30),
    (0b011000_11011_00100_1010000000000000, .fetchM 27 4),
    (0b011000_11110_01001_1100000000000000, .rpcc 30 9),
    (0b011000_00010_01110_1110000000000000, .rc 2 14),
    (0b011000_00101_10011_1110100000000000, .ecb 5 19),
    (0b011000_01000_11000_1111000000000000, .rs 8 24),
    (0b011000_01011_11101_1111100000000000, .wh64 11 29),
    (0b011000_01110_00011_1111110000000000, .wh64en 14 3)] := by
  decide

/-- Opcode 0x1C (R306, R309). -/
theorem test_decode_extensions : Decodes [
    (0b011100_11111_10011110_1_0000000_10001, .sextb (.lit 0x9E) 17),
    (0b011100_11111_10001_000_0_0000001_11000, .sextw (.reg 17) 24),
    (0b011100_11111_10100100_1_0110000_00000, .ctpop (.lit 0xA4) 0),
    (0b011100_10000_11011_000_0_0110001_00111, .perr 16 (.reg 27) 7),
    (0b011100_11111_10101010_1_0110010_01110, .ctlz (.lit 0xAA) 14),
    (0b011100_11111_00110_000_0_0110011_10101, .cttz (.reg 6) 21),
    (0b011100_11111_10110000_1_0110100_11100, .unpkbw (.lit 0xB0) 28),
    (0b011100_11111_10000_000_0_0110101_00100, .unpkbl (.reg 16) 4),
    (0b011100_11111_10110110_1_0110110_01011, .pkwb (.lit 0xB6) 11),
    (0b011100_11111_11010_000_0_0110111_10010, .pklb (.reg 26) 18),
    (0b011100_00110_10111100_1_0111000_11001, .minsb8 6 (.lit 0xBC) 25),
    (0b011100_01001_00101_000_0_0111001_00001, .minsw4 9 (.reg 5) 1),
    (0b011100_01100_11000010_1_0111010_01000, .minub8 12 (.lit 0xC2) 8),
    (0b011100_01111_01111_000_0_0111011_01111, .minuw4 15 (.reg 15) 15),
    (0b011100_10010_11001000_1_0111100_10110, .maxub8 18 (.lit 0xC8) 22),
    (0b011100_10101_11001_000_0_0111101_11101, .maxuw4 21 (.reg 25) 29),
    (0b011100_11000_11001110_1_0111110_00101, .maxsb8 24 (.lit 0xCE) 5),
    (0b011100_11011_00100_000_0_0111111_01100, .maxsw4 27 (.reg 4) 12),
    (0b011100_11110_11111_000_0_1110000_10011, .ftoit 30 19),
    (0b011100_00010_11111_000_0_1111000_11010, .ftois 2 26)] := by
  decide

/-- Words that decode to no instruction (95_test_vectors.md section 2, 30_encoding.md R310, R312): unassigned functions and
qualifiers, illegal hardware-privileged forms, reserved opcodes. -/
theorem test_decode_reserved : ([0x43D04E6B, 0x582204A3, 0x63FF0001, 0x74000028, 0x6C221008, 0x6C22B008, 0x78000001,
    0x04000000, 0x1C000000, 0x58225003, 0x54427003, 0x53FF4140] : List IWord).all (fun w => decode w == .reserved) = true := by
  decide

/-- Words with a wrong should-be field are refused, with their extension (30_encoding.md R312). -/
theorem test_decode_refused : decode 0x4022E403 = .refused none ∧ decode 0x58221583 = .refused none
    ∧ decode 0x70220603 = .refused (some .cix) ∧ decode 0x703F1E03 = .refused (some .fix) := by decide

/-! Single steps. -/

/-- R3 after the word has run with these values of R1 and R2, and whether an arithmetic trap is recorded then. -/
def ran (w : IWord) (a b : Word) : Option (Word × Bool) :=
  (after (runWord w (State.setX (State.setX kernel 1 a) 2 b))).map fun t => (State.x t 3, t.cpu.pend.valid)

/-- Each word, with R1 and R2, gives the R3 and the trap beside them. -/
def runsTo (l : List (IWord × Word × Word × Word × Bool)) : Bool := l.all fun (w, a, b, r) => ran w a b == some r

/-- Opcode 0x10 on R1 and R2, with the result in R3: rows of 95_test_vectors.md section 3. -/
theorem test_run_integer_arithmetic : runsTo [
    (0x40220003, 0x100000000, 0x5, 0x5, false),
    (0x40220043, 0x3, 0x4, 0x10, false),
    (0x40220123, 0xFFFFFFFF80000000, 0x1, 0x7FFFFFFF, false),
    (0x40220163, 0x40000000, 0x0, 0x0, false),
    (0x402201E3, 0xFF00FF00FF00FF, 0x101010101010101, 0x55, false),
    (0x40220243, 0x3, 0x4, 0x1C, false),
    (0x40220363, 0x3, 0x4, 0x14, false),
    (0x402203A3, 0x5, 0x5, 0x0, false),
    (0x40220403, 0x7FFFFFFFFFFFFFFF, 0x1, 0x8000000000000000, false),
    (0x40220443, 0x3, 0x4, 0x10, false),
    (0x40220523, 0x0, 0x8000000000000000, 0x8000000000000000, false),
    (0x40220563, 0x3, 0x4, 0x8, false),
    (0x402205A3, 0x5, 0x6, 0x0, false),
    (0x40220643, 0x3, 0x4, 0x1C, false),
    (0x40220763, 0x2000000000000000, 0x0, 0x0, false),
    (0x402207A3, 0xFFFFFFFFFFFFFFFF, 0x0, 0x0, false),
    (0x40220803, 0xFFFFFFFF80000000, 0xFFFFFFFFFFFFFFFF, 0x7FFFFFFF, true),
    (0x40220923, 0x0, 0xFFFFFFFF80000000, 0xFFFFFFFF80000000, true),
    (0x402209A3, 0x5, 0x5, 0x0, false),
    (0x40220C03, 0x8000000000000000, 0xFFFFFFFFFFFFFFFF, 0x7FFFFFFFFFFFFFFF, true),
    (0x40220D23, 0x0, 0x8000000000000000, 0x8000000000000000, true),
    (0x40220DA3, 0x7FFFFFFFFFFFFFFF, 0x8000000000000000, 0x0, false)] = true := by
  decide +kernel

/-- Opcode 0x11 on R1 and R2, with the result in R3: rows of 95_test_vectors.md section 3. -/
theorem test_run_integer_logical : runsTo [
    (0x44220003, 0x123456789ABCDEF, 0xFF00FF00FF00FF00, 0x10045008900CD00, false),
    (0x44220103, 0x123456789ABCDEF, 0xFF, 0x123456789ABCD00, false),
    (0x44220403, 0x123456789ABCDEF, 0xF0, 0x123456789ABCDFF, false),
    (0x44220503, 0x0, 0xFF, 0xFFFFFFFFFFFFFF00, false),
    (0x44220803, 0x123456789ABCDEF, 0xFFFFFFFFFFFFFFFF, 0xFEDCBA9876543210, false),
    (0x44220903, 0x123456789ABCDEF, 0x123456789ABCDEF, 0xFFFFFFFFFFFFFFFF, false)] = true := by
  decide +kernel

/-- Opcode 0x12 on R1 and R2, with the result in R3: rows of 95_test_vectors.md section 3. -/
theorem test_run_shift_and_byte : runsTo [
    (0x48220043, 0x123456789ABCDEF, 0x7, 0x23456789ABCDEF, false),
    (0x482200C3, 0x123456789ABCDEF, 0x7, 0x1, false),
    (0x48220163, 0x123456789ABCDEF, 0x7, 0xEF00000000000000, false),
    (0x48220243, 0x123456789ABCDEF, 0x7, 0x23456789ABCDEF, false),
    (0x482202C3, 0x123456789ABCDEF, 0x7, 0x1, false),
    (0x48220363, 0x123456789ABCDEF, 0x7, 0xEF00000000000000, false),
    (0x48220443, 0x123456789ABCDEF, 0x7, 0x23456789ABCDEF, false),
    (0x482204C3, 0x123456789ABCDEF, 0x7, 0x1, false),
    (0x48220563, 0x123456789ABCDEF, 0x7, 0xEF00000000000000, false),
    (0x48220603, 0x123456789ABCDEF, 0x1FF, 0x0, false),
    (0x48220623, 0x123456789ABCDEF, 0x80, 0x100000000000000, false),
    (0x48220643, 0x123456789ABCDEF, 0x7, 0x23456789ABCDEF, false),
    (0x48220683, 0x123456789ABCDEF, 0x44, 0x123456789ABCDE, false),
    (0x482206C3, 0x123456789ABCDEF, 0x7, 0x1, false),
    (0x48220723, 0x123456789ABCDEF, 0x100, 0x123456789ABCDEF, false),
    (0x48220763, 0x123456789ABCDEF, 0x7, 0xEF00000000000000, false),
    (0x48220783, 0x7FFFFFFFFFFFFFFF, 0x3E, 0x1, false),
    (0x48220A43, 0x123456789ABCDEF, 0x7, 0x123456789ABCD00, false),
    (0x48220AE3, 0x123456789ABCDEF, 0x7, 0xCD, false),
    (0x48220B43, 0x123456789ABCDEF, 0x7, 0xEF00, false),
    (0x48220C43, 0x123456789ABCDEF, 0x7, 0x123456789000000, false),
    (0x48220CE3, 0x123456789ABCDEF, 0x7, 0x89ABCD, false),
    (0x48220D43, 0x123456789ABCDEF, 0x7, 0xABCDEF00, false),
    (0x48220E43, 0x123456789ABCDEF, 0x7, 0x100000000000000, false),
    (0x48220EE3, 0x123456789ABCDEF, 0x7, 0x123456789ABCD, false),
    (0x48220F43, 0x123456789ABCDEF, 0x7, 0x23456789ABCDEF00, false)] = true := by
  decide +kernel

/-- Opcode 0x13 on R1 and R2, with the result in R3: rows of 95_test_vectors.md section 3. -/
theorem test_run_integer_multiply : runsTo [
    (0x4C220003, 0xFFFFFFFFFFFFFFFF, 0x2, 0xFFFFFFFFFFFFFFFE, false),
    (0x4C220403, 0xFFFFFFFFFFFFFFFF, 0xFFFFFFFFFFFFFFFF, 0x1, false),
    (0x4C220603, 0x123456789ABCDEF, 0x2, 0x0, false),
    (0x4C220803, 0x10000, 0x8000, 0xFFFFFFFF80000000, true),
    (0x4C220C03, 0x8000000000000000, 0xFFFFFFFFFFFFFFFF, 0x8000000000000000, true)] = true := by
  decide +kernel

/-- Opcode 0x1C on R1 and R2, with the result in R3: rows of 95_test_vectors.md section 3. -/
theorem test_run_extensions : runsTo [
    (0x70220623, 0x123456789ABCDEF, 0x123456789ABCDEF, 0x0, false),
    (0x70220703, 0x80017F00FF0102FE, 0x7F0280FF000201FF, 0x800180FFFF0101FE, false),
    (0x70220723, 0x80017F00FF0102FE, 0x7F0280FF000201FF, 0x800180FFFF0101FF, false),
    (0x70220743, 0x80017F00FF0102FE, 0x7F0280FF000201FF, 0x7F017F00000101FE, false),
    (0x70220763, 0x80017F00FF0102FE, 0x7F0280FF000201FF, 0x7F027F00000201FF, false),
    (0x70220783, 0x80017F00FF0102FE, 0x7F0280FF000201FF, 0x800280FFFF0202FF, false),
    (0x702207A3, 0x80017F00FF0102FE, 0x7F0280FF000201FF, 0x800180FFFF0102FE, false),
    (0x702207C3, 0x80017F00FF0102FE, 0x7F0280FF000201FF, 0x7F027F00000202FF, false),
    (0x702207E3, 0x80017F00FF0102FE, 0x7F0280FF000201FF, 0x7F027F00000202FE, false)] = true := by
  decide +kernel

/-- One-operand instructions: 95_test_vectors.md section 3.2. -/
theorem test_run_one_operand : runsTo [
    (0x73E20003, 0, 0x80, 0xFFFFFFFFFFFFFF80, false),
    (0x73E20023, 0, 0x12345678, 0x5678, false),
    (0x73E20603, 0, 0x123456789ABCDEF, 0x20, false),
    (0x73E20643, 0, 0x123456789ABCDEF, 7, false),
    (0x73E20663, 0, 0, 0x40, false),
    (0x73E20683, 0, 0x44332211, 0x44003300220011, false),
    (0x73E206A3, 0, 0x2211, 0x2200000011, false),
    (0x73E206C3, 0, 0x00440033002200FF, 0x443322FF, false),
    (0x73E206E3, 0, 0xAA000000BB, 0xAABB, false),
    (0x47E20C23, 0, 0x107, 0, false),
    (0x47E03D83, 0, 0, 2, false)] = true := by
  decide +kernel

/-- The conditional moves, R3 = 0 where nothing is written: 95_test_vectors.md section 3.3. -/
theorem test_run_conditional_moves : runsTo [
    (0x44220483, 0, 5, 5, false), (0x44220483, 1, 5, 0, false), (0x442204C3, 0x8000000000000000, 5, 5, false),
    (0x44220883, 0x8000000000000000, 5, 5, false), (0x442208C3, 0, 5, 5, false), (0x44220C83, 1, 5, 0, false),
    (0x44220CC3, 0x7FFFFFFFFFFFFFFF, 5, 5, false), (0x44220283, 3, 5, 5, false), (0x442202C3, 3, 5, 0, false)] = true := by
  decide +kernel

/-- Scenario S1: the word as the source wrote it is OPCDEC, the corrected word is ADDQ R30, #3, R11 (95_test_vectors.md section
1.1), as a fetched step from reset. -/
theorem test_step_addq : ((after (step (State.reset.withFetchWord 32 0x43C0740B))).map fun t => (State.x t 11, t.cpu.pc))
    = some (3, 0x1004) := by decide

/-- Scenario S2: LDL sign-extends. -/
theorem test_ldl_sign_extends : ((after (exec (.ldl 12 2 0)
    { kernel with mem := Memory.setBytes [] 0x2000 [0xFF, 0xFF, 0xFF, 0xFF] })).map fun t => (State.x t 12, t.cpu.pc))
    = some (0xFFFFFFFFFFFFFFFF, 0x1004) := by decide

/-- Byte order: LDQ reads bytes 1 to 8 with the first the least significant (20_memory.md R150). -/
theorem test_ldq_byte_order : ((after (exec (.ldq 1 2 0) kernel)).map fun t => State.x t 1) = some 0x0807060504030201 := by
  decide

/-- LDQ_U ignores the low bits of the address (41_loadstore.md R507). -/
theorem test_ldq_u_aligns : ((after (exec (.ldqU 1 2 5) kernel)).map fun t => State.x t 1) = some 0x0807060504030201 := by
  decide

/-- A store is seen by its CPU before it reaches memory, and MB sends it there (20_memory.md R170, R171, R173). -/
theorem test_stl_then_mb : ((after (exec (.stl 2 2 4) kernel)).bind fun t => (after (exec (.mb 31 31) t)).map fun u =>
    (State.loadByte t 0x2005, Memory.get t.mem 0x2005, Memory.get u.mem 0x2005, Memory.get u.mem 0x2003))
    = some (0x20, 6, 0x20, 4) := by decide

/-- Scenario S4: a miss fills the data TLB, and the load reads the page (20_memory.md R204, R209, R215). -/
theorem test_tlb_miss_fills : ((after (exec (.ldq 1 3 0) (State.setX paged 3 0x40000000))).map fun t =>
    (State.x t 1, t.cpu.dtb)) = some (0x1111, ⟨[filled], 0, 1⟩) := by decide

/-- Scenario S6: BEQ R31, +12 at 0x2000 goes to 0x2034. -/
theorem test_beq_taken : ((after (exec (.beq 31 12) (State.setPc kernel 0x2000))).map fun t => t.cpu.pc) = some 0x2034 := by
  decide

/-- A backward branch and its link (42_control.md R551). -/
theorem test_bsr_back : ((after (exec (.bsr 26 0x1FFFFF) kernel)).map fun t => (t.cpu.pc, State.x t 26))
    = some (0x1000, 0x1004) := by decide

/-- A jump through the register it links (42_control.md section 5): the target is the old value, low bits cleared. -/
theorem test_jsr_same_register : ((after (exec (.jsr 2 2 0) (State.setX kernel 2 0x3003))).map fun t => (t.cpu.pc, State.x t 2))
    = some (0x3000, 0x1004) := by decide

/-- ADDT: 1.0 + 1.0 = 2.0 and no condition (43_float.md R621). -/
theorem test_addt : ((after (exec (.addt ⟨.none, .normal⟩ 1 1 3) (State.setF kernel 1 0x3FF0000000000000))).map fun t =>
    (State.f t 3, t.cpu.fpcr)) = some (0x4000000000000000, 0) := by decide

/-- DIVS 1/3 rounds to nearest and is inexact: FPCR bit 56 (43_float.md R604, R605, R626). -/
theorem test_divs_inexact : ((after (exec (.divs ⟨.none, .normal⟩ 1 2 3) (State.setF (State.setF kernel 1 0x3FF0000000000000) 2
    0x4008000000000000))).map fun t => (State.f t 3, t.cpu.fpcr, t.cpu.pend.valid))
    = some (0x3FD5555560000000, 0x0100000000000000, false) := by decide

/-- SQRTT of 4.0, and of 2.0 rounded to nearest (43_float.md R666). -/
theorem test_sqrtt : ((after (exec (.sqrtt ⟨.none, .normal⟩ 1 3) (State.setF kernel 1 0x4010000000000000))).map fun t =>
    State.f t 3) = some 0x4000000000000000 := by decide +kernel

/-- CVTTQ/C of −1.5 is −1 (43_float.md R633). -/
theorem test_cvttq_chopped : ((after (exec (.cvttq ⟨.none, .chopped⟩ 1 3) (State.setF kernel 1 0xBFF8000000000000))).map fun t =>
    State.f t 3) = some 0xFFFFFFFFFFFFFFFF := by decide

/-- CALL_PAL 0x83 enters at PAL_BASE + 64 · 0x83 with the return address saved (44_misc_pal.md R723). -/
theorem test_call_pal : ((after (exec (.callPal 0x83) user)).map fun t => (t.cpu.pc, t.cpu.excAddr, t.cpu.excPs, t.cpu.ps))
    = some (0x20C0, 0x1004, 0xD8, 0xF8) := by decide

/-- HW_MTPR ignores reserved bits of PS (10_state.md R57), and HW_REI restores the saved state. -/
theorem test_mtpr_and_rei : ((after (exec (.hwMtpr 1 0) (State.setX palMode 1 0xFFFFFFFFFFFFFFFF))).map fun t => t.cpu.ps)
    = some 0xF1FF8
    ∧ ((after (exec .hwRei { palMode with cpu := { palMode.cpu with excPs := 0x18, excAddr := 0x4444 } })).map fun t =>
      (t.cpu.ps, t.cpu.pc)) = some (0x18, 0x4444) := by decide

/-- HW_MFPR outside PAL mode is PRIV, in PAL mode with a reserved index OPCDEC (60_exceptions.md R825). -/
theorem test_mfpr_faults : ((after (exec (.hwMfpr 1 0x13) kernel)).map fun t => t.cpu.pc) = some 0x1180
    ∧ ((after (exec (.hwMfpr 1 0x13) palMode)).map fun t => t.cpu.pc) = some 0x1140 := by decide

/-! Witnesses: for every obligation with hypotheses, a state and operands that meet them, clause by clause. -/

theorem witness_DecodeOfEncode : Instr.wf (.adds ⟨.sui, .dynamic⟩ 31 0 31) = true ∧ Instr.wf .hwRei = true := by decide

theorem witness_EncodeOfDecode : decode 0xFFFFFFFF = .instr (.bgt 31 0x1FFFFF)
    ∧ decode 0x00000000 = .instr (.callPal 0) := by decide

theorem witness_WordsOfTheSpec : (1 ≤ (1 : BitVec 6).toNat ∧ (1 : BitVec 6).toNat ≤ 7)
    ∧ (1 ≤ (7 : BitVec 6).toNat ∧ (7 : BitVec 6).toNat ≤ 7) := by decide

/-- A region of a device, and one that overlaps it. -/
def region : MmioRegion := ⟨0x20000000, 0x20000FFF, 7⟩

/-- Sets and images at the ends of their ranges, regions side by side, out of order and overlapping. -/
theorem witness_ResetValues :
    (Params.wf Params.default 1 = true ∧ Params.wf Params.default 65536 = true ∧ Params.wf Params.default 0 = false
      ∧ Params.wf { Params.default with tlbWays := 65 } 1 = false)
    ∧ (imageOk 0 Params.default.ramTop [(0, 1), (0x0FFFFFFF, 2)] = true
      ∧ imageOk Params.default.romBase Params.default.romTop [(0x30000000, 1), (0x300FFFFF, 2)] = true
      ∧ imageOk 0 Params.default.ramTop [(0x10000000, 1)] = false)
    ∧ ([region, ⟨0x20001000, 0xFFFFFFFFFFFF, 8⟩] : List MmioRegion).Pairwise (fun a b => a.stop < b.start ∨ b.stop < a.start)
    ∧ ¬ ([region, ⟨0x20000FFF, 0x20001000, 8⟩] : List MmioRegion).Pairwise (fun a b => a.stop < b.start ∨ b.stop < a.start)
    ∧ (⟨1, 0, 8⟩ : MmioRegion).stop < (⟨1, 0, 8⟩ : MmioRegion).start := by decide

/-- An unsupported page size, and a set of page sizes without 8K, fail the launch (00_scope.md R7, R9). -/
theorem test_unsupported_page_size : ([[0x2000, 0x4000], [0x10000], []].all fun l =>
    faultOf (launch true { Params.default with pageSizes := l } 1 [] [] []) == some .inconsistentConfig) = true
    ∧ Params.wf { Params.default with pageSizes := [0x2000] } 1 = true := by decide +kernel

/-- A table of IPLs: its first entry of a vector counts; a vector of IPL 0 fails the launch (60_exceptions.md R836). -/
theorem test_vector_ipl :
    ([5, 6].map (Params.vectorIpl { Params.default with vectorIpls := [(5, 31), (5, 1)] }) = [31, 20])
    ∧ ([{ Params.default with vectorIpls := [(5, 0)] }, { Params.default with otherIpl := 0 }].all fun p =>
      faultOf (launch true p 1 [] [] []) == some .inconsistentConfig) = true := by decide +kernel

/-- 95_test_vectors.md, the vector of R832: vector 5 joins IRQ with IPL 20; a CPU number that nothing has fails the call (R932). -/
theorem test_inject_interrupt :
    ((after (injectInterrupt 0 5 kernel)).map fun t => t.cpu.irq) = some [⟨5, 20⟩]
    ∧ faultOf (injectInterrupt 1 5 kernel) = some .noSuchCpu := by decide

/-- A launch whose regions overlap fails, and one on a host without the memory, and one with the regions side by side does not. -/
theorem test_launch : faultOf (launch true Params.default 1 [] [] [region, ⟨0x20000FFF, 0x20001000, 8⟩]) = some .overlappingRegion
    ∧ faultOf (launch true Params.default 1 [] [] [region, ⟨1, 0, 8⟩]) = some .badRegion
    ∧ faultOf (launch true { Params.default with tlbWays := 65 } 1 [] [] []) = some .inconsistentConfig
    ∧ faultOf (launch false Params.default 1 [] [] []) = some .outOfMemory
    ∧ ((after (launch true Params.default 2 [] [(0x30000000, 1)] [region])).map fun t => (t.rom, t.regions, t.peers.length))
      = some ([(0x30000000, 1)], [region], 1) := by decide

theorem witness_ResetMeetsInvariants : Params.wf Params.default 1 = true ∧ Memory.wf [] = true
    ∧ Memory.wf [(0, 1), (0xFFFFFFFFFFFF, 2)] = true := by decide

/-- A halted CPU with a new halt request keeps its cycle counter's place: its boundary takes no draw (60_exceptions.md R860). -/
theorem test_halt_request_of_halted :
    ((after (boundary { kernel with cpu := { kernel.cpu with halted := true, haltReq := true } })).map fun t =>
      (t.draws, t.cpu.halted, t.cpu.haltReq)) = some (0, true, false) := by decide

/-- A line that was Modified, evicted to the L2 and stored to again is Modified in the L1D only (20_memory.md R264, R267). -/
theorem test_one_modified :
    let p : Params := { Params.default with l1dGeom := ⟨1, 1, .lru⟩ }
    let s := [0, 1, 0].foldl State.writeLine { kernel with cfg := p }
    (Cache.dirty s.cpu.l1d 0, s.l2.any fun c => Cache.dirty c 0, s.l2.any fun c => Cache.dirty c 1, Cache.dirty s.l3 0)
      = (true, false, true, false) := by decide +kernel

/-- Two CPUs and 16 bytes of RAM: a TLB entry, an interrupt, a buffered store and a halt request. -/
def small : State :=
  let s := State.resetWith { Params.default with ramTop := 16 } 2 [(3, 0x77)] [] []
  { s with cpu := { s.cpu with
      regs := s.cpu.regs.setIfInBounds 4 0x1234, dtb := ⟨[filled], 5, 6⟩, irq := [⟨9, 20⟩], haltReq := true,
      sb := [.store 8 [0xAB]] } }

/-- A snapshot taken and restored gives the settled state back (70_reset_and_hazards.md R960 to R962); a blob that is cut, or that
counts a device blob it has not, is refused, and so is any on a host without the memory. -/
theorem test_snapshot :
    (let r := snapshot small
     (after (restore true r.1 r.2)).map fun t => (t.cpu.regs == r.2.cpu.regs && t.cpu.dtb == r.2.cpu.dtb && t.cpu.irq == r.2.cpu.irq
      && t.cpu.haltReq && t.mem == [(3, 0x77), (8, 0xAB)] && t.cpu.pc == r.2.cpu.pc && t.peers.length == 1 && r.2.cpu.sb == [])) = some true
    ∧ faultOf (restore false (snapshot small).1 small) = some .outOfMemory
    ∧ faultOf (restore true ((snapshot small).1.dropLast) small) = some .malformedSnapshot
    ∧ faultOf (restore true ((snapshot small).1.dropLast ++ [1]) small) = some .malformedSnapshot
    ∧ faultOf (restore true ((snapshot small).1 ++ [0]) small) = some .malformedSnapshot := by decide +kernel

/-- The requests of a blob may stand in any order: they are put in the order of vectors, and a vector counts once (log 37). -/
theorem test_restored_requests : ((readCpu kernel.cpu (snapCpu { kernel.cpu with irq := [⟨3, 21⟩, ⟨1, 20⟩, ⟨3, 22⟩] })).map fun r =>
    (r.1.irq, r.2)) = some ([⟨1, 20⟩, ⟨3, 21⟩], []) := by decide +kernel

/-- An instruction placed at the pc runs, from a state with canonical memory. -/
theorem witness_StepKeepsMemoryForm : State.memOk (kernel.withFetchWord 32 0x43C0740B) = true
    ∧ ∃ t, step (kernel.withFetchWord 32 0x43C0740B) = .next t :=
  ⟨by decide +kernel, next_of_after (by decide +kernel)⟩

theorem witness_StepKeepsReservedBitsAndIrqSets :
    State.reservedZero (kernel.withFetchWord 32 0x43C0740B) = true ∧ State.irqOk (kernel.withFetchWord 32 0x43C0740B) = true
      ∧ ∃ t, step (kernel.withFetchWord 32 0x43C0740B) = .next t :=
  ⟨by decide +kernel, by decide +kernel, next_of_after (by decide +kernel)⟩

theorem witness_StepKeepsCpuNumbers : ((State.cpus (kernel.withFetchWord 32 0x43C0740B)).map fun c => c.whami).Nodup
    ∧ ∃ t, step (kernel.withFetchWord 32 0x43C0740B) = .next t :=
  ⟨by decide +kernel, next_of_after (by decide +kernel)⟩

/-- An EV5, which has no extension. -/
def ev5 : State := { kernel with cfg := { kernel.cfg with cpuModel := .ev5 } }

/-- A halted machine. -/
def haltedState : State := { kernel with cpu := { kernel.cpu with halted := true } }

theorem witness_HaltedCpuStaysHalted : ((State.cpus haltedState).map fun c => c.whami).Nodup
    ∧ (∃ t, step haltedState = .next t) ∧ haltedState.cpu ∈ State.cpus haltedState ∧ haltedState.cpu.halted = true :=
  ⟨by decide +kernel, next_of_after (by decide +kernel), List.mem_cons_self, rfl⟩

theorem witness_StepRunsDecodedInstruction :
    State.alone (kernel.withFetchWord 32 0x43C0740B) = true ∧ State.runs (kernel.withFetchWord 32 0x43C0740B) = true
      ∧ value (State.fetchWord (kernel.withFetchWord 32 0x43C0740B)) = some 0x43C0740B
      ∧ decode 0x43C0740B = .instr (.addq 30 (.lit 3) 11)
      ∧ State.inPal palMode = true ∧ palMode.cfg.icacheCoherent = true ∧ palMode.cfg.backendErrs = false
      ∧ palMode.cpu.pc.toNat % 4 = 0 ∧ State.route palMode palMode.cpu.pc.toNat = .ram := by decide +kernel

/-- A reserved opcode, ADDQ with a should-be-zero bit set, and SEXTB with Ra not R31, on a CPU with BWX and on one without: each
fetched with nothing else due; and a fetch that raises an exception. -/
theorem witness_StepRunsDecodedInstruction_words :
    ([(kernel, 0x04000000), (kernel, 0x43DF240B), (kernel, 0x70010001), (ev5, 0x70010001)].all fun (s, w) =>
      State.alone (s.withFetchWord 32 w) && State.runs (s.withFetchWord 32 w)
        && value (State.fetchWord (s.withFetchWord 32 w)) == some (BitVec.ofNat 32 w)) = true
    ∧ decode 0x04000000 = .reserved ∧ decode 0x43DF240B = .refused none ∧ decode 0x70010001 = .refused (some .bwx)
    ∧ State.has kernel .bwx = true ∧ State.has ev5 .bwx = false
    ∧ State.alone (State.setPc kernel 0x2002) = true ∧ State.runs (State.setPc kernel 0x2002) = true
    ∧ value (State.fetchWord (State.setPc kernel 0x2002)) = none := by decide +kernel

theorem witness_PcStaysAligned : kernel.cpu.pc.toNat % 4 = 0 ∧ maskedBy palBaseMask kernel.cpu.palBase = true
    ∧ Instr.jmp 31 2 0 ≠ .hwRei ∧ (∃ t, exec (.jmp 31 2 0) kernel = .next t)
    ∧ (State.setPc kernel 0x2002).cpu.pc.toNat % 4 ≠ 0 :=
  ⟨by decide, by decide, by decide, next_of_after (by decide), by decide⟩

/-- Into PAL mode by CALL_PAL, and out of it by HW_REI. -/
theorem witness_PalModeChanges :
    (State.inPal user = false ∧ (after (exec (.callPal 0x83) user)).map State.inPal = some true)
      ∧ (State.inPal palMode = true ∧ (after (exec .hwRei palMode)).map State.inPal = some false) := by decide

theorem witness_ControlStateNeedsPalMode : State.inPal user = false ∧ ∃ t, exec (.hwMtpr 1 3) user = .next t :=
  ⟨by decide, next_of_after (by decide)⟩

/-- A sticky bit that is set, and an instruction that completes. -/
def stickyState : State := { kernel with cpu := { kernel.cpu with fpcr := 0x0010000000000000 } }

theorem witness_StickyBitsOnlyClearedByMtFpcr : stickyState.cpu.fpcr.getLsbD 52 = true
    ∧ ∃ t, exec (.addt ⟨.none, .normal⟩ 1 1 1) stickyState = .next t :=
  ⟨by decide, next_of_after (by decide +kernel)⟩

theorem witness_OnlyDestinationsChange : Instr.intDest (.addq 1 (.reg 2) 3) ≠ some 2
    ∧ Instr.fpDest (.addq 1 (.reg 2) 3) ≠ some 3 ∧ ∃ t, exec (.addq 1 (.reg 2) 3) kernel = .next t :=
  ⟨by decide, by decide, next_of_after (by decide)⟩

/-- A privileged instruction in user mode. -/
theorem witness_EntriesArePrecise : State.memOk user = true ∧ State.inPal user = false
    ∧ (after (exec .hwRei user)).map State.inPal = some true := by decide +kernel

/-- Sums and products just inside and just outside the two ranges. -/
theorem witness_IntegerOverflowTraps :
    (2 ^ 31 : Int) ≤ ((0x7FFFFFFF : Word).extractLsb' 0 32).toInt + ((1 : Word).extractLsb' 0 32).toInt
      ∧ ¬ ((2 ^ 31 : Int) ≤ ((0x7FFFFFFE : Word).extractLsb' 0 32).toInt + ((1 : Word).extractLsb' 0 32).toInt)
      ∧ ((0x80000000 : Word).extractLsb' 0 32).toInt - ((1 : Word).extractLsb' 0 32).toInt < -2 ^ 31
      ∧ (2 ^ 63 : Int) ≤ (0x7FFFFFFFFFFFFFFF : Word).toInt + (1 : Word).toInt
      ∧ (0x8000000000000000 : Word).toInt - (1 : Word).toInt < -2 ^ 63
      ∧ (2 ^ 63 : Int) ≤ (0x8000000000000000 : Word).toInt * (0xFFFFFFFFFFFFFFFF : Word).toInt
      ∧ ¬ ((2 ^ 63 : Int) ≤ (0x7FFFFFFFFFFFFFFF : Word).toInt * (1 : Word).toInt) := by decide

/-- R1 at 0, −2^63, 1 and 2^63 − 1: each condition and its opposite. -/
theorem witness_ConditionalMoves :
    (State.x (State.setX kernel 1 0) 1 = 0 ∧ 0 ≤ (State.x (State.setX kernel 1 0) 1).toInt
      ∧ (State.x (State.setX kernel 1 0) 1).toInt ≤ 0 ∧ (State.x (State.setX kernel 1 0) 1).getLsbD 0 = false)
    ∧ (State.x (State.setX kernel 1 0x8000000000000000) 1 ≠ 0
      ∧ (State.x (State.setX kernel 1 0x8000000000000000) 1).toInt < 0
      ∧ ¬ 0 ≤ (State.x (State.setX kernel 1 0x8000000000000000) 1).toInt)
    ∧ (0 < (State.x (State.setX kernel 1 1) 1).toInt ∧ ¬ (State.x (State.setX kernel 1 1) 1).toInt ≤ 0
      ∧ (State.x (State.setX kernel 1 1) 1).getLsbD 0 = true)
    ∧ ¬ (State.x (State.setX kernel 1 0x7FFFFFFFFFFFFFFF) 1).toInt < 0 := by decide +kernel

/-- Offsets 0 and 7: bytes cleared and kept. -/
theorem witness_ZapAndMaskBytes :
    let off (b : Word) : Nat := b.toNat % 8
    (off 0 ≤ 0 ∧ 0 < off 0 + 1) ∧ ¬ (off 0 ≤ 1 ∧ 1 < off 0 + 1) ∧ (off 7 ≤ 7 ∧ 7 < off 7 + 2) ∧ ¬ off 7 ≤ 6
      ∧ 0 + 8 < off 7 + 2 ∧ ¬ 1 + 8 < off 7 + 2 ∧ ¬ 0 + 8 < off 0 + 8
      ∧ (0x80 : Word).getLsbD 7 = true ∧ (0x80 : Word).getLsbD 0 = false := by decide

theorem witness_SignExtensionAndCounts : State.has kernel .bwx = true ∧ State.has kernel .cix = true := by decide

theorem witness_MviLanes : State.has kernel .mvi = true := by decide

theorem witness_ExtensionGating :
    (Instr.extension (.ldbu 1 2 0) = some .bwx ∧ State.has ev5 .bwx = false)
      ∧ (Instr.extension (.itoft 1 2) = some .fix ∧ State.has ev5 .fix = false)
      ∧ (Instr.extension (.ctpop (.reg 1) 2) = some .cix ∧ State.has ev5 .cix = false)
      ∧ (Instr.extension (.perr 1 (.reg 2) 3) = some .mvi ∧ State.has ev5 .mvi = false) := by decide

/-- The machine with a device and a byte of ROM. -/
def devices : State := { kernel with regions := [region], rom := [(0x30000000, 0x5A)] }

/-- The ends of each target of the router: MMIO, ROM, unmapped space, and the addresses from 2^48 up; and both devices' answers. -/
theorem witness_targets : State.route devices 0x20000000 = .mmio region ∧ State.route devices 0x20000FFF = .mmio region
    ∧ State.route devices 0x1FFFFFFF = .unmapped ∧ State.route devices 0x20001000 = .unmapped
    ∧ State.route devices 0x30000000 = .rom ∧ State.route devices 0x300FFFFF = .rom ∧ State.route devices 0x30100000 = .unmapped
    ∧ State.route devices 0x0FFFFFFF = .ram ∧ State.route devices (2 ^ 48 - 1) = .unmapped
    ∧ State.route devices (2 ^ 48) = .tooHigh ∧ 2 ^ 48 ≤ 2 ^ 48 ∧ devices.cfg.mmioStrict = false
    ∧ ({ devices.cfg with mmioStrict := true } : Params).mmioStrict = true
    ∧ ([(0x20000000 : Word), 0x30000000, 0x30100000, 0x1000000000000].all fun a =>
      value (State.translate devices ⟨.read, 1, 0x29⟩ a) == some a && value (State.translate devices ⟨.write, 1, 0x2D⟩ a) == some a
        && decide (a.toNat % 8 = 0)) = true := by decide +kernel

/-- A machine whose memory back-end can report errors, and a store buffered. -/
def erring : State := { kernel with cfg := { kernel.cfg with backendErrs := true }, cpu := { kernel.cpu with sb := [.store 0x3000 [1]] } }

/-- A read of RAM errs there as the draw says, which is either; on `kernel` it does not (60_exceptions.md R842 cause 3). -/
theorem witness_backend_errors : (∀ k pa n, State.ramErrs k erring pa n = Config.backendError (State.cacheRead k erring pa n).draws)
    ∧ State.ramErrs .data kernel 0x2008 8 = false ∧ State.route erring 0x2008 = .ram ∧ State.fen erring = true
    ∧ value (State.translate erring ⟨.read, 1, 0x29⟩ 0x2008) = some 0x2008 ∧ (0x2008 : Word).toNat % 8 = 0
    ∧ value (State.translate (State.drainAll erring) ⟨.read, 1, 0x2B⟩ 0x2008) = some 0x2008
    ∧ State.inPal { erring with cpu := { erring.cpu with ps := 0x1FA0 } } = true :=
  ⟨fun _ _ _ => rfl, by decide +kernel⟩

/-- A load from ROM, and a store to it, which is dropped (20_memory.md R242). -/
theorem test_rom : ((after (exec (.ldbu 1 2 0) (State.setX devices 2 0x30000000))).map fun t => State.x t 1) = some 0x5A
    ∧ ((after (exec (.stb 1 2 0) (State.setX devices 2 0x30000000))).map fun t => (t.rom, t.mem == devices.mem))
      = some ([(0x30000000, 0x5A)], true) := by decide +kernel

/-- Fetches outside PAL mode: through the page tables of S4, a page that nothing maps, ROM, a region, unmapped space, from 2^48 up;
and a machine in strict mode and one whose I-cache is not coherent. -/
theorem witness_StepRunsDecodedInstruction_fetch :
    let at_ (s : State) (a : Word) : State := State.setPc s a
    let strictMmio : State := { devices with cfg := { devices.cfg with mmioStrict := true } }
    let incoherent : State := { kernel with cfg := { kernel.cfg with icacheCoherent := false } }
    State.inPal paged = false ∧ value (State.translate (at_ paged 0x40000000) Access.fetch 0x40000000) = some 0x100000
    ∧ State.route paged 0x100000 = .ram ∧ value (State.translate (at_ paged 0x40002000) Access.fetch 0x40002000) = none
    ∧ ([(devices, (0x30000000 : Word)), (devices, 0x20000000), (devices, 0x1FFFFFFC), (strictMmio, 0x1FFFFFFC), (devices, 0x1000000000000),
      (incoherent, 0x2000), (kernel, 0x2000)].all fun (s, a) =>
      value (State.translate (at_ s a) Access.fetch a) == some a && decide (a.toNat % 4 = 0)) = true
    ∧ State.route devices 0x30000000 = .rom ∧ State.route devices 0x20000000 = .mmio region ∧ State.route devices 0x1FFFFFFC = .unmapped
    ∧ State.route strictMmio 0x1FFFFFFC = .unmapped ∧ strictMmio.cfg.mmioStrict = true ∧ 2 ^ 48 ≤ (0x1000000000000 : Word).toNat
    ∧ incoherent.cfg.icacheCoherent = false ∧ State.route incoherent 0x2000 = .ram
    ∧ State.ramErrs .inst kernel 0x2000 4 = false := by decide +kernel

/-- What is fetched there: S4's word, the ROM's byte and zeros above it, and all ones (20_memory.md R178, R240, R244). -/
theorem test_fetch : value (State.fetchWord (State.setPc paged 0x40000000)) = some 0x1111
    ∧ value (State.fetchWord (State.setPc devices 0x30000000)) = some 0x5A
    ∧ value (State.fetchWord (State.setPc devices 0x1FFFFFFC)) = some 0xFFFFFFFF
    ∧ value (State.fetchWord (State.setPc devices 0x1000000000000)) = none := by decide +kernel

/-- An aligned page and the next one, which nothing maps: an access that crosses faults on its second part. -/
def splitFault : Res Word := State.translate mapped ⟨.read, 1, 0x29⟩ (0x40001FFC + BitVec.ofNat 64 4)

/-- Aligned accesses of the page that nothing maps, ordinary and locked: the translation answers an exception. -/
theorem witness_translation_exceptions : State.fen mapped = true ∧ State.has mapped .bwx = true
    ∧ ([Access.mk .read 1 0x29, ⟨.read, 1, 0x23⟩, ⟨.write, 1, 0x2D⟩, ⟨.write, 1, 0x27⟩].all fun a =>
      value (State.translate mapped a 0x40002000) == none) = true
    ∧ value (State.translate (State.drainAll mapped) ⟨.read, 1, 0x2B⟩ 0x40002000) = none
    ∧ value (State.translate (State.drainAll mapped) ⟨.write, 1, 0x2F⟩ 0x40002000) = none := by decide +kernel

/-- At 0x2000 untranslated, and at 0x40000000 through the data TLB (its hit counted); the targets outside RAM are those of
`witness_targets`, an exception of the translation is in `witness_translation_exceptions`, an error of the memory in
`witness_backend_errors`. -/
theorem witness_IntegerLoads :
    (State.ramErrs .data kernel 0x2008 8 = false ∧ State.has kernel .bwx = true
      ∧ value (State.translate kernel ⟨.read, 1, 0x29⟩ (State.x kernel 2 + (8 : BitVec 16).signExtend 64)) = some 0x2008
      ∧ (0x2008 : Word).toNat % 8 = 0 ∧ State.route kernel (0x2008 : Word).toNat = .ram)
    ∧ value (State.translate mapped ⟨.read, 1, 0x28⟩ 0x40000004) = some 0x100004 ∧ (0x40000004 : Word).toNat % 4 = 0
    ∧ State.route mapped 0x100004 = .ram := by decide +kernel

theorem witness_FloatLoads : State.ramErrs .data kernel 0x2008 8 = false ∧ State.fen kernel = true
    ∧ value (State.translate kernel ⟨.read, 1, 0x23⟩ (State.x kernel 2 + (8 : BitVec 16).signExtend 64)) = some 0x2008
    ∧ (0x2008 : Word).toNat % 8 = 0 ∧ State.route kernel (0x2008 : Word).toNat = .ram := by decide +kernel

theorem witness_IntegerStores :
    State.has kernel .bwx = true
      ∧ value (State.translate kernel ⟨.write, 1, 0x0E⟩ (State.x kernel 2 + (0x7FFF : BitVec 16).signExtend 64)) = some 0x9FFF
      ∧ (0x9FFF : Word).toNat % 1 = 0 ∧ State.route kernel (0x9FFF : Word).toNat = .ram
      ∧ value (State.translate kernel ⟨.write, 1, 0x2D⟩ (State.x kernel 2)) = some 0x2000 ∧ (0x2000 : Word).toNat % 8 = 0
      ∧ State.route kernel (0x2000 : Word).toNat = .ram := by decide +kernel

theorem witness_FloatStores : State.fen kernel = true
    ∧ value (State.translate kernel ⟨.write, 1, 0x24⟩ (State.x kernel 2)) = some 0x2000
    ∧ (0x2000 : Word).toNat % 4 = 0 ∧ State.route kernel (0x2000 : Word).toNat = .ram := by decide +kernel

/-- A machine with `STRICT_ALIGNMENT`. -/
def strict : State := { kernel with cfg := { kernel.cfg with strictAlignment := true } }

/-- The last byte below RAM_TOP ends an untranslated misaligned access; a translated one has both parts mapped, or only the first;
a device's first byte. -/
theorem witness_MisalignedAccesses :
    (strict.cfg.strictAlignment = true ∧ State.fen strict = true ∧ State.has strict .bwx = true
      ∧ value (State.translate strict ⟨.read, 1, 0x28⟩ 0x2001) = some 0x2001 ∧ (0x2001 : Word).toNat % 2 ≠ 0)
    ∧ (value (State.translate devices ⟨.read, 1, 0x28⟩ 0x20000FFF) = some 0x20000FFF ∧ (0x20000FFF : Word).toNat % 4 ≠ 0
      ∧ State.route devices 0x20000FFF = .mmio region)
    ∧ (mapped.cfg.strictAlignment = false ∧ (0x40001FFC : Word).toNat % 8 ≠ 0
      ∧ value (State.translate mapped ⟨.read, 1, 0x29⟩ 0x40001FFC) = some 0x101FFC ∧ value splitFault = none
      ∧ State.route mapped 0x101FFC = .ram)
    ∧ (value (State.translate mapped ⟨.read, 1, 0x29⟩ 0x40000001) = some 0x100001
      ∧ value (State.translate mapped ⟨.write, 1, 0x2D⟩ 0x40000001) = some 0x100001 ∧ State.route mapped 0x100001 = .ram)
    ∧ (value (State.translate (State.drainAll kernel) ⟨.write, 1, 0x2F⟩ 0x2004) = some 0x2004 ∧ (0x2004 : Word).toNat % 8 ≠ 0)
    ∧ (State.inPal palMode = true ∧ (State.x palMode 2 + (2 : BitVec 12).signExtend 64).toNat % 4 ≠ 0)
    ∧ (kernel.cfg.strictAlignment = false ∧ kernel.cfg.backendErrs = false ∧ State.translates kernel = false
      ∧ (0x0FFFFFF7 : Word).toNat % 8 ≠ 0 ∧ State.route kernel 0x0FFFFFF7 = .ram ∧ State.route kernel (0x0FFFFFF7 + 7) = .ram
      ∧ State.route kernel (0x0FFFFFF7 + 8) = .ram ∧ State.route kernel (0x0FFFFFF7 + 9) = .unmapped) := by decide +kernel

/-- Split accesses with bytes outside RAM, untranslated: one that begins in RAM and ends past it, one that begins in unmapped space
and ends in a region, one that ends in ROM; and the machine checks that are certain for a store, in strict mode. -/
theorem witness_MisalignedAccesses_outside :
    let strictMmio : State := { devices with cfg := { devices.cfg with mmioStrict := true } }
    devices.cfg.strictAlignment = false ∧ State.translates devices = false ∧ State.fen devices = true
      ∧ ((0x0FFFFFF9 : Word).toNat % 8 ≠ 0 ∧ State.route devices (0x0FFFFFF9 + 6) = .ram
        ∧ State.route devices (0x0FFFFFF9 + 7) = .unmapped)
      ∧ ((0x1FFFFFFF : Word).toNat % 2 ≠ 0 ∧ State.route devices 0x1FFFFFFF = .unmapped
        ∧ State.route devices (0x1FFFFFFF + 1) = .mmio region)
      ∧ ((0x2FFFFFFD : Word).toNat % 4 ≠ 0 ∧ State.route devices 0x2FFFFFFD = .unmapped
        ∧ State.route devices (0x2FFFFFFD + 3) = .rom)
      ∧ (State.route strictMmio 0x2FFFFFFD = .unmapped ∧ strictMmio.cfg.mmioStrict = true)
      ∧ value (State.physRead 1 devices 0x2FFFFFFD) = some 0xFF ∧ value (State.physRead 1 devices 0x30000000) = some 0x5A := by
  decide +kernel

/-- A store split between RAM and a ROM that follows it, in strict mode, with an older store buffered and a machine check being
handled: the CPU halts, the older store has completed, and no byte of this one is written (20_memory.md R161, R176, R242,
60_exceptions.md R840). -/
theorem test_split_store_waits :
    let s : State := { kernel with
      cfg := { kernel.cfg with mmioStrict := true, romBase := 0x10000000 }
      cpu := { kernel.cpu with mces := 1, sb := [.store 0x3000 [9]], regs := kernel.cpu.regs.setIfInBounds 3 0x0FFFFFFF } }
    State.route s 0x10000000 = .rom
      ∧ (after (exec (.stl 2 3 0) s)).map (fun t => (t.cpu.halted, t.cpu.sb, Memory.get t.mem 0x3000, Memory.get t.mem 0x0FFFFFFF))
        = some (true, [], 9, 0) := by decide +kernel

/-- A misaligned load from unmapped space into ROM assembles the bytes (20_memory.md R161, R242, R244). -/
theorem test_split_outside : ((after (exec (.ldl 1 2 0) (State.setX devices 2 0x2FFFFFFD))).map fun t => State.x t 1)
    = some 0x5AFFFFFF := by decide +kernel

theorem witness_LoadLocked : State.memOk kernel = true ∧ State.ramErrs .data (State.drainAll kernel) 0x2000 8 = false
    ∧ value (State.translate (State.drainAll kernel) ⟨.read, 1, 0x2B⟩ 0x2000) = some 0x2000 ∧ (0x2000 : Word).toNat % 8 = 0
    ∧ State.route kernel 0x2000 = .ram := by decide +kernel

/-- The reservation that an LDx_L of 0x2000 leaves. -/
def reserved : State := { kernel with cpu := { kernel.cpu with lockFlag := true, lockLine := 0x2000 } }

/-- With the reservation, with one on another line, and with none. -/
theorem witness_StoreConditional :
    State.memOk reserved = true
      ∧ value (State.translate (State.drainAll reserved) ⟨.write, 1, 0x2F⟩ 0x2038) = some 0x2038
      ∧ (0x2038 : Word).toNat % 8 = 0 ∧ State.route reserved 0x2038 = .ram
      ∧ (reserved.cpu.lockFlag = true ∧ reserved.cpu.lockLine = BitVec.ofNat 64 (0x2038 - 0x2038 % 2 ^ reserved.cfg.lineLog2))
      ∧ reserved.cpu.lockLine ≠ BitVec.ofNat 64 (0x2040 - 0x2040 % 2 ^ reserved.cfg.lineLog2)
      ∧ kernel.cpu.lockFlag = false
      ∧ State.route { devices with cpu := { devices.cpu with lockFlag := true, lockLine := 0x20000000 } } 0x20000008 = .mmio region
      ∧ (0x20000000 : Word) = BitVec.ofNat 64 (0x20000008 - 0x20000008 % 2 ^ devices.cfg.lineLog2) := by decide +kernel

/-- Two CPUs that hold a reservation on one line: the STx_C of one takes the other's away, a failing one does not
(20_memory.md R181, R183, R184). -/
theorem test_stx_c_and_peers :
    let other : Cpu := { reserved.cpu with whami := 1 }
    let both : State := { reserved with peers := [other] }
    ((after (exec (.stqC 1 2 0) both)).map fun t => (State.x t 1, t.peers.map fun c => c.lockFlag)) = some (1, [false])
      ∧ ((after (exec (.stqC 1 2 0) { both with cpu := { both.cpu with lockFlag := false } })).map fun t =>
        (State.x t 1, t.peers.map fun c => c.lockFlag)) = some (0, [true]) := by decide +kernel

theorem witness_CompletedStores : ([1, 2] : List Byte) ≠ [] ∧ State.memOk reserved = true
    ∧ reserved.cpu.lockLine = BitVec.ofNat 64 (0x1FFF + 1 - (0x1FFF + 1) % 2 ^ reserved.cfg.lineLog2)
    ∧ reserved.cpu.lockLine ≠ BitVec.ofNat 64 (0x1FFF + 0 - (0x1FFF + 0) % 2 ^ reserved.cfg.lineLog2) := by decide +kernel

/-- Two overlapping stores, a marker and a later store. -/
def buffered : State :=
  { kernel with cpu := { kernel.cpu with sb := [.store 0x2000 [9, 9], .store 0x2001 [8], .store 0x2008 [7], .wmb, .store 0x2010 [6]] } }

theorem witness_Barriers : State.memOk buffered = true := by decide +kernel

/-- With a store buffered the machine is not alone: its steps are the scheduler's. -/
theorem witness_Boundaries_scheduled : State.alone buffered = false := by decide

/-- Entry 0 may drain, entry 2 may pass the two before it, entry 1 may not pass entry 0, entry 4 stands behind a marker, entry 3 is one. -/
theorem witness_DrainsKeepOwnView : State.memOk buffered = true ∧ (State.drainOne buffered 0).isSome = true
    ∧ (State.drainOne buffered 2).isSome = true ∧ State.drainOne buffered 3 = none
    ∧ (buffered.cpu.sb[2]? = some (.store 0x2008 [7]) ∧ 0x2000 + [(9 : Byte), 9].length ≤ 0x2008
      ∧ 0x2001 + [(8 : Byte)].length ≤ 0x2008) ∧ buffered.cpu.sb[3]? = some .wmb ∧ 3 < 4
    ∧ (0 < 1 ∧ buffered.cpu.sb[1]? = some (.store 0x2001 [8]) ∧ buffered.cpu.sb[0]? = some (.store 0x2000 [9, 9])
      ∧ 0x2001 ≤ 0x2001 ∧ 0x2001 < 0x2001 + [(8 : Byte)].length ∧ 0x2000 ≤ 0x2001
      ∧ 0x2001 < 0x2000 + [(9 : Byte), 9].length) := by decide +kernel

/-- Branch conditions at their boundaries (the registers of `witness_ConditionalMoves`). -/
theorem witness_BranchesAndJumps :
    State.x kernel 31 = 0 ∧ State.x kernel 2 ≠ 0 ∧ 0 < (State.x kernel 2).toInt ∧ (State.x kernel 2).getLsbD 0 = false
      ∧ (State.x (State.setX kernel 1 0xFFFFFFFFFFFFFFFF) 1).toInt < 0
      ∧ (State.x (State.setX kernel 1 0xFFFFFFFFFFFFFFFF) 1).getLsbD 0 = true := by decide +kernel

/-- Both zeros, both signs, the least denormal and a negative NaN. -/
theorem witness_FloatBranchesAndMoves : State.fen kernel = true
    ∧ (State.f kernel 1).extractLsb' 0 63 = 0 ∧ (0x8000000000000000 : Word).extractLsb' 0 63 = 0
    ∧ ((0x8000000000000001 : Word).getLsbD 63 = true ∧ (0x8000000000000001 : Word).extractLsb' 0 63 ≠ 0
      ∧ (0x8000000000000001 : Word).extractLsb' 52 11 ≠ 0x7FF)
    ∧ ((1 : Word).getLsbD 63 = false ∧ (1 : Word).extractLsb' 0 63 ≠ 0 ∧ (1 : Word).extractLsb' 52 11 ≠ 0x7FF)
    ∧ ((0xFFF0000000000001 : Word).extractLsb' 52 11 = 0x7FF ∧ (0xFFF0000000000001 : Word).extractLsb' 0 52 ≠ 0) := by
  decide +kernel

theorem witness_FloatMovesAndFpcr : State.fen kernel = true ∧ State.has kernel .fix = true
    ∧ maskedBy fpcrMask kernel.cpu.fpcr = true ∧ maskedBy fpcrMask stickyState.cpu.fpcr = true
    ∧ (52 ≤ 52 ∧ 52 ≤ 57 ∧ stickyState.cpu.fpcr.getLsbD 52 = true) := by decide

/-- Each kind of register of the rules: quiet and signaling NaNs, infinities, zeros, denormals, and S registers that are valid at the
ends of the ranges and not beyond. -/
theorem witness_IeeeOperates : State.fen kernel = true
    ∧ (isNan 0x7FF8000000000000 = true ∧ isSignaling 0x7FF8000000000000 = false ∧ isSignaling 0x7FF0000000000001 = true)
    ∧ (isInf 0xFFF0000000000000 = true ∧ isNan 0xFFF0000000000000 = false ∧ isNan 0 = false ∧ isInf 0x7FEFFFFFFFFFFFFF = false)
    ∧ (Fmt.valid .s 0x3800000000000000 = false ∧ Fmt.valid .s 0x3810000000000000 = true ∧ Fmt.valid .s 0x47E0000000000000 = true
      ∧ Fmt.valid .s 0x47F0000000000000 = false ∧ Fmt.valid .s 1 = false ∧ Fmt.valid .s 0x7FF0000020000000 = true)
    ∧ ((0 : Word).extractLsb' 52 11 = 0 ∧ (1 : Word).extractLsb' 0 52 ≠ 0 ∧ (0x8000000000000000 : Word).getLsbD 63 = true)
    ∧ Fmt.value .t false 1 = .num false 1 (-1074) ∧ Fmt.value .t true 1 = .num false 0 (-1074) := by decide

/-- A reserved operand of G and of D, a dirty zero, and F registers that are valid at the ends of the range and not beyond. -/
theorem witness_VaxOperatesAndRoots : State.fen kernel = true ∧ State.has kernel .fix = true
    ∧ ((0x8000000000000000 : Word).getLsbD 63 = true ∧ (0x8000000000000000 : Word).extractLsb' 52 11 = 0
      ∧ (0x8070000000000000 : Word).extractLsb' 55 8 = 0 ∧ (0x8070000000000000 : Word).extractLsb' 52 11 ≠ 0)
    ∧ Fmt.value .g false 1 = .num false 0 0 ∧ Fmt.value .d false 0x4080000000000000 = .num false (2 ^ 55) (-55)
    ∧ (Fmt.valid .f 0x3800000000000000 = false ∧ Fmt.valid .f 0x3810000000000000 = true ∧ Fmt.valid .f 0x47F0000000000000 = true
      ∧ Fmt.valid .f 0x4800000000000000 = false) := by decide

/-- One unit of 2^e is 2^52 units of 2^(e − 52). -/
theorem rounded_one (e : ℤ) : ((roundAt .even false 1 e (e + Nat.log2 1 + 1 - 53)).1 : ℚ) * (2 : ℚ) ^ (e + (Nat.log2 1 : ℤ) + 1 - 53)
    = (2 : ℚ) ^ e := by
  have h : Nat.log2 1 = 0 := by decide
  have hq : e + ((0 : ℕ) : ℤ) + 1 - 53 = e - 52 := by push_cast; ring
  have h52 : (e - (e - 52)).toNat = 52 := by omega
  rw [h, hq, roundAt, if_pos (by omega), h52, zpow_sub₀ (by norm_num)]
  norm_num
  field_simp

/-- The ends of the range of T: the least normal, the value above the largest finite one, and one below the least normal. -/
theorem witness_RoundingModes_range :
    (1 : ℕ) ≠ 0 ∧ (2 : ℚ) ^ (-1022 : ℤ) ≤ ((roundAt .even false 1 (-1022) (-1022 + Nat.log2 1 + 1 - 53)).1 : ℚ)
        * (2 : ℚ) ^ (-1022 + (Nat.log2 1 : ℤ) + 1 - 53)
    ∧ (2 : ℚ) ^ (1024 : ℤ) ≤ ((roundAt .even false 1 1024 (1024 + Nat.log2 1 + 1 - 53)).1 : ℚ)
        * (2 : ℚ) ^ (1024 + (Nat.log2 1 : ℤ) + 1 - 53)
    ∧ ((roundAt .even false 1 (-1023) (-1023 + Nat.log2 1 + 1 - 53)).1 : ℚ)
        * (2 : ℚ) ^ (-1023 + (Nat.log2 1 : ℤ) + 1 - 53) < (2 : ℚ) ^ (-1022 : ℤ) := by
  rw [rounded_one, rounded_one, rounded_one]
  exact ⟨one_ne_zero, le_refl _, le_refl _, zpow_lt_zpow_right₀ (by norm_num) (by norm_num)⟩

theorem witness_RoundingModes : 0 < 2 ∧ 8 % 2 ^ 2 = 0 ∧ 9 % 2 ^ 2 ≠ 0 ∧ 2 * (9 % 2 ^ 2) < 2 ^ 2 ∧ 2 ^ 2 < 2 * (11 % 2 ^ 2)
    ∧ 2 * (10 % 2 ^ 2) = 2 ^ 2 := by decide

/-- Controls without a zero-result rule, in any mode. -/
def ctl (m : RMode) : FpCtl := { mode := m, dnz := false, tinyToZero := false, nan := 0, free := ⟨true, 0, 0, 0⟩ }

/-- 1.0 in T, S, G, F and D, and the least denormals of T and S. -/
theorem witness_ValuesRoundToThemselves : (ctl .even).tinyToZero = false
    ∧ (Fmt.valid .t 0x3FF0000000000000 = true ∧ Fmt.value .t false 0x3FF0000000000000 = .num false (2 ^ 52) (-52))
    ∧ (Fmt.valid .s 0x3FF0000000000000 = true ∧ Fmt.value .s false 0x3FF0000000000000 = .num false (2 ^ 23) (-23))
    ∧ (Fmt.valid .g 0x4010000000000000 = true ∧ Fmt.value .g false 0x4010000000000000 = .num false (2 ^ 52) (-52))
    ∧ (Fmt.valid .f 0x4010000000000000 = true ∧ Fmt.value .f false 0x4010000000000000 = .num false (2 ^ 23) (-23))
    ∧ (Fmt.valid .d 0x4080000000000000 = true ∧ Fmt.value .d false 0x4080000000000000 = .num false (2 ^ 55) (-55))
    ∧ (Fmt.valid .t 1 = true ∧ Fmt.value .t false 1 = .num false 1 (-1074))
    ∧ (Fmt.valid .s 0x20000000 = true ∧ Fmt.value .s false 0x20000000 = .num false 1 (-149)) := by decide

/-- −0 over 1.0 is −0 in T and S, and zero over −1.0 true zero in G and F, raising nothing (43_float.md R605, R610, R626). -/
theorem test_zero_dividend : Fmt.div .t (ctl .even) 0x8000000000000000 0x3FF0000000000000 = ⟨0x8000000000000000, 0, 0⟩
    ∧ Fmt.div .s (ctl .even) 0x8000000000000000 0x3FF0000000000000 = ⟨0x8000000000000000, 0, 0⟩
    ∧ Fmt.div .g (ctl .away) 0 0xC010000000000000 = ⟨0, 0, 0⟩ ∧ Fmt.div .f (ctl .away) 0 0xC010000000000000 = ⟨0, 0, 0⟩ := by decide

/-- 1.0 and −1.0 in T: a sum of zero, a difference that is not, an exact quotient and an exact root; and −0, a zero dividend. -/
theorem witness_ArithmeticRoundsExactResults :
    Fmt.valid .t 0x3FF0000000000000 = true ∧ Fmt.valid .t 0xBFF0000000000000 = true
      ∧ Fmt.value .t false 0x3FF0000000000000 = .num false (2 ^ 52) (-52)
      ∧ Fmt.value .t false 0xBFF0000000000000 = .num true (2 ^ 52) (-52)
      ∧ (-53 : Int) ≤ -52
      ∧ (1 : Int) * ((2 ^ 52 : Nat) * 2 ^ ((-52 : Int) - -53).toNat) + -1 * ((2 ^ 52 : Nat) * 2 ^ ((-52 : Int) - -53).toNat) = 0
      ∧ (1 : Int) * ((2 ^ 52 : Nat) * 2 ^ ((-52 : Int) - -53).toNat) - -1 * ((2 ^ 52 : Nat) * 2 ^ ((-52 : Int) - -53).toNat) ≠ 0
      ∧ (Fmt.valid .t 0x8000000000000000 = true ∧ Fmt.value .t false 0x8000000000000000 = .num true 0 (-1074)
        ∧ 0 * 2 ^ 52 * 2 ^ ((0 : Int) + -52 - min (0 + -52) (-1074)).toNat = 0 * 2 ^ ((-1074 : Int) - min (0 + -52) (-1074)).toNat)
      ∧ (2 ^ 52 ≠ 0 ∧ 1 * 2 ^ 52 * 2 ^ ((0 : Int) + -52 - min (0 + -52) (-52)).toNat = 2 ^ 52 * 2 ^ ((-52 : Int) - min (0 + -52) (-52)).toNat)
      ∧ 1 * 1 * 2 ^ (2 * (0 : Int) - min (2 * 0) (-52)).toNat = 2 ^ 52 * 2 ^ ((-52 : Int) - min (2 * 0) (-52)).toNat := by
  decide +kernel

/-- 1.0 over 3.0, and the root of 2.0, in T, neither exact: both in units of 2^e with more bits than the format. -/
theorem witness_ArithmeticRoundsExactResults_inexact :
    (Fmt.value .t false 0x4008000000000000 = .num false (3 * 2 ^ 51) (-51)
      ∧ Fmt.value .t false 0x4000000000000000 = .num false (2 ^ 52) (-51))
    ∧ (2 ^ 53 ≤ 12009599006321322
      ∧ (12009599006321322 : ℚ) * (2 : ℚ) ^ (-55 : ℤ) < (2 ^ 52 * (2 : ℚ) ^ (-52 : ℤ)) / (3 * 2 ^ 51 * (2 : ℚ) ^ (-51 : ℤ))
      ∧ (2 ^ 52 * (2 : ℚ) ^ (-52 : ℤ)) / (3 * 2 ^ 51 * (2 : ℚ) ^ (-51 : ℤ)) < (12009599006321322 + 1) * (2 : ℚ) ^ (-55 : ℤ))
    ∧ (2 ^ 53 ≤ 12738103345051545
      ∧ ((12738103345051545 : ℚ) * (2 : ℚ) ^ (-53 : ℤ)) ^ 2 < 2 ^ 52 * (2 : ℚ) ^ (-51 : ℤ)
      ∧ 2 ^ 52 * (2 : ℚ) ^ (-51 : ℤ) < ((12738103345051545 + 1) * (2 : ℚ) ^ (-53 : ℤ)) ^ 2)
    ∧ (0 < 1 ∧ 1 < 2 ^ 1) :=
  ⟨⟨by decide, by decide⟩, by norm_num [zpow_neg], by norm_num [zpow_neg], by decide⟩

/-- The worked values of 43_float.md R601, both ways, and by its layouts: −∞, −0 and the least denormal of S, and an F value with its
sign set and each fraction word nonzero. -/
theorem test_float_memory_forms : ([(0x3F800000, 0x3FF0000000000000), (0xFF800000, 0xFFF0000000000000), (0x80000000, 0x8000000000000000),
      (1, 0x20000000)].all fun (m, r) => sMemToReg m == r && sRegToMem r == m) = true
    ∧ ([(0x00004080, 0x4010000000000000), (0x1234C081, 0xC010224680000000)].all fun (m, r) =>
      fMemToReg m == r && fRegToMem r == m) = true
    ∧ ([(0x4010, 0x4010000000000000), (0x0123456789ABCDEF, 0xCDEF89AB45670123)].all fun (m, r) =>
      gMemToReg m == r && gRegToMem r == m) = true := by decide

/-- With /SU and every disable bit set nothing traps but what always does (43_float.md R606, R610). -/
theorem test_always_traps : trapping .su 0x600E000000000000 0xF 0 = 0 ∧ trapping .su 0x600E000000000000 0xF 5 = 5
    ∧ trapping .su 0x600E000000000000 0x2 5 = 0 := by decide

theorem witness_FloatMemoryForms : Fmt.valid .s 0x3FF0000000000000 = true ∧ Fmt.valid .s 0 = true
    ∧ Fmt.valid .s 0x47EFFFFFE0000000 = true ∧ Fmt.valid .f 0x4010000000000000 = true := by decide

/-- What a blob may hold in the bits of MM_STAT that do not exist is dropped (10_state.md R69; log 37). -/
theorem test_restore_drops_reserved : (readFixed kernel.cpu (List.replicate 96 (BitVec.allOnes 64))).mmStat = 0x7FFFF
    ∧ Cpu.reservedZero (readFixed kernel.cpu (List.replicate 96 (BitVec.allOnes 64))) = true := by decide +kernel

/-- A pending arithmetic trap. -/
def pending : State := { user with cpu := { user.cpu with pend := ⟨true, 0x40, 8⟩ } }

theorem witness_MiscInstructions : user.cpu.pend.valid = false ∧ pending.cpu.pend.valid = true := by decide

theorem witness_OnlyWh64Stops : ∀ ra rb, Instr.mb 0 0 ≠ .wh64 ra rb ∧ Instr.mb 0 0 ≠ .wh64en ra rb :=
  fun _ _ => ⟨Instr.noConfusion, Instr.noConfusion⟩

/-- The functions at the ends of the legal ranges, in user and in kernel mode, with and without a pending trap. -/
theorem witness_CallPal :
    ¬ ((0x40 : BitVec 26).toNat < 0x40 ∨ (0x80 ≤ (0x40 : BitVec 26).toNat ∧ (0x40 : BitVec 26).toNat < 0xC0))
      ∧ ¬ ((0xC0 : BitVec 26).toNat < 0x40 ∨ (0x80 ≤ (0xC0 : BitVec 26).toNat ∧ (0xC0 : BitVec 26).toNat < 0xC0))
      ∧ ((0x3F : BitVec 26).toNat < 0x40 ∧ State.inPal user = false ∧ user.cpu.ps.extractLsb' 3 2 ≠ 0)
      ∧ (0x80 ≤ (0xBF : BitVec 26).toNat ∧ (0xBF : BitVec 26).toNat < 0xC0 ∧ ¬ (0xBF : BitVec 26).toNat < 0x40)
      ∧ pending.cpu.pend.valid = true ∧ user.cpu.pend.valid = false ∧ State.memOk user = true
      ∧ ¬ (State.inPal kernel = false ∧ kernel.cpu.ps.extractLsb' 3 2 ≠ 0) := by decide +kernel

theorem witness_ReadProcessorRegister : State.inPal palMode = true
    ∧ (0x20 ≤ (0x20 : BitVec 16).toNat ∧ (0x20 : BitVec 16).toNat ≤ 0x28)
    ∧ (0x13 ≤ (0x13 : BitVec 16).toNat ∧ (0x13 : BitVec 16).toNat < 0x20)
    ∧ (0x13 ≤ (0x1F : BitVec 16).toNat ∧ (0x1F : BitVec 16).toNat < 0x20) ∧ 0x28 < (0x29 : BitVec 16).toNat
    ∧ 0x28 < (0xFFFF : BitVec 16).toNat := by decide

/-- The buffered stores of `buffered`, in PAL mode. -/
def palBuffered : State := { palMode with cpu := { palMode.cpu with sb := buffered.cpu.sb } }

theorem witness_WriteProcessorRegister : State.inPal palMode = true ∧ (State.drainAll palMode).cpu.palBaseLocked = false
    ∧ State.inPal palBuffered = true ∧ palBuffered.cpu.sb ≠ [] ∧ (State.drainAll palBuffered).cpu.sb = []
    ∧ ({ palMode.cpu with palBaseLocked := true } : Cpu).palBaseLocked = true
    ∧ 0x28 < (0x29 : BitVec 16).toNat ∧ (0x13 ≤ (0x1F : BitVec 16).toNat ∧ (0x1F : BitVec 16).toNat < 0x20) := by decide +kernel

/-- Requests of IPL 20 and, twice, 21: the smaller vector of IPL 21 is due. -/
def requests : List Irq := [⟨1, 20⟩, ⟨2, 21⟩, ⟨3, 21⟩]

/-- A vector that is in the set, and one that is not. -/
theorem witness_WriteProcessorRegister_irq : irqSorted requests = true ∧ (requests.any fun r => r.vector == 2) = true
    ∧ (requests.all fun r => r.vector != 4) = true := by decide

theorem witness_TlbInvalidation : State.inPal palMode = true ∧ State.inPal palBuffered = true ∧ palBuffered.cpu.sb ≠ [] := by
  decide +kernel

theorem witness_PhysicalAccessAndReturn : State.inPal palMode = true ∧ State.ramErrs .data palMode 0x2004 4 = false
    ∧ (State.x palMode 2 + (0xFF8 : BitVec 12).signExtend 64).toNat % 8 = 0
    ∧ (State.x palMode 2 + (4 : BitVec 12).signExtend 64).toNat % 4 = 0
    ∧ State.route palMode (State.x palMode 2 + (0xFF8 : BitVec 12).signExtend 64).toNat = .ram
    ∧ devices.regions.Pairwise (fun a b => a.stop < b.start ∨ b.stop < a.start)
    ∧ (region ∈ devices.regions ∧ region.start ≤ 0x20000FFF ∧ 0x20000FFF ≤ region.stop) ∧ ¬ 0x20001000 ≤ region.stop := by
  decide +kernel

theorem witness_PrivilegedAndDisabled : State.inPal kernel = false
    ∧ Instr.isFloat (.sqrtt ⟨.none, .normal⟩ 1 2) = true
    ∧ State.fen State.reset = false ∧ Instr.extension (.sqrtt ⟨.none, .normal⟩ 1 2) = some .fix
    ∧ State.has State.reset .fix = true ∧ Instr.isFloat (.fbeq 1 0) = true ∧ Instr.extension (.fbeq 1 0) = none := by decide

/-- With and without a pending trap, with and without a machine check being handled. -/
theorem witness_ExceptionEntry : State.memOk user = true ∧ user.cpu.pend.valid = false ∧ pending.cpu.pend.valid = true
    ∧ user.cpu.mces.getLsbD 0 = false
    ∧ ({ user with cpu := { user.cpu with mces := 1 } } : State).cpu.mces.getLsbD 0 = true := by decide +kernel

/-- A sleeping CPU whose only request is at its own IPL. -/
def asleep : State := { kernel with cpu := { kernel.cpu with sleeping := true, irq := [⟨5, 31⟩] } }

/-- A user-mode CPU with requests, and the stores of `buffered`. -/
def interrupted : State := { user with cpu := { user.cpu with irq := requests, sb := buffered.cpu.sb } }

/-- An MB empties the store buffer in its step, an ADDQ does not, and WMB only adds a marker to it (20_memory.md R173, R174; the
`oldestLeaves` of Machine/Runs.lean). -/
theorem test_empties_buffer :
    let at_ (w : Nat) : State :=
      let s := kernel.withFetchWord 32 w
      { s with cpu := { s.cpu with sb := [.store 0x2000 [1]] } }
    (State.emptiesBuffer (at_ 0x63FF4000), State.emptiesBuffer (at_ 0x43C0740B), State.emptiesBuffer (at_ 0x63FF4400))
      = (true, false, false) := by decide +kernel

theorem witness_Boundaries :
    State.alone kernel = true
    ∧ ({ kernel.cpu with haltReq := true } : Cpu).haltReq = true
    ∧ (haltedState.cpu.haltReq = false ∧ haltedState.cpu.halted = true)
    ∧ (asleep.cpu.haltReq = false ∧ asleep.cpu.halted = false ∧ asleep.cpu.sleeping = true
      ∧ (asleep.cpu.irq.all fun q => decide (q.ipl.toNat ≤ (asleep.cpu.ps.extractLsb' 8 5).toNat)) = true)
    ∧ (State.wakes { asleep with cpu := { asleep.cpu with ps := 0x1E20 } } = true
      ∧ (30 : BitVec 5).toNat < (31 : BitVec 5).toNat ∧ (0x1E20 : Word).extractLsb' 8 5 = 30)
    ∧ (pending.cpu.haltReq = false ∧ pending.cpu.halted = false ∧ pending.cpu.sleeping = false ∧ pending.cpu.pend.valid = true
      ∧ (interrupted.cpu.irq.any fun q => decide ((interrupted.cpu.ps.extractLsb' 8 5).toNat < q.ipl.toNat)) = true)
    ∧ (kernel.cpu.pend.valid = false ∧ kernel.cpu.irq = [] ∧ kernel.cpu.tbiIn = []
      ∧ ({ kernel.cpu with tbiIn := [.tbia, .tbiap] } : Cpu).tbiIn ≠ [])
    ∧ (State.memOk interrupted = true ∧ interrupted.cpu.sb ≠ [] ∧ interrupted.cpu.haltReq = false ∧ interrupted.cpu.halted = false
      ∧ interrupted.cpu.sleeping = false ∧ interrupted.cpu.tbiIn = [] ∧ interrupted.cpu.pend.valid = false
      ∧ irqSorted interrupted.cpu.irq = true ∧ State.inPal interrupted = false ∧ interrupted.cpu.ps.getLsbD 6 = true
      ∧ interrupted.cpu.irq.contains ⟨2, 21⟩ = true
      ∧ (interrupted.cpu.ps.extractLsb' 8 5).toNat < (21 : BitVec 5).toNat
      ∧ (interrupted.cpu.irq.all fun r => decide (r.ipl.toNat < (21 : BitVec 5).toNat ∨ r.ipl = 21 ∧
        (2 : BitVec 16).toNat ≤ r.vector.toNat)) = true) := by decide +kernel

/-- PAL mode, TE = 0, a non-canonical address, one out of range, and a hit that is readable, one that is not, one with FOR. -/
theorem witness_Translation :
    State.inPal palMode = true ∧ kernel.cpu.mmuCtl.getLsbD 0 = false ∧ State.inPal mapped = false
      ∧ mapped.cpu.mmuCtl.getLsbD 0 = true
      ∧ (0x0000080000000000 : Word).getLsbD 43 ≠ (0x0000080000000000 : Word).getLsbD 42
      ∧ (0x8000000040000000 : Word).getLsbD 63 ≠ (0x8000000040000000 : Word).getLsbD 42
      ∧ (List.range 21).all (fun k => (0x40000000 : Word).getLsbD (43 + k) == (0x40000000 : Word).getLsbD 42) = true
      ∧ mapped.cpu.dtb.entries = [filled] ∧ (0x40000000 : Word).toNat / 2 ^ filled.shift = filled.tag
      ∧ filled.asn = mapped.cpu.dtbAsn.setWidth 8
      ∧ filled.perms.getLsbD 0 = true ∧ filled.perms.getLsbD 3 = false ∧ filled.perms.getLsbD (4 + 3) = false
      ∧ ({ filled with fo := 1 } : TlbEntry).fo.getLsbD 0 = true := by decide +kernel

/-- A miss of S4's address: translated, in range, no entry matches, the walk answers, and another address whose walk faults. -/
theorem witness_WalkAndFill_miss : State.inPal paged = false ∧ paged.cpu.mmuCtl.getLsbD 0 = true
    ∧ (List.range 21).all (fun k => (0x40000000 : Word).getLsbD (43 + k) == (0x40000000 : Word).getLsbD 42) = true
    ∧ paged.cpu.dtb.entries = []
    ∧ value (State.walk (State.withTlb paged .read { paged.cpu.dtb with misses := paged.cpu.dtb.misses + 1 }) ⟨.read, 1, 0x29⟩
      0x40000000) = some 0x0000008000001101
    ∧ value (State.walk (State.withTlb paged .read { paged.cpu.dtb with misses := paged.cpu.dtb.misses + 1 }) ⟨.read, 1, 0x29⟩
      0x40002000) = none := by decide +kernel

/-- A granularity hint of 3 with 4 MB pages, and without: 64 KB is then the largest supported size. -/
theorem test_granularity :
    (TlbEntry.ofLeaf Params.default 64 0x40812345 7 0x0000123400001171).shift = 22
      ∧ (TlbEntry.ofLeaf Params.default 64 0x40812345 7 0x0000123400001171).base = 0x2400000
      ∧ (TlbEntry.ofLeaf { Params.default with pageSizes := [0x10000, 0x2000] } 64 0x40812345 7 0x0000123400001171).shift = 16
      ∧ (TlbEntry.ofLeaf Params.default 64 0x40812345 7 0x0000123400001171).global = true := by decide

/-- The tables of S4: all three levels valid, and other addresses whose walk stops at each level. -/
theorem witness_WalkAndFill : paged.cfg.backendErrs = false ∧ erring.cfg.backendErrs = true
    ∧ State.route paged 0x2000 = .ram ∧ State.route paged 0x4400 = .ram ∧ State.route paged 0x6000 = .ram
    ∧ value (State.walk paged ⟨.read, 1, 0x29⟩ 0x40000000) = some 0x0000008000001101
    ∧ (ofBytes (Memory.getBytes paged.mem 0x2008 8)).getLsbD 0 = false
    ∧ (ofBytes (Memory.getBytes paged.mem 0x4408 8)).getLsbD 0 = false
    ∧ (ofBytes (Memory.getBytes paged.mem 0x6008 8)).getLsbD 0 = false := by decide +kernel

theorem witness_WalkAndFill_pairwise : ([filled] : List TlbEntry).Pairwise fun x y =>
    ∀ va asn, ¬ (TlbEntry.matches x va asn = true ∧ TlbEntry.matches y va asn = true) := by simp

end Sys2Proof.Tests
end

/-! PROOFS. The launch of a machine (00_scope.md R7, R9; 70_reset_and_hazards.md R900 to R905, R933): which launches answer a
machine, and what that machine holds. -/

namespace Sys2Proof.Machine

/-! Attaching regions. -/

/-- A region that `attach_mmio` takes on its own (70_reset_and_hazards.md R933). -/
def MmioRegion.inOrder (r : MmioRegion) : Prop := r.start ≤ r.stop ∧ r.stop < 2 ^ 48

/-- Two regions with no address in common. -/
def MmioRegion.apart (a b : MmioRegion) : Prop := a.stop < b.start ∨ b.stop < a.start

theorem MmioRegion.not_inOrder {r : MmioRegion} : ¬ r.inOrder ↔ r.stop < r.start ∨ 2 ^ 48 ≤ r.stop := by
  rw [inOrder, not_and_or, not_le, not_lt]

/-- The test for an overlap that `attach_mmio` makes. -/
theorem MmioRegion.any_overlap_eq_false {qs : List MmioRegion} {r : MmioRegion} :
    (qs.any fun q => decide (q.start ≤ r.stop) && decide (r.start ≤ q.stop)) = false ↔ ∀ q ∈ qs, q.apart r := by
  rw [List.any_eq_false]
  refine forall₂_congr fun q _ => ?_
  simp only [Bool.and_eq_true, decide_eq_true_eq, apart]
  omega

/-- `attach_mmio` answers a state exactly for a region in order that overlaps none, and adds it (R933). -/
theorem attachMmio_next_iff {r : MmioRegion} {s t : State} : attachMmio r.start r.stop r.dev s = .next t ↔
    r.inOrder ∧ (∀ q ∈ s.regions, q.apart r) ∧ t = { s with regions := s.regions ++ [r] } := by
  rw [← MmioRegion.any_overlap_eq_false, attachMmio]
  split
  next hbad => simp [MmioRegion.not_inOrder.2 hbad]
  next hgood =>
    have hr : r.inOrder := not_not.1 (mt MmioRegion.not_inOrder.1 hgood)
    split
    next hover => simp [hover]
    next hfree => simp [hr, hfree, eq_comm]

theorem attachMmio_next_or_fault (a b d : Nat) (s : State) :
    (∃ t, attachMmio a b d s = .next t) ∨ ∃ f, attachMmio a b d s = .fault f := by
  unfold attachMmio
  split
  · exact .inr ⟨_, rfl⟩
  · split
    · exact .inr ⟨_, rfl⟩
    · exact .inl ⟨_, rfl⟩

/-- A region that is attached comes before the rest. -/
theorem attachAll_cons_next_iff {r : MmioRegion} {rs : List MmioRegion} {s t : State} : attachAll (r :: rs) s = .next t ↔
    ∃ u, attachMmio r.start r.stop r.dev s = .next u ∧ attachAll rs u = .next t := by
  rw [attachAll]
  cases attachMmio r.start r.stop r.dev s <;> simp

/-- Regions are attached exactly if each is in order, apart from those attached before, and they are apart from each other. -/
theorem attachAll_next_iff {rs : List MmioRegion} {s t : State} : attachAll rs s = .next t ↔
    (∀ r ∈ rs, r.inOrder) ∧ (∀ r ∈ rs, ∀ q ∈ s.regions, q.apart r) ∧ rs.Pairwise MmioRegion.apart
      ∧ t = { s with regions := s.regions ++ rs } := by
  induction rs generalizing s with
  | nil => simp [attachAll, eq_comm]
  | cons r rs ih =>
    simp only [attachAll_cons_next_iff, attachMmio_next_iff, ih, List.forall_mem_cons, List.pairwise_cons]
    constructor
    · rintro ⟨_, ⟨hr, hfree, rfl⟩, hrs, hfrees, hpair, rfl⟩
      refine ⟨⟨hr, hrs⟩, ⟨hfree, fun x hx q hq => hfrees x hx q (List.mem_append_left _ hq)⟩,
        ⟨fun x hx => hfrees x hx r (by simp), hpair⟩, by simp⟩
    · rintro ⟨⟨hr, hrs⟩, ⟨hfree, hfrees⟩, ⟨hhead, hpair⟩, rfl⟩
      refine ⟨_, ⟨hr, hfree, rfl⟩, hrs, fun x hx q hq => ?_, hpair, by simp⟩
      rcases List.mem_append.1 hq with hq | hq
      · exact hfrees x hx q hq
      · exact List.mem_singleton.1 hq ▸ hhead x hx

theorem attachAll_next_or_fault (rs : List MmioRegion) (s : State) :
    (∃ t, attachAll rs s = .next t) ∨ ∃ f, attachAll rs s = .fault f := by
  induction rs generalizing s with
  | nil => exact .inl ⟨s, rfl⟩
  | cons r rs ih =>
    obtain ⟨t, ht⟩ | ⟨f, hf⟩ := attachMmio_next_or_fault r.start r.stop r.dev s
    · simpa only [attachAll, ht] using ih t
    · exact .inr ⟨f, by simp only [attachAll, hf]⟩

/-! Which launches fail. -/

section Launch
variable {enough : Bool} {p : Params} {n : Nat} {image rom : List Host.Cell} {rs : List MmioRegion}

/-- Parameters and images as a launch asks for them (00_scope.md R7; log 35, log 43). -/
def launchable (p : Params) (n : Nat) (image rom : List Host.Cell) : Prop :=
  Params.wf p n = true ∧ n ≤ 65536 ∧ imageOk 0 p.ramTop image = true ∧ imageOk p.romBase p.romTop rom = true

theorem launch_of_launchable (h : launchable p n image rom) : launch enough p n image rom rs =
    if enough then attachAll rs (State.resetWith p n image rom []) else .fault .outOfMemory := by
  obtain ⟨hwf, hn, himage, hrom⟩ := h
  simp [launch, hwf, hn, himage, hrom]

theorem launch_of_not_launchable (h : ¬ launchable p n image rom) :
    launch enough p n image rom rs = .fault .inconsistentConfig := by
  refine if_neg fun hc => h ?_
  simpa [launchable, and_assoc] using hc

theorem launch_of_not_wf (h : Params.wf p n = false) : launch enough p n image rom rs = .fault .inconsistentConfig :=
  launch_of_not_launchable fun hl => Bool.false_ne_true (h.symm.trans hl.1)

/-- A launch answers a machine or a host error, never a refusal (00_scope.md R9). -/
theorem launch_next_or_fault : (∃ s, launch enough p n image rom rs = .next s) ∨
    ∃ f, launch enough p n image rom rs = .fault f := by
  by_cases h : launchable p n image rom
  · rw [launch_of_launchable h]
    cases enough with
    | false => exact .inr ⟨_, rfl⟩
    | true => exact attachAll_next_or_fault rs _
  · exact .inr ⟨_, launch_of_not_launchable h⟩

/-- The launches that answer a machine, and the machine: reset, with the regions attached (70_reset_and_hazards.md R905). -/
theorem launch_next_iff {s : State} : launch enough p n image rom rs = .next s ↔
    enough = true ∧ launchable p n image rom ∧ (∀ r ∈ rs, r.inOrder) ∧ rs.Pairwise MmioRegion.apart
      ∧ s = State.resetWith p n image rom rs := by
  by_cases h : launchable p n image rom
  · rw [launch_of_launchable h]
    cases enough with
    | false => simp
    | true => simp [attachAll_next_iff, h, State.resetWith]
  · simp [launch_of_not_launchable h, h]

theorem launch_fault_of_forall_not_next (h : ∀ s, launch enough p n image rom rs ≠ .next s) :
    ∃ f, launch enough p n image rom rs = .fault f :=
  launch_next_or_fault.resolve_left fun ⟨s, hs⟩ => h s hs

end Launch

/-! Consistent parameters. -/

theorem Params.pageSizesOk_of_wf {p : Params} {n : Nat} (h : Params.wf p n = true) : Params.pageSizesOk p = true := by
  simp only [Params.wf, Bool.and_eq_true] at h
  tauto

theorem Params.vectorIplsOk_of_wf {p : Params} {n : Nat} (h : Params.wf p n = true) : Params.vectorIplsOk p = true := by
  simp only [Params.wf, Bool.and_eq_true] at h
  tauto

theorem Params.pos_of_wf {p : Params} {n : Nat} (h : Params.wf p n = true) : 0 < n := by
  simp only [Params.wf, Bool.and_eq_true, decide_eq_true_eq] at h
  tauto

theorem Params.pageSizesOk_iff {p : Params} : Params.pageSizesOk p = true ↔
    0x2000 ∈ p.pageSizes ∧ ∀ b ∈ p.pageSizes, b = 0x2000 ∨ b = 0x10000 ∨ b = 0x80000 ∨ b = 0x400000 := by
  simp [Params.pageSizesOk]

/-- No vector has IPL 0 under a table without an IPL of 0 (60_exceptions.md R836). -/
theorem Params.vectorIpl_pos {p : Params} (h : Params.vectorIplsOk p = true) (v : BitVec 16) :
    0 < Params.vectorIpl p v := by
  simp only [Params.vectorIplsOk, Bool.and_eq_true, List.all_eq_true, decide_eq_true_eq] at h
  obtain ⟨hother, htable⟩ := h
  rw [Params.vectorIpl]
  cases hv : p.vectorIpls.lookup v with
  | none => exact hother
  | some ipl =>
    obtain ⟨before, after, happ, -⟩ := List.lookup_eq_some_iff.1 hv
    exact htable (v, ipl) (by simp [happ])

theorem Params.wf_eq_false_of_pageSizes {p : Params} {n : Nat}
    (h : 0x2000 ∉ p.pageSizes ∨ ∃ b ∈ p.pageSizes, b ≠ 0x2000 ∧ b ≠ 0x10000 ∧ b ≠ 0x80000 ∧ b ≠ 0x400000) :
    Params.wf p n = false := by
  refine Bool.eq_false_iff.2 fun hwf => ?_
  obtain ⟨hmem, hall⟩ := Params.pageSizesOk_iff.1 (Params.pageSizesOk_of_wf hwf)
  obtain hmiss | ⟨b, hb, h8, h64, h512, h4m⟩ := h
  · exact hmiss hmem
  · obtain h | h | h | h := hall b hb
    exacts [h8 h, h64 h, h512 h, h4m h]

theorem Params.wf_eq_false_of_vectorIpl {p : Params} {n : Nat} {v : BitVec 16} (h : Params.vectorIpl p v = 0) :
    Params.wf p n = false :=
  Bool.eq_false_iff.2 fun hwf => absurd (h ▸ Params.vectorIpl_pos (Params.vectorIplsOk_of_wf hwf) v) (by decide)

/-! The machine after reset. -/

/-- The reset entry lies 64 times the class code 0x40 above PAL_BASE (44_misc_pal.md R723). -/
theorem palEntryExc_linear_reset (base : Word) : palEntryExc .linear base .reset = base + 0x1000 := rfl

theorem palEntryExc_openEv6_reset (base : Word) : palEntryExc .openEv6 base .reset = base + 0x780 := rfl

/-- The CPUs after reset are numbered from 0 (70_reset_and_hazards.md R900). -/
theorem cpus_resetWith {p : Params} {n : Nat} (hn : 0 < n) (image rom : List Host.Cell) (rs : List MmioRegion) :
    State.cpus (State.resetWith p n image rom rs) = (List.range n).map fun i => Cpu.reset p (BitVec.ofNat 16 i) := by
  obtain ⟨m, rfl⟩ := Nat.exists_eq_add_of_lt hn
  simp [State.cpus, State.resetWith, List.range_succ_eq_map]

theorem whami_cpus_resetWith {p : Params} {n : Nat} (hn : 0 < n) (hmax : n ≤ 65536) (image rom : List Host.Cell)
    (rs : List MmioRegion) :
    (State.cpus (State.resetWith p n image rom rs)).map (fun c => c.whami.toNat) = List.range n := by
  rw [cpus_resetWith hn, List.map_map]
  refine (List.map_congr_left fun i hi => ?_).trans (List.map_id _)
  have hi : i < n := List.mem_range.1 hi
  exact Nat.mod_eq_of_lt (by omega)

/-- Settles O4: `launch_next_iff` says which launches answer a machine and that it is the reset state with the regions
attached; what is left are the values of `Cpu.reset` and the tests of `Params.wf`. -/
theorem resetValues : Obligations.ResetValues := by
  intro enough p n image rom rs
  refine ⟨launch_of_not_wf, fun h => launch_of_not_wf (Params.wf_eq_false_of_pageSizes h),
    fun ⟨_, h⟩ => launch_of_not_wf (Params.wf_eq_false_of_vectorIpl h), fun hfew => ?_, fun hbad => ?_,
    fun henough hwf hn himage hrom horder hpair => ?_⟩
  · refine launch_fault_of_forall_not_next fun s hs => ?_
    obtain ⟨henough, -⟩ := launch_next_iff.1 hs
    exact Bool.false_ne_true (hfew.symm.trans henough)
  · refine launch_fault_of_forall_not_next fun s hs => ?_
    obtain ⟨-, -, horder, hpair, -⟩ := launch_next_iff.1 hs
    obtain ⟨r, hr, hbad⟩ | hover := hbad
    · exact MmioRegion.not_inOrder.2 hbad (horder r hr)
    · exact hover hpair
  · have hpos : 0 < n := Params.pos_of_wf hwf
    refine ⟨State.resetWith p n image rom rs,
      launch_next_iff.2 ⟨henough, ⟨hwf, hn, himage, hrom⟩, horder, hpair, rfl⟩,
      whami_cpus_resetWith hpos hn image rom rs, rfl, rfl, rfl, rfl, fun c hc => ?_,
      fun c hc => List.eq_of_mem_replicate hc, rfl⟩
    rw [cpus_resetWith hpos] at hc
    obtain ⟨i, -, rfl⟩ := List.mem_map.1 hc
    refine ⟨?_, by simp [Cpu.reset, Cpu.resetPs]⟩
    cases hscheme : p.palScheme with
    | linear => simpa only [Cpu.reset, hscheme] using palEntryExc_linear_reset _
    | openEv6 => simpa only [Cpu.reset, hscheme] using palEntryExc_openEv6_reset _

end Sys2Proof.Machine

/-! PROOFS. What the state keeps (10_state.md): the frames and invariants of every instruction, by the cases of `Did`, and of every
step, by the cases of `step_cases`. -/

namespace Sys2Proof.Machine

/-! What a taken exception and a write of a processor register do, each said once. -/

/-- Everything that taking a synchronous exception can do (60_exceptions.md R822, R830, R840). -/
inductive Took (s : State) : State → Prop
  /-- The pending arithmetic trap is delivered in its place. -/
  | arith : Took s (State.deliverArith s)
  /-- A machine check while one is being handled halts the CPU. -/
  | halt (h : s.cpu.mces.getLsbD 0 = true) : Took s { s with cpu := { s.cpu with halted := true } }
  /-- A machine check enters with its cause. -/
  | mchk (cause : BitVec 8) : Took s
      (State.enterExc { s with cpu := { s.cpu with mces := (cause.setWidth 64 <<< 8) ||| 1 } } .mchk)
  /-- A memory fault enters with MM_STAT and VA. -/
  | fault (a : Access) (cause : MmCause) (va : Word) (c : ExcClass) : Took s
      (State.enterExc { s with cpu := { s.cpu with mmStat := mmStatOf a cause, va := va } } c)
  /-- Any other exception enters with no register of its own. -/
  | enter (c : ExcClass) : Took s (State.enterExc s c)

theorem take_took (s : State) (e : Exc) : Took s (State.take s e) := by
  cases e with
  | mchk cause =>
    simp only [State.take, State.machineCheck]
    split
    next h => exact .halt h
    next => exact .mchk cause
  | mmFault a cause va =>
    simp only [State.take]
    split
    next => exact .arith
    next => exact .fault a cause va _
  | opcdec | priv | fen =>
    simp only [State.take]
    split
    next => exact .arith
    next => exact .enter _

/-- What a write of a processor register leaves alone (44_misc_pal.md R751): the register files, the FPCR, intr_flag and all that
the CPUs share. -/
structure IprWritten (s t : State) : Prop where
  regs : t.cpu.regs = s.cpu.regs
  fregs : t.cpu.fregs = s.cpu.fregs
  fpcr : t.cpu.fpcr = s.cpu.fpcr
  intrFlag : t.cpu.intrFlag = s.cpu.intrFlag
  shared : t = { s with cpu := t.cpu, peers := t.peers }

theorem iprWritten_broadcastTbi (s : State) (cmd : TbiCmd) : IprWritten s (State.broadcastTbi s cmd) := by
  obtain ⟨b, d, h⟩ := tbi_eq s.cpu cmd
  have hcpu : (State.broadcastTbi s cmd).cpu = { s.cpu with itb := b, dtb := d } := h
  exact ⟨by rw [hcpu], by rw [hcpu], by rw [hcpu], by rw [hcpu], rfl⟩

theorem iprWritten_sendIpi (s : State) (n : BitVec 16) : IprWritten s (State.sendIpi s n) := by
  have hcpu : (State.sendIpi s n).cpu
      = if s.cpu.whami = n then Cpu.addIrq ⟨s.cfg.ipiVector, s.cfg.ipiIpl⟩ s.cpu else s.cpu := rfl
  constructor
  case shared => rfl
  all_goals rw [hcpu]; split <;> rfl

theorem iprWritten_writeIpr (s : State) (r : Ipr) (v : Word) : IprWritten s (State.writeIpr s r v) := by
  cases r with
  | ipir => exact iprWritten_sendIpi s _
  | tbia | tbiap | tbis | tbisi | tbisd | tbiar => exact iprWritten_broadcastTbi s _
  | palBase =>
    simp only [State.writeIpr]
    split <;> exact ⟨rfl, rfl, rfl, rfl, rfl⟩
  | _ => exact ⟨rfl, rfl, rfl, rfl, rfl⟩

/-- HW_MTPR drains, writes and advances the pc. -/
theorem iprWritten_mtpr (s : State) (r : Ipr) (v : Word) :
    IprWritten (State.drainAll s) (State.advance (State.writeIpr (State.drainAll s) r v)) := by
  have h := iprWritten_writeIpr (State.drainAll s) r v
  exact ⟨h.regs, h.fregs, h.fpcr, h.intrFlag, congrArg State.advance h.shared⟩

/-- The memory system leaves intr_flag alone. -/
theorem Kept.intrFlag {s t : State} (h : Kept s t) : t.cpu.intrFlag = s.cpu.intrFlag :=
  congrArg (fun c => c.intrFlag) h.cpu

/-! The memory, the ROM, the regions and the parameters (10_state.md R74, R75). -/

/-- The memory stays canonical, and the ROM, the MMIO regions and the parameters are the same. -/
structure FormKept (s t : State) : Prop where
  mem : State.memOk s = true → State.memOk t = true
  rom : t.rom = s.rom
  regions : t.regions = s.regions
  cfg : t.cfg = s.cfg

namespace FormKept

variable {s t u : State}

theorem refl (s : State) : FormKept s s := ⟨id, rfl, rfl, rfl⟩

theorem trans (a : FormKept s t) (b : FormKept t u) : FormKept s u :=
  ⟨b.mem ∘ a.mem, b.rom.trans a.rom, b.regions.trans a.regions, b.cfg.trans a.cfg⟩

theorem of_kept (h : Kept s t) : FormKept s t := ⟨h.mem, h.rom, h.regions, h.cfg⟩

theorem of_entered (h : Entered s t) : FormKept s t := ⟨h.mem, h.rom, h.regions, h.cfg⟩

/-- Memory, ROM, regions and parameters did not change at all. -/
theorem of_eq (hm : t.mem = s.mem) (hr : t.rom = s.rom) (hd : t.regions = s.regions) (hc : t.cfg = s.cfg) : FormKept s t :=
  ⟨fun h => by rwa [State.memOk, hm], hr, hd, hc⟩

theorem of_iprWritten (h : IprWritten s t) : FormKept s t :=
  of_eq (by rw [h.shared]) (by rw [h.shared]) (by rw [h.shared]) (by rw [h.shared])

theorem of_prepared (h : Prepared s u) : FormKept s u := by
  obtain ⟨-, _, _, _, _, rfl⟩ := h
  exact of_eq rfl rfl rfl rfl

theorem tick (s : State) : FormKept s (State.tick s) := of_eq rfl rfl rfl rfl

theorem focus (s : State) (n : BitVec 16) : FormKept s (State.focus s n) := by
  unfold State.focus
  split
  · exact refl s
  · split
    · exact refl s
    · exact of_eq rfl rfl rfl rfl

theorem of_did {i : Instr} (h : Did i s t) : FormKept s t := by
  cases h with
  | exc hq e => exact (of_kept hq.kept).trans (of_entered (entered_take _ e))
  | arith => exact of_entered (entered_deliverArith s)
  | call => exact of_entered (entered_enterPal s _ _)
  | plain hk => exact (of_kept hk).trans (of_eq rfl rfl rfl rfl)
  | intReg hk => exact (of_kept hk).trans (of_eq rfl rfl rfl rfl)
  | fpReg hk => exact (of_kept hk).trans (of_eq rfl rfl rfl rfl)
  | mtpr _ _ _ _ r => exact (of_kept (kept_drainAll s)).trans (of_iprWritten (iprWritten_mtpr s r _))
  | overflow | fpOp | fpTrap | branch | link | jump | mtFpcr | flag | rei => exact of_eq rfl rfl rfl rfl

theorem of_bound (h : Bound s t) : FormKept s t := by
  cases h with
  | halted | halt | sleep => exact of_eq rfl rfl rfl rfl
  | arith hu => exact (of_prepared hu).trans ((of_entered (entered_deliverArith _)).trans (tick _))
  | interrupt hu q => exact (of_prepared hu).trans ((of_entered (entered_takeInterrupt _ q)).trans (tick _))
  | exc hu hw e =>
    exact (of_prepared hu).trans ((of_kept hw.kept).trans ((of_entered (entered_take _ e)).trans (tick _)))
  | run hu hw i hv => exact (of_prepared hu).trans ((of_kept hw.kept).trans ((of_did (exec_did hv)).trans (tick _)))

theorem of_acted (h : Acted s t) : FormKept s t := by
  cases h with
  | boundary hb => exact of_bound hb
  | drain k pa bs =>
    exact trans (t := { s with cpu := { s.cpu with sb := SbEntry.dropMarkers (s.cpu.sb.eraseIdx k) } })
      (of_eq rfl rfl rfl rfl) (of_kept (kept_completeStore _ pa bs))
  | consume => exact of_eq rfl rfl rfl rfl

theorem of_step (h : step s = .next t) : FormKept s t := by
  obtain ⟨s', hs, ha⟩ := step_cases h
  have hchosen : FormKept s s' := by
    obtain rfl | ⟨n, rfl⟩ := hs
    · exact refl s'
    · exact (of_eq rfl rfl rfl rfl : FormKept s (State.bump s)).trans (focus _ n)
  exact hchosen.trans (of_acted ha)

end FormKept

/-- Settles O6: what a step can do, by `step_cases`, changes memory by completed stores only, and the rest not at all. -/
theorem stepKeepsMemoryForm : Obligations.StepKeepsMemoryForm := by
  intro s t h
  obtain ⟨hmem, hrom, hregions, hcfg⟩ := FormKept.of_step h
  exact ⟨hmem, hrom, hregions, hcfg⟩

/-! The FPCR (10_state.md R62). -/

/-- Raising conditions sets sticky bits and no other. -/
theorem getLsbD_fpcrRaise (f : Word) (c : Conds) (k : Nat) :
    (Fpcr.raise f c).getLsbD k = (f.getLsbD k || (decide (52 ≤ k) && c.getLsbD (k - 52))) := by
  have hhigh : c.getLsbD (k - 52) = true → k < 64 := fun h => by
    have := BitVec.lt_of_getLsbD h
    omega
  simp only [Fpcr.raise, BitVec.getLsbD_or, BitVec.getLsbD_shiftLeft, BitVec.getLsbD_setWidth]
  by_cases hk : 52 ≤ k
  · cases hc : c.getLsbD (k - 52) with
    | false => simp
    | true =>
      have := hhigh hc
      simp [hk, this, show k - 52 < 64 by omega]
  · simp [hk, show k < 52 by omega]

/-- Every instruction but MT_FPCR leaves the FPCR or raises conditions in it. -/
theorem fpcr_of_did {i : Instr} {s t : State} (hi : ∀ fa fb fc, i ≠ .mtFpcr fa fb fc) (h : Did i s t) :
    t.cpu.fpcr = s.cpu.fpcr ∨ ∃ c, t.cpu.fpcr = Fpcr.raise s.cpu.fpcr c := by
  cases h with
  | exc hq e => exact .inl ((entered_take _ e).fpcr.trans hq.kept.fpcr)
  | arith => exact .inl (entered_deliverArith s).fpcr
  | call => exact .inl (entered_enterPal s _ _).fpcr
  | plain hk | intReg hk | fpReg hk => exact .inl hk.fpcr
  | fpOp _ c | fpTrap _ c => exact .inr ⟨c, rfl⟩
  | mtFpcr fa fb fc he => exact absurd he (hi fa fb fc)
  | mtpr _ _ _ _ r => exact .inl ((iprWritten_mtpr s r _).fpcr.trans (kept_drainAll s).fpcr)
  | overflow | branch | link | jump | flag | rei => exact .inl rfl

/-- Settles O14: an instruction that changes the FPCR and is not MT_FPCR raises conditions, which are six sticky bits. -/
theorem stickyBitsOnlyClearedByMtFpcr : Obligations.StickyBitsOnlyClearedByMtFpcr := by
  intro i s t hi h
  obtain hsame | ⟨c, hraise⟩ := fpcr_of_did hi (exec_did h)
  · rw [hsame]
    exact ⟨fun _ _ _ => id, fun _ _ => rfl⟩
  · rw [hraise]
    refine ⟨fun k _ _ hk => by rw [getLsbD_fpcrRaise, hk, Bool.true_or], fun k hk => ?_⟩
    have hout : (decide (52 ≤ k) && c.getLsbD (k - 52)) = false := by
      obtain hlow | hhigh := hk
      · simp [show ¬ 52 ≤ k by omega]
      · simp [BitVec.getLsbD_of_ge c (k - 52) (by omega)]
    rw [getLsbD_fpcrRaise, hout, Bool.or_false]

/-! The register files (10_state.md R50, R51, R54, R66). -/

/-- No integer register changed but the one named. -/
def frameX (d : Option Reg) (s t : State) : Prop := ∀ r, d ≠ some r → State.x t r = State.x s r

/-- No floating register changed but the one named. -/
def frameF (d : Option Reg) (s t : State) : Prop := ∀ r, d ≠ some r → State.f t r = State.f s r

theorem frameX_of_regs {d : Option Reg} {s t : State} (h : t.cpu.regs = s.cpu.regs) : frameX d s t :=
  fun r _ => by rw [State.x, h, State.x]

theorem frameF_of_fregs {d : Option Reg} {s t : State} (h : t.cpu.fregs = s.cpu.fregs) : frameF d s t :=
  fun r _ => by rw [State.f, h, State.f]

/-- A write to the destination. -/
theorem frameX_of_write {s u t : State} {d : Reg} {v : Word} (hu : u.cpu.regs = s.cpu.regs)
    (ht : t.cpu.regs = (State.setX u d v).cpu.regs) : frameX (some d) s t := fun r hr => by
  have hne : r ≠ d := fun e => hr (congrArg some e.symm)
  calc State.x t r = State.x (State.setX u d v) r := frameX_of_regs (d := none) ht r (by simp)
    _ = State.x u r := by rw [x_setX, if_neg hne]
    _ = State.x s r := frameX_of_regs (d := none) hu r (by simp)

theorem frameF_of_write {s u t : State} {d : Reg} {v : Word} (hu : u.cpu.fregs = s.cpu.fregs)
    (ht : t.cpu.fregs = (State.setF u d v).cpu.fregs) : frameF (some d) s t := fun r hr => by
  have hne : r ≠ d := fun e => hr (congrArg some e.symm)
  calc State.f t r = State.f (State.setF u d v) r := frameF_of_fregs (d := none) ht r (by simp)
    _ = State.f u r := by rw [f_setF, if_neg hne]
    _ = State.f s r := frameF_of_fregs (d := none) hu r (by simp)

/-- The integer registers of a state an instruction leaves. -/
theorem frameX_of_did {i : Instr} {s t : State} (h : Did i s t) : frameX i.intDest s t := by
  cases h with
  | exc hq e => exact frameX_of_regs ((entered_take _ e).regs.trans hq.kept.regs)
  | arith => exact frameX_of_regs (entered_deliverArith s).regs
  | call => exact frameX_of_regs (entered_enterPal s _ _).regs
  | plain hk | fpReg hk => exact frameX_of_regs hk.regs
  | intReg hk hd v => exact hd ▸ frameX_of_write hk.regs rfl
  | overflow hd | link hd | jump hd => exact hd ▸ frameX_of_write rfl rfl
  | flag ra rb b hi v =>
    have hd : i.intDest = some ra := by rw [hi]; cases b <;> rfl
    exact hd ▸ frameX_of_write (u := { s with cpu := { s.cpu with intrFlag := b } }) rfl rfl
  | mtpr _ _ _ _ r => exact frameX_of_regs ((iprWritten_mtpr s r _).regs.trans (kept_drainAll s).regs)
  | fpOp | fpTrap | branch | mtFpcr | rei => exact frameX_of_regs rfl

/-- The floating registers of a state an instruction leaves. -/
theorem frameF_of_did {i : Instr} {s t : State} (h : Did i s t) : frameF i.fpDest s t := by
  cases h with
  | exc hq e => exact frameF_of_fregs ((entered_take _ e).fregs.trans hq.kept.fregs)
  | arith => exact frameF_of_fregs (entered_deliverArith s).fregs
  | call => exact frameF_of_fregs (entered_enterPal s _ _).fregs
  | plain hk | intReg hk => exact frameF_of_fregs hk.fregs
  | fpReg hk hd v => exact hd ▸ frameF_of_write hk.fregs rfl
  | fpOp hd c | fpTrap hd c => exact hd ▸ frameF_of_write (u := State.bump (State.raiseConds s c)) rfl rfl
  | mtpr _ _ _ _ r => exact frameF_of_fregs ((iprWritten_mtpr s r _).fregs.trans (kept_drainAll s).fregs)
  | overflow | branch | link | jump | mtFpcr | flag | rei => exact frameF_of_fregs rfl

/-- Only RC and RS change intr_flag. -/
theorem intrFlag_of_did {i : Instr} {s t : State} (hi : ∀ ra rb, i ≠ .rc ra rb ∧ i ≠ .rs ra rb) (h : Did i s t) :
    t.cpu.intrFlag = s.cpu.intrFlag := by
  cases h with
  | exc hq e => exact (entered_take _ e).intrFlag.trans hq.kept.intrFlag
  | arith => exact (entered_deliverArith s).intrFlag
  | call => exact (entered_enterPal s _ _).intrFlag
  | plain hk | intReg hk | fpReg hk => exact hk.intrFlag
  | flag ra rb b he =>
    obtain ⟨hrc, hrs⟩ := hi ra rb
    cases b with
    | false => exact absurd he hrc
    | true => exact absurd he hrs
  | mtpr _ _ _ _ r => exact (iprWritten_mtpr s r _).intrFlag.trans (kept_drainAll s).intrFlag
  | overflow | fpOp | fpTrap | branch | link | jump | mtFpcr | rei => rfl

/-- Settles O15, by the cases of `Did` for each register file and for intr_flag. -/
theorem onlyDestinationsChange : Obligations.OnlyDestinationsChange := by
  intro i s t h
  have hd := exec_did h
  exact ⟨frameX_of_did hd, frameF_of_did hd, fun hi => intrFlag_of_did hi hd, x_r31 t, f_r31 t⟩

/-! Control state outside PAL mode (10_state.md R67, 44_misc_pal.md R724, R761). -/

/-- The registers of a CPU that only PAL mode changes. -/
def Cpu.control (c : Cpu) : Word × Bool × Word × Word × Word × Word × Word × Word × Bool × List Irq × Word × BitVec 16 :=
  (c.palBase, c.palBaseLocked, c.ptbr, c.pcbb, c.itbAsn, c.dtbAsn, c.unique, c.mmuCtl, c.sleeping, c.irq, c.intid, c.whami)

theorem Cpu.control_eq_of_core {c d : Cpu} (h : Cpu.core c = Cpu.core d) : c.control = d.control :=
  (congrArg Cpu.control h :)

/-- What may happen to control state outside PAL mode: PALM is set, and a machine check while one is handled halts. -/
structure Unprivileged (s t : State) : Prop where
  control : t.cpu.control = s.cpu.control
  ps : t.cpu.ps = s.cpu.ps ∨ t.cpu.ps = s.cpu.ps ||| psPalm
  halted : t.cpu.halted = s.cpu.halted ∨ s.cpu.mces.getLsbD 0 = true
  peers : t.peers.map Cpu.core = s.peers.map Cpu.core
  cfg : t.cfg = s.cfg
  regions : t.regions = s.regions

namespace Unprivileged

variable {s t u : State}

theorem of_eq (hc : t.cpu.control = s.cpu.control) (hps : t.cpu.ps = s.cpu.ps) (hh : t.cpu.halted = s.cpu.halted)
    (hp : t.peers = s.peers) (hcfg : t.cfg = s.cfg) (hd : t.regions = s.regions) : Unprivileged s t :=
  ⟨hc, .inl hps, .inl hh, congrArg _ hp, hcfg, hd⟩

/-- After changes of the memory system. -/
theorem of_kept (hk : Kept s u) (h : Unprivileged u t) : Unprivileged s t where
  control := h.control.trans (Cpu.control_eq_of_core hk.cpu)
  ps := by rw [← hk.ps]; exact h.ps
  halted := by rw [← hk.halted, ← hk.mces]; exact h.halted
  peers := h.peers.trans hk.peers
  cfg := h.cfg.trans hk.cfg
  regions := h.regions.trans hk.regions

/-- A PAL entry after a change of registers that are no control state. -/
theorem enterPal (hu : u = { s with cpu := u.cpu }) (hc : u.cpu.control = s.cpu.control) (hps : u.cpu.ps = s.cpu.ps)
    (hh : u.cpu.halted = s.cpu.halted) (a b : Word) : Unprivileged s (State.enterPal u a b) where
  control := (Cpu.control_eq_of_core (core_enterPal u a b)).trans hc
  ps := .inr (hps ▸ congrArg (fun c => c.ps) (core_enterPal u a b))
  halted := .inl ((congrArg (fun c => c.halted) (core_enterPal u a b)).trans hh)
  peers := (peers_enterPal u a b).trans (by rw [hu])
  cfg := (entered_enterPal u a b).cfg.trans (by rw [hu])
  regions := (entered_enterPal u a b).regions.trans (by rw [hu])

theorem enterExc (hu : u = { s with cpu := u.cpu }) (hc : u.cpu.control = s.cpu.control) (hps : u.cpu.ps = s.cpu.ps)
    (hh : u.cpu.halted = s.cpu.halted) (c : ExcClass) : Unprivileged s (State.enterExc u c) := enterPal hu hc hps hh _ _

theorem deliverArith (s : State) : Unprivileged s (State.deliverArith s) := by
  unfold State.deliverArith
  apply enterExc <;> rfl

theorem of_took (h : Took s t) : Unprivileged s t := by
  cases h with
  | arith => exact deliverArith s
  | halt h => exact ⟨rfl, .inl rfl, .inr h, rfl, rfl, rfl⟩
  | mchk | fault | enter => apply enterExc <;> rfl

/-- Every instruction outside PAL mode: HW_MTPR and HW_REI run in PAL mode only (44_misc_pal.md R761). -/
theorem of_did {i : Instr} (hpal : State.inPal s = false) (h : Did i s t) : Unprivileged s t := by
  cases h with
  | exc hq e => exact of_kept hq.kept (of_took (take_took _ e))
  | arith => exact deliverArith s
  | call => exact enterPal rfl rfl rfl rfl _ _
  | plain hk | intReg hk | fpReg hk => exact of_kept hk (of_eq rfl rfl rfl rfl rfl rfl)
  | mtpr _ _ _ hp | rei _ hp => exact absurd (hp.symm.trans hpal) (by decide)
  | overflow | fpOp | fpTrap | branch | link | jump | mtFpcr | flag => exact of_eq rfl rfl rfl rfl rfl rfl

end Unprivileged

/-- Settles O13, by the cases of `Did`. -/
theorem controlStateNeedsPalMode : Obligations.ControlStateNeedsPalMode := by
  intro i s t hpal h
  obtain ⟨hcontrol, hps, hhalted, hpeers, hcfg, hregions⟩ := Unprivileged.of_did hpal (exec_did h)
  simp only [Cpu.control, Prod.mk.injEq] at hcontrol
  obtain ⟨hbase, hlocked, hptbr, hpcbb, hitb, hdtb, hunique, hmmu, hsleep, hirq, hintid, hwhami⟩ := hcontrol
  exact ⟨hbase, hlocked, hptbr, hpcbb, hitb, hdtb, hunique, hmmu, hsleep, hirq, hintid, hwhami, hps, hhalted, hpeers, hcfg,
    hregions⟩

end Sys2Proof.Machine

/-! PROOFS. Every step keeps the reserved bits zero (10_state.md R57, R60, R67 to R69) and the interrupt requests a set
(60_exceptions.md R835). -/

namespace Sys2Proof.Machine

/-! Values that fit a mask. -/

theorem maskedBy_iff {m v : Word} : maskedBy m v = true ↔ ∀ k, v.getLsbD k = true → m.getLsbD k = true := by
  rw [maskedBy, beq_iff_eq]
  constructor
  · intro h k hk
    have hbit := congrArg (fun w => w.getLsbD k) h
    have hlt := BitVec.lt_of_getLsbD hk
    simpa [hk, hlt] using hbit
  · intro h
    refine BitVec.eq_of_getLsbD_eq fun k hk => ?_
    cases hv : v.getLsbD k with
    | false => simp [hv]
    | true => simp [hv, h k hv]

theorem maskedBy_and (m v : Word) : maskedBy m (v &&& m) = true :=
  maskedBy_iff.2 fun k hk => by simp_all

theorem maskedBy_zero (m : Word) : maskedBy m 0 = true := maskedBy_iff.2 fun k hk => by simp at hk

theorem maskedBy_or {m v w : Word} (hv : maskedBy m v = true) (hw : maskedBy m w = true) : maskedBy m (v ||| w) = true := by
  rw [maskedBy_iff] at *
  intro k hk
  rw [BitVec.getLsbD_or, Bool.or_eq_true] at hk
  exact hk.elim (hv k) (hw k)

/-- A field of `n` bits put at bit `k` fits a mask that has all bits of the field. -/
theorem maskedBy_field {n : Nat} (x : BitVec n) (k : Nat) {m : Word}
    (h : maskedBy m ((BitVec.allOnes n).setWidth 64 <<< k) = true) : maskedBy m (x.setWidth 64 <<< k) = true := by
  rw [maskedBy_iff] at *
  intro j hj
  refine h j ?_
  simp only [BitVec.getLsbD_shiftLeft, BitVec.getLsbD_setWidth, BitVec.getLsbD_allOnes, Bool.and_eq_true,
    decide_eq_true_eq] at hj ⊢
  obtain ⟨hplace, hwidth, hbit⟩ := hj
  exact ⟨hplace, hwidth, BitVec.lt_of_getLsbD hbit⟩

/-- A field at bit 0. -/
theorem maskedBy_setWidth {n : Nat} (x : BitVec n) {m : Word} (h : maskedBy m ((BitVec.allOnes n).setWidth 64) = true) :
    maskedBy m (x.setWidth 64) = true := by
  simpa using maskedBy_field x 0 (by simpa using h)

theorem maskedBy_mmStatOf (a : Access) (c : MmCause) : maskedBy mmStatMask (mmStatOf a c) = true := by
  have hwrite : maskedBy mmStatMask (ofBool (decide (a.kind = .write))) = true := maskedBy_setWidth _ (by decide)
  have hcause : maskedBy mmStatMask c.bit = true := by cases c <;> decide
  have hfetch : maskedBy mmStatMask (ofBool (decide (a.kind = .fetch)) <<< 7) = true := maskedBy_field _ 7 (by decide)
  have hra : maskedBy mmStatMask (a.ra.setWidth 64 <<< 8) = true := maskedBy_field _ 8 (by decide)
  have hop : maskedBy mmStatMask (a.opcode.setWidth 64 <<< 13) = true := maskedBy_field _ 13 (by decide)
  exact maskedBy_or (maskedBy_or (maskedBy_or (maskedBy_or hwrite hcause) hfetch) hra) hop

theorem maskedBy_fpcrRaise {f : Word} (c : Conds) (h : maskedBy fpcrMask f = true) :
    maskedBy fpcrMask (Fpcr.raise f c) = true :=
  maskedBy_or h (maskedBy_field c 52 (by decide))

theorem maskedBy_excSumOf (t : Trap) (c : Conds) : maskedBy 0x7F (excSumOf t c) = true :=
  maskedBy_or (maskedBy_field c 1 (by decide)) (maskedBy_setWidth _ (by decide))

/-! Sets of interrupt requests. -/

theorem irqSorted_iff {l : List Irq} : irqSorted l = true ↔ l.Pairwise fun a b => a.vector.toNat < b.vector.toNat := by
  induction l with
  | nil => simp [irqSorted]
  | cons q qs ih => simp [irqSorted, ih]

theorem irqSorted_erase {l : List Irq} (q : Irq) (h : irqSorted l = true) : irqSorted (l.erase q) = true :=
  irqSorted_iff.2 ((irqSorted_iff.1 h).sublist List.erase_sublist)

/-- A request that is in the set after another joined is that one or was there. -/
theorem mem_of_mem_insertIrq {q r : Irq} {l : List Irq} (h : r ∈ insertIrq q l) : r = q ∨ r ∈ l := by
  induction l with
  | nil => exact .inl (List.mem_singleton.1 h)
  | cons p ps ih =>
    rw [insertIrq] at h
    split at h
    · exact List.mem_cons.1 h
    · split at h
      · exact .inr h
      · obtain rfl | h := List.mem_cons.1 h
        · exact .inr List.mem_cons_self
        · exact (ih h).imp_right (List.mem_cons_of_mem p)

/-- The set stays a set (60_exceptions.md R835). -/
theorem irqSorted_insertIrq {l : List Irq} (q : Irq) (h : irqSorted l = true) : irqSorted (insertIrq q l) = true := by
  rw [irqSorted_iff] at *
  induction l with
  | nil => exact List.pairwise_singleton _ _
  | cons p ps ih =>
    obtain ⟨hp, hps⟩ := List.pairwise_cons.1 h
    rw [insertIrq]
    split
    next hlt =>
      refine List.pairwise_cons.2 ⟨fun r hr => ?_, h⟩
      obtain rfl | hr := List.mem_cons.1 hr
      · exact hlt
      · exact hlt.trans (hp r hr)
    next hge =>
      split
      next => exact h
      next hne =>
        have hlt : p.vector.toNat < q.vector.toNat := by
          have hne : q.vector.toNat ≠ p.vector.toNat := fun e => hne (BitVec.eq_of_toNat_eq e)
          omega
        refine List.pairwise_cons.2 ⟨fun r hr => ?_, ih hps⟩
        obtain rfl | hr := mem_of_mem_insertIrq hr
        · exact hlt
        · exact hp r hr

/-- A request whose vector is in the set changes nothing (60_exceptions.md R835). -/
theorem insertIrq_of_mem {q r : Irq} {l : List Irq} (h : irqSorted l = true) (hr : r ∈ l) (hv : r.vector = q.vector) :
    insertIrq q l = l := by
  rw [irqSorted_iff] at h
  induction l with
  | nil => exact absurd hr List.not_mem_nil
  | cons p ps ih =>
    obtain ⟨hp, hps⟩ := List.pairwise_cons.1 h
    rw [insertIrq]
    obtain rfl | hr := List.mem_cons.1 hr
    · rw [if_neg (by rw [hv]; exact lt_irrefl _), if_pos hv.symm]
    · have hlt : p.vector.toNat < q.vector.toNat := hv ▸ hp r hr
      have hne : q.vector ≠ p.vector := fun e => by rw [e] at hlt; exact lt_irrefl _ hlt
      rw [if_neg (by omega), if_neg hne, ih hps hr]

/-- A request whose vector is not in the set joins it, and no other does (60_exceptions.md R835). -/
theorem mem_insertIrq_iff {q r : Irq} {l : List Irq} (h : ∀ p ∈ l, p.vector ≠ q.vector) :
    r ∈ insertIrq q l ↔ r = q ∨ r ∈ l := by
  refine ⟨mem_of_mem_insertIrq, ?_⟩
  induction l with
  | nil => simp [insertIrq]
  | cons p ps ih =>
    obtain ⟨hp, hps⟩ := List.forall_mem_cons.1 h
    rw [insertIrq, if_neg (Ne.symm hp)]
    split
    next => exact List.mem_cons.2
    next =>
      rintro (rfl | hr)
      · exact List.mem_cons_of_mem p (ih hps (.inl rfl))
      · obtain rfl | hr := List.mem_cons.1 hr
        · exact List.mem_cons_self
        · exact List.mem_cons_of_mem p (ih hps (.inr hr))

/-! The invariant of a CPU and of the machine. -/

/-- The reserved bits of a CPU are zero and its requests are a set. -/
structure Cpu.InForm (c : Cpu) : Prop where
  ps : maskedBy psMask c.ps = true
  excPs : maskedBy psMask c.excPs = true
  fpcr : maskedBy fpcrMask c.fpcr = true
  palBase : maskedBy palBaseMask c.palBase = true
  ptbr : maskedBy ptbrMask c.ptbr = true
  itbAsn : maskedBy asnMask c.itbAsn = true
  dtbAsn : maskedBy asnMask c.dtbAsn = true
  mmuCtl : maskedBy 1 c.mmuCtl = true
  mces : maskedBy mcesMask c.mces = true
  intid : maskedBy 0xFFFF c.intid = true
  excSum : maskedBy 0x7F c.excSum = true
  pendSum : maskedBy 0x7F c.pend.sum = true
  mmStat : maskedBy mmStatMask c.mmStat = true
  irq : irqSorted c.irq = true

theorem Cpu.inForm_iff {c : Cpu} : c.InForm ↔ Cpu.reservedZero c = true ∧ irqSorted c.irq = true := by
  simp only [Cpu.reservedZero, Bool.and_eq_true, and_assoc]
  exact ⟨fun ⟨ps, excPs, fpcr, palBase, ptbr, itbAsn, dtbAsn, mmuCtl, mces, intid, excSum, pendSum, mmStat, irq⟩ =>
      ⟨ps, excPs, fpcr, palBase, ptbr, itbAsn, dtbAsn, mmuCtl, mces, intid, excSum, pendSum, mmStat, irq⟩,
    fun ⟨ps, excPs, fpcr, palBase, ptbr, itbAsn, dtbAsn, mmuCtl, mces, intid, excSum, pendSum, mmStat, irq⟩ =>
      ⟨ps, excPs, fpcr, palBase, ptbr, itbAsn, dtbAsn, mmuCtl, mces, intid, excSum, pendSum, mmStat, irq⟩⟩

/-- The invariant does not look at the memory system. -/
theorem Cpu.inForm_core {c : Cpu} : (Cpu.core c).InForm ↔ c.InForm := ⟨fun h => { h with }, fun h => { h with }⟩

theorem Cpu.InForm.of_core {c d : Cpu} (hc : c.InForm) (h : Cpu.core d = Cpu.core c) : d.InForm :=
  Cpu.inForm_core.1 (h ▸ Cpu.inForm_core.2 hc)

theorem Cpu.InForm.tbi {c : Cpu} (h : c.InForm) (cmd : TbiCmd) : (Cpu.tbi c cmd).InForm := by
  obtain ⟨b, d, hc⟩ := tbi_eq c cmd
  rw [hc]
  exact { h with }

theorem Cpu.InForm.addIrq {c : Cpu} (h : c.InForm) (q : Irq) : (Cpu.addIrq q c).InForm :=
  { h with irq := irqSorted_insertIrq q h.irq }

/-- The invariant of every CPU. -/
structure State.InForm (s : State) : Prop where
  cpu : s.cpu.InForm
  peers : ∀ c ∈ s.peers, c.InForm

theorem State.inForm_iff {s : State} : s.InForm ↔ State.reservedZero s = true ∧ State.irqOk s = true := by
  simp only [State.reservedZero, State.irqOk, State.cpus, List.all_cons, Bool.and_eq_true, List.all_eq_true]
  constructor
  · rintro ⟨hcpu, hpeers⟩
    obtain ⟨hzero, hirq⟩ := Cpu.inForm_iff.1 hcpu
    exact ⟨⟨hzero, fun c hc => (Cpu.inForm_iff.1 (hpeers c hc)).1⟩, hirq, fun c hc => (Cpu.inForm_iff.1 (hpeers c hc)).2⟩
  · rintro ⟨⟨hzero, hzeros⟩, hirq, hirqs⟩
    exact ⟨Cpu.inForm_iff.2 ⟨hzero, hirq⟩, fun c hc => Cpu.inForm_iff.2 ⟨hzeros c hc, hirqs c hc⟩⟩

namespace State.InForm

variable {s t u : State}

/-- A CPU in form takes the place of the current one, the memory systems apart. -/
theorem of_core {c : Cpu} (h : s.InForm) (hform : c.InForm) (hc : Cpu.core t.cpu = Cpu.core c)
    (hp : t.peers.map Cpu.core = s.peers.map Cpu.core) : t.InForm where
  cpu := hform.of_core hc
  peers d hd := by
    have hmem : Cpu.core d ∈ s.peers.map Cpu.core := hp ▸ List.mem_map_of_mem hd
    obtain ⟨e, he, hde⟩ := List.mem_map.1 hmem
    exact (h.peers e he).of_core hde.symm

theorem of_kept (h : s.InForm) (hk : Kept s t) : t.InForm := h.of_core h.cpu hk.cpu hk.peers

theorem mapCpus {f : Cpu → Cpu} (h : s.InForm) (hf : ∀ c : Cpu, c.InForm → (f c).InForm) : (State.mapCpus f s).InForm where
  cpu := hf _ h.cpu
  peers c hc := by
    obtain ⟨d, hd, rfl⟩ := List.mem_map.1 hc
    exact hf d (h.peers d hd)

/-! Exceptions and interrupts. -/

theorem enterPal (h : s.InForm) (a b : Word) : (State.enterPal s a b).InForm := by
  refine h.of_core ?_ (core_enterPal s a b) (peers_enterPal s a b)
  exact { h.cpu with ps := maskedBy_or h.cpu.ps (by decide), excPs := h.cpu.ps }

theorem enterExc (h : s.InForm) (c : ExcClass) : (State.enterExc s c).InForm := h.enterPal _ _

theorem deliverArith (h : s.InForm) : (State.deliverArith s).InForm := by
  unfold State.deliverArith
  refine enterExc ?_ .arith
  exact ⟨{ h.cpu with excSum := h.cpu.pendSum, pendSum := maskedBy_zero _ }, h.peers⟩

theorem takeInterrupt (h : s.InForm) (q : Irq) : (State.takeInterrupt s q).InForm := by
  unfold State.takeInterrupt
  refine enterExc ?_ .interrupt
  exact ⟨{ h.cpu with intid := maskedBy_setWidth q.vector (by decide), irq := irqSorted_erase q h.cpu.irq }, h.peers⟩

theorem of_took (h : s.InForm) (ht : Took s t) : t.InForm := by
  cases ht with
  | arith => exact h.deliverArith
  | halt => exact ⟨{ h.cpu with }, h.peers⟩
  | mchk cause =>
    have hmces : maskedBy mcesMask ((cause.setWidth 64 <<< 8) ||| 1) = true :=
      maskedBy_or (maskedBy_field cause 8 (by decide)) (by decide)
    refine enterExc ?_ _
    exact ⟨{ h.cpu with mces := hmces }, h.peers⟩
  | fault a cause =>
    refine enterExc ?_ _
    exact ⟨{ h.cpu with mmStat := maskedBy_mmStatOf a cause }, h.peers⟩
  | enter c => exact h.enterExc c

/-! Processor registers. -/

theorem broadcastTbi (h : s.InForm) (cmd : TbiCmd) : (State.broadcastTbi s cmd).InForm where
  cpu := h.cpu.tbi cmd
  peers c hc := by
    obtain ⟨d, hd, rfl⟩ := List.mem_map.1 hc
    exact { h.peers d hd with }

theorem sendIpi (h : s.InForm) (n : BitVec 16) : (State.sendIpi s n).InForm :=
  h.mapCpus fun c hc => by
    split
    · exact hc.addIrq _
    · exact hc

theorem writeIpr (h : s.InForm) (r : Ipr) (v : Word) : (State.writeIpr s r v).InForm := by
  cases r with
  | ps => exact ⟨{ h.cpu with ps := maskedBy_and _ v }, h.peers⟩
  | excPs => exact ⟨{ h.cpu with excPs := maskedBy_and _ v }, h.peers⟩
  | ptbr => exact ⟨{ h.cpu with ptbr := maskedBy_and _ v }, h.peers⟩
  | itbAsn => exact ⟨{ h.cpu with itbAsn := maskedBy_and _ v }, h.peers⟩
  | dtbAsn => exact ⟨{ h.cpu with dtbAsn := maskedBy_and _ v }, h.peers⟩
  | mmuCtl => exact ⟨{ h.cpu with mmuCtl := maskedBy_and _ v }, h.peers⟩
  | mces => exact ⟨{ h.cpu with mces := maskedBy_and _ v }, h.peers⟩
  | palBase =>
    simp only [State.writeIpr]
    split
    next => exact h
    next => exact ⟨{ h.cpu with palBase := maskedBy_and _ v }, h.peers⟩
  | ipir => exact h.sendIpi _
  | tbia | tbiap | tbis | tbisi | tbisd | tbiar => exact h.broadcastTbi _
  | mmStat | va | intid | excSum | excMask | whami | cc => exact h
  | excAddr | pcbb | unique | icFlush | sleep | halt => exact ⟨{ h.cpu with }, h.peers⟩

/-! Instructions and steps. -/

theorem of_did {i : Instr} (h : s.InForm) (hd : Did i s t) : t.InForm := by
  cases hd with
  | exc hq e => exact (h.of_kept hq.kept).of_took (take_took _ e)
  | arith => exact h.deliverArith
  | call => exact h.enterPal _ _
  | plain hk | intReg hk | fpReg hk => exact ⟨{ (h.of_kept hk).cpu with }, (h.of_kept hk).peers⟩
  | overflow => exact ⟨{ h.cpu with pendSum := maskedBy_or h.cpu.pendSum (maskedBy_excSumOf _ _) }, h.peers⟩
  | fpOp _ c => exact ⟨{ h.cpu with fpcr := maskedBy_fpcrRaise c h.cpu.fpcr }, h.peers⟩
  | fpTrap _ c =>
    exact ⟨{ h.cpu with
      fpcr := maskedBy_fpcrRaise c h.cpu.fpcr
      pendSum := maskedBy_or h.cpu.pendSum (maskedBy_excSumOf _ _) }, h.peers⟩
  | mtFpcr _ _ _ _ v => exact ⟨{ h.cpu with fpcr := maskedBy_and _ v }, h.peers⟩
  | mtpr _ _ _ _ r =>
    have hw := (h.of_kept (kept_drainAll s)).writeIpr r
    exact ⟨{ (hw _).cpu with }, (hw _).peers⟩
  | rei => exact ⟨{ h.cpu with ps := h.cpu.excPs }, h.peers⟩
  | branch | link | jump | flag => exact ⟨{ h.cpu with }, h.peers⟩

theorem tick (h : s.InForm) : (State.tick s).InForm := ⟨{ h.cpu with }, h.peers⟩

theorem of_prepared (h : s.InForm) (hu : Prepared s u) : u.InForm := by
  obtain ⟨-, _, _, _, _, rfl⟩ := hu
  exact ⟨{ h.cpu with }, h.peers⟩

theorem of_bound (h : s.InForm) (hb : Bound s t) : t.InForm := by
  cases hb with
  | halted => exact ⟨{ h.cpu with }, h.peers⟩
  | halt => exact tick ⟨{ h.cpu with }, h.peers⟩
  | sleep => exact h.tick
  | arith hu => exact (h.of_prepared hu).deliverArith.tick
  | interrupt hu q => exact ((h.of_prepared hu).takeInterrupt q).tick
  | exc hu hw e => exact (((h.of_prepared hu).of_kept hw.kept).of_took (take_took _ e)).tick
  | run hu hw i hv => exact (((h.of_prepared hu).of_kept hw.kept).of_did (exec_did hv)).tick

theorem of_acted (h : s.InForm) (ha : Acted s t) : t.InForm := by
  cases ha with
  | boundary hb => exact h.of_bound hb
  | drain k pa bs =>
    exact of_kept (s := { s with cpu := { s.cpu with sb := SbEntry.dropMarkers (s.cpu.sb.eraseIdx k) } })
      ⟨{ h.cpu with }, h.peers⟩ (kept_completeStore _ pa bs)
  | consume => exact ⟨{ h.cpu with }, h.peers⟩

end State.InForm

/-- A CPU put among others is one of them, and no other is new. -/
theorem mem_insertCpu {c d : Cpu} {l : List Cpu} (h : d ∈ insertCpu c l) : d = c ∨ d ∈ l := by
  induction l with
  | nil => exact .inl (List.mem_singleton.1 h)
  | cons e es ih =>
    rw [insertCpu] at h
    split at h
    · exact List.mem_cons.1 h
    · obtain rfl | h := List.mem_cons.1 h
      · exact .inr List.mem_cons_self
      · exact (ih h).imp_right (List.mem_cons_of_mem e)

/-- The scheduler moves CPUs and changes none. -/
theorem State.InForm.focus {s : State} (h : s.InForm) (n : BitVec 16) : (State.focus s n).InForm := by
  unfold State.focus
  split
  · exact h
  · split
    · exact h
    · rename_i c hfind
      refine ⟨h.peers c (List.mem_of_find?_eq_some hfind), fun d hd => ?_⟩
      obtain rfl | hd := mem_insertCpu hd
      · exact h.cpu
      · exact h.peers d (List.mem_filter.1 hd).1

theorem State.InForm.of_step {s t : State} (h : s.InForm) (hs : step s = .next t) : t.InForm := by
  obtain ⟨s', hchosen, ha⟩ := step_cases hs
  obtain rfl | ⟨n, rfl⟩ := hchosen
  · exact h.of_acted ha
  · exact (State.InForm.focus (s := State.bump s) ⟨h.cpu, h.peers⟩ n).of_acted ha

/-- Settles O7: `State.InForm` is the invariant, which every step keeps. -/
theorem stepKeepsReservedBitsAndIrqSets : Obligations.StepKeepsReservedBitsAndIrqSets := by
  intro s t hzero hirq h
  exact State.inForm_iff.1 ((State.inForm_iff.2 ⟨hzero, hirq⟩).of_step h)

end Sys2Proof.Machine

/-! PROOFS. HW_MFPR and HW_MTPR: every register of the index table, and the interrupt requests of the host and of other CPUs
(10_state.md R67, R68; 44_misc_pal.md R750 to R752; 60_exceptions.md R835 to R838). -/

namespace Sys2Proof.Machine

/-! The index table. -/

/-- An index outside the table (44_misc_pal.md R752). -/
def reservedIndex (index : BitVec 16) : Prop := 0x13 ≤ index.toNat ∧ index.toNat < 0x20 ∨ 0x28 < index.toNat

theorem ofIndex_of_reserved {index : BitVec 16} (h : reservedIndex index) : Ipr.ofIndex index = none := by
  unfold reservedIndex at h
  unfold Ipr.ofIndex
  split
  case h_29 => rfl
  all_goals omega

/-- The registers of the table that are read, in the order of their indices (10_state.md R67). -/
def Cpu.readable (c : Cpu) : List Word :=
  [c.ps, c.excAddr, c.excPs, c.palBase, c.mmStat, c.va, c.ptbr, c.pcbb, c.itbAsn, c.dtbAsn, c.unique, 0, c.intid, c.excSum,
    c.excMask, c.whami.setWidth 64, c.cc, c.mmuCtl, c.mces]

theorem ofIndex_of_readable {c : Cpu} {index : BitVec 16} {v : Word} (h : c.readable[index.toNat]? = some v) :
    ∃ r, Ipr.ofIndex index = some r ∧ Cpu.readIpr c r = v := by
  have hlt : index.toNat < 19 := (List.getElem?_eq_some_iff.1 h).1
  unfold Ipr.ofIndex
  generalize index.toNat = k at h hlt
  interval_cases k <;> exact ⟨_, rfl, Option.some.inj h⟩

theorem ofIndex_of_writeOnly {index : BitVec 16} (h : 0x20 ≤ index.toNat ∧ index.toNat ≤ 0x28) :
    ∃ r, Ipr.ofIndex index = some r ∧ ∀ c, Cpu.readIpr c r = 0 := by
  obtain ⟨hlow, hhigh⟩ := h
  unfold Ipr.ofIndex
  generalize index.toNat = k at hlow hhigh
  interval_cases k <;> exact ⟨_, rfl, fun _ => rfl⟩

/-! HW_MFPR. -/

/-- The end of an instruction writes its register. -/
theorem wroteX_finishX (s : State) (r : Reg) (v : Word) : wroteX s (State.finishX s r v) r v := by
  intro q
  rw [x_finishX]
  by_cases hq : q = r
  · subst hq
    by_cases h31 : q = 31
    · subst h31
      rw [if_pos rfl, if_pos rfl, if_neg (fun h => h.2 rfl), x_r31]
    · rw [if_pos rfl, if_neg h31, if_pos ⟨rfl, h31⟩]
  · rw [if_neg hq, if_neg (fun h => hq h.1)]

/-- An instruction that only writes an integer register and advances the pc. -/
theorem yieldsX_finishX (s : State) (r : Reg) (v : Word) : yieldsX (.next (State.finishX s r v)) s r v :=
  ⟨State.finishX s r v, rfl, wroteX_finishX s r v, rfl, rfl, sameBytes_of_eq rfl rfl⟩

variable {s : State} {ra : Reg} {index : BitVec 16}

theorem exec_hwMfpr_of_some {r : Ipr} (hp : State.inPal s = true) (hr : Ipr.ofIndex index = some r) :
    exec (.hwMfpr ra index) s = .next (State.finishX s ra (Cpu.readIpr s.cpu r)) := by
  refine (needPal_pos hp _).trans ?_
  rw [hr]

theorem exec_hwMfpr_of_none (hp : State.inPal s = true) (hr : Ipr.ofIndex index = none) :
    exec (.hwMfpr ra index) s = .next (State.take s .opcdec) := by
  refine (needPal_pos hp _).trans ?_
  rw [hr, raise]

/-- Settles O52: the table of `Ipr.ofIndex` and what `Cpu.readIpr` reads. -/
theorem readProcessorRegister : Obligations.ReadProcessorRegister := by
  intro s ra index hp
  refine ⟨fun v hv => ?_, fun hw => ?_, fun hr => exec_hwMfpr_of_none hp (ofIndex_of_reserved hr)⟩
  · obtain ⟨r, hr, rfl⟩ := ofIndex_of_readable (c := s.cpu) hv
    rw [exec_hwMfpr_of_some hp hr]
    exact yieldsX_finishX s ra _
  · obtain ⟨r, hr, hzero⟩ := ofIndex_of_writeOnly hw
    rw [exec_hwMfpr_of_some hp hr, hzero]
    exact yieldsX_finishX s ra 0

/-! HW_MTPR. -/

theorem exec_hwMtpr_of_some {r : Ipr} (hp : State.inPal s = true) (hr : Ipr.ofIndex index = some r) :
    exec (.hwMtpr ra index) s = .next (State.advance (State.writeIpr (State.drainAll s) r (State.x s ra))) := by
  refine (needPal_pos hp _).trans ?_
  rw [hr]

theorem exec_hwMtpr_of_none (hp : State.inPal s = true) (hr : Ipr.ofIndex index = none) :
    exec (.hwMtpr ra index) s = .next (State.take s .opcdec) := by
  refine (needPal_pos hp _).trans ?_
  rw [hr, raise]

/-- HW_MTPR of a register whose write changes this CPU alone. -/
theorem exec_hwMtpr_of_local {r : Ipr} {d : Cpu} (hp : State.inPal s = true) (hr : Ipr.ofIndex index = some r)
    (hw : State.writeIpr (State.drainAll s) r (State.x s ra) = { State.drainAll s with cpu := d })
    (hpc : d.pc = (State.drainAll s).cpu.pc) :
    exec (.hwMtpr ra index) s = .next { State.drainAll s with cpu := { d with pc := s.cpu.pc + 4 } } := by
  rw [exec_hwMtpr_of_some hp hr, hw, State.advance, State.setPc, hpc, (kept_drainAll s).pc]

theorem writeIpr_palBase_unlocked {z : State} (h : z.cpu.palBaseLocked = false) (v : Word) :
    State.writeIpr z .palBase v = { z with cpu := { z.cpu with palBase := v &&& ~~~0x7FFF, palBaseLocked := true } } := by
  have hmask : palBaseMask = ~~~0x7FFF := by decide
  simp [State.writeIpr, h, hmask]

theorem writeIpr_palBase_locked {z : State} (h : z.cpu.palBaseLocked = true) (v : Word) :
    State.writeIpr z .palBase v = z := by
  simp [State.writeIpr, h]

/-- The read-only registers. -/
theorem exec_hwMtpr_readOnly (hp : State.inPal s = true)
    (h : index ∈ ([0x04, 0x05, 0x0C, 0x0D, 0x0E, 0x0F, 0x10] : List (BitVec 16))) :
    exec (.hwMtpr ra index) s
      = .next { State.drainAll s with cpu := { (State.drainAll s).cpu with pc := s.cpu.pc + 4 } } := by
  simp only [List.mem_cons, List.not_mem_nil, or_false] at h
  obtain rfl | rfl | rfl | rfl | rfl | rfl | rfl := h <;> exact exec_hwMtpr_of_local hp rfl rfl rfl

/-- HW_MTPR to IPIR sends the interrupt of the drained state (60_exceptions.md R838). -/
theorem exec_hwMtpr_ipir (hp : State.inPal s = true) : exec (.hwMtpr ra 0x0B) s
    = .next (State.advance (State.sendIpi (State.drainAll s) ((State.x s ra).setWidth 16))) :=
  exec_hwMtpr_of_some (r := .ipir) hp rfl

/-- The state after an inter-processor interrupt has been sent. -/
theorem advance_sendIpi (z : State) (n : BitVec 16) : ∃ t, State.advance (State.sendIpi z n) = t
    ∧ t.cpu = { z.cpu with
        pc := z.cpu.pc + 4,
        irq := if z.cpu.whami = n then insertIrq ⟨z.cfg.ipiVector, z.cfg.ipiIpl⟩ z.cpu.irq else z.cpu.irq }
    ∧ t.peers = z.peers.map (fun e => if e.whami = n
      then { e with irq := insertIrq ⟨z.cfg.ipiVector, z.cfg.ipiIpl⟩ e.irq } else e)
    ∧ t = { z with cpu := t.cpu, peers := t.peers } := by
  refine ⟨_, rfl, ?_, rfl, rfl⟩
  by_cases h : z.cpu.whami = n
  · simp [State.advance, State.setPc, State.sendIpi, State.mapCpus, Cpu.addIrq, h]
  · simp [State.advance, State.setPc, State.sendIpi, State.mapCpus, h]

/-! Requests of the host. -/

theorem hasCpu_iff {u : State} {n : BitVec 16} : State.hasCpu u n = true ↔ ∃ e ∈ State.cpus u, e.whami = n := by
  simp [State.hasCpu, State.cpus]

/-- `inject_interrupt` of a number that a CPU has (70_reset_and_hazards.md R932). -/
theorem injectInterrupt_of_hasCpu {u : State} {n : BitVec 16} (vector : BitVec 16) (h : ∃ e ∈ State.cpus u, e.whami = n) :
    injectInterrupt n vector u = .next (State.mapCpus (fun e =>
      if e.whami = n then { e with irq := insertIrq ⟨vector, Params.vectorIpl u.cfg vector⟩ e.irq } else e) u) :=
  if_pos (hasCpu_iff.2 h)

theorem injectInterrupt_of_not_hasCpu {u : State} {n : BitVec 16} (vector : BitVec 16) (h : ∀ e ∈ State.cpus u, e.whami ≠ n) :
    injectInterrupt n vector u = .fault .noSuchCpu :=
  if_neg fun hc => by
    obtain ⟨e, he, hn⟩ := hasCpu_iff.1 hc
    exact h e he hn

/-- Settles O53: each index by what `State.writeIpr` does to the drained state; the requests by the lemmas of `insertIrq`. -/
theorem writeProcessorRegister : Obligations.WriteProcessorRegister := by
  intro s ra hp
  refine ⟨exec_hwMtpr_of_local hp rfl rfl rfl, exec_hwMtpr_of_local hp rfl rfl rfl, exec_hwMtpr_of_local hp rfl rfl rfl,
    fun h => exec_hwMtpr_of_local hp rfl (writeIpr_palBase_unlocked h _) rfl,
    fun h => exec_hwMtpr_of_local hp rfl (writeIpr_palBase_locked h _) rfl,
    exec_hwMtpr_of_local hp rfl rfl rfl, exec_hwMtpr_of_local hp rfl rfl rfl, exec_hwMtpr_of_local hp rfl rfl rfl,
    exec_hwMtpr_of_local hp rfl rfl rfl, exec_hwMtpr_of_local hp rfl rfl rfl, exec_hwMtpr_of_local hp rfl rfl rfl,
    exec_hwMtpr_of_local hp rfl rfl rfl, fun index h => exec_hwMtpr_readOnly hp h,
    exec_hwMtpr_of_local hp rfl rfl rfl, exec_hwMtpr_of_local hp rfl rfl rfl, exec_hwMtpr_of_local hp rfl rfl rfl, ?_,
    fun index h => exec_hwMtpr_of_none hp (ofIndex_of_reserved h),
    fun u n vector => ⟨injectInterrupt_of_hasCpu vector, injectInterrupt_of_not_hasCpu vector⟩,
    fun q irq h => ⟨irqSorted_insertIrq q h, fun ⟨r, hr, hv⟩ => insertIrq_of_mem h hr hv, fun hnew r => mem_insertIrq_iff hnew⟩⟩
  obtain ⟨t, rfl, hcpu, hpeers, hframe⟩ := advance_sendIpi (State.drainAll s) ((State.x s ra).setWidth 16)
  rw [(kept_drainAll s).cfg] at hcpu hpeers
  exact ⟨_, exec_hwMtpr_ipir hp, hcpu, hpeers, hframe⟩

end Sys2Proof.Machine

/-! PROOFS. The store buffer (20_memory.md R170 to R176): what a drain of one entry and of all of them does, what a completed store
does to memory and to the reservations, and the barriers. -/

namespace Sys2Proof.Machine

/-! The bytes of a store over those of memory. -/

/-- The byte at `a` under a store of `bs` from `pa` up. -/
def SbEntry.overlay (pa : Nat) (bs : List Byte) (a : Nat) (b : Byte) : Byte := if pa ≤ a then (bs[a - pa]?).getD b else b

theorem SbEntry.forward_store (pa : Nat) (bs : List Byte) (es : List SbEntry) (a : Nat) (b : Byte) :
    SbEntry.forward (.store pa bs :: es) a b = SbEntry.forward es a (SbEntry.overlay pa bs a b) := rfl

theorem SbEntry.overlay_of_out {pa a : Nat} {bs : List Byte} (h : a < pa ∨ pa + bs.length ≤ a) (b : Byte) :
    SbEntry.overlay pa bs a b = b := by
  unfold SbEntry.overlay
  split
  next hle =>
    have hnone : bs[a - pa]? = none := List.getElem?_eq_none (by omega)
    rw [hnone, Option.getD_none]
  next => rfl

theorem SbEntry.overlay_of_in {pa k : Nat} {bs : List Byte} (h : k < bs.length) (b : Byte) :
    SbEntry.overlay pa bs (pa + k) b = (bs[k]?).getD 0 := by
  simp [SbEntry.overlay, h]

/-- Two stores with no byte in common: either order gives the same bytes. -/
theorem SbEntry.overlay_comm {pa pb : Nat} {bs cs : List Byte} (h : pb + cs.length ≤ pa ∨ pa + bs.length ≤ pb) (a : Nat)
    (b : Byte) :
    SbEntry.overlay pa bs a (SbEntry.overlay pb cs a b) = SbEntry.overlay pb cs a (SbEntry.overlay pa bs a b) := by
  have hout : (a < pa ∨ pa + bs.length ≤ a) ∨ (a < pb ∨ pb + cs.length ≤ a) := by omega
  obtain hout | hout := hout <;> simp only [SbEntry.overlay_of_out hout]

theorem get_setBytes_eq_overlay {m : List Host.Cell} (h : Memory.wf m = true) (pa : Nat) (bs : List Byte) (a : Nat) :
    Memory.get (Memory.setBytes m pa bs) a = SbEntry.overlay pa bs a (Memory.get m a) := by
  rw [get_setBytes pa a bs h]
  split
  next hin =>
    obtain ⟨k, rfl⟩ := Nat.exists_eq_add_of_le hin.1
    rw [SbEntry.overlay_of_in (by omega), Nat.add_sub_cancel_left]
    rfl
  next hout => rw [SbEntry.overlay_of_out (by omega)]

/-! Which entry may drain, and what a load sees when it did. -/

/-- The conditions of 20_memory.md R172: no older marker, and no older store with a byte in common. -/
theorem SbEntry.canPass_iff {older : List SbEntry} {pa n : Nat} : SbEntry.canPass older pa n = true ↔
    ∀ e ∈ older, ∃ pb cs, e = .store pb cs ∧ (pb + cs.length ≤ pa ∨ pa + n ≤ pb) := by
  rw [SbEntry.canPass, List.all_eq_true]
  refine forall₂_congr fun e _ => ?_
  cases e with
  | wmb => simp
  | store pb cs =>
    simp only [rangesOverlap, Bool.not_eq_true', Bool.and_eq_false_iff, decide_eq_false_iff_not, SbEntry.store.injEq]
    constructor
    · exact fun h => ⟨pb, cs, ⟨rfl, rfl⟩, by omega⟩
    · rintro ⟨_, _, ⟨rfl, rfl⟩, h⟩
      omega

/-- A store that may pass the older entries reads the same before them and behind them. -/
theorem SbEntry.forward_pass {older es : List SbEntry} {pa : Nat} {bs : List Byte}
    (h : SbEntry.canPass older pa bs.length = true) (a : Nat) (b : Byte) :
    SbEntry.forward (older ++ .store pa bs :: es) a b = SbEntry.forward (older ++ es) a (SbEntry.overlay pa bs a b) := by
  rw [SbEntry.canPass_iff] at h
  induction older generalizing b with
  | nil => rfl
  | cons e older ih =>
    obtain ⟨he, hrest⟩ := List.forall_mem_cons.1 h
    obtain ⟨pb, cs, rfl, hapart⟩ := he
    rw [List.cons_append, List.cons_append, SbEntry.forward_store, SbEntry.forward_store, ih hrest,
      SbEntry.overlay_comm hapart]

theorem SbEntry.forward_dropMarkers (es : List SbEntry) (a : Nat) (b : Byte) :
    SbEntry.forward (SbEntry.dropMarkers es) a b = SbEntry.forward es a b := by
  induction es with
  | nil => rfl
  | cons e es ih =>
    cases e with
    | wmb => exact ih
    | store pa bs => rfl

theorem SbEntry.dropMarkers_eq_dropWhile (es : List SbEntry) :
    SbEntry.dropMarkers es = es.dropWhile fun e => e == .wmb := by
  induction es with
  | nil => rfl
  | cons e es ih =>
    cases e with
    | wmb => rw [List.dropWhile_cons_of_pos (by simp)]; exact ih
    | store pa bs => rw [List.dropWhile_cons_of_neg (by simp)]; rfl

theorem SbEntry.countP_dropMarkers (es : List SbEntry) :
    (SbEntry.dropMarkers es).countP (fun e => e != .wmb) = es.countP fun e => e != .wmb := by
  induction es with
  | nil => rfl
  | cons e es ih =>
    cases e with
    | wmb => rw [List.countP_cons_of_neg (by simp)]; exact ih
    | store pa bs => rfl

/-- An entry of a list among those before it and those behind it. -/
theorem SbEntry.split_at {sb : List SbEntry} {i : Nat} {e : SbEntry} (h : sb[i]? = some e) :
    sb = sb.take i ++ e :: sb.drop (i + 1) ∧ sb.eraseIdx i = sb.take i ++ sb.drop (i + 1) := by
  obtain ⟨hi, rfl⟩ := List.getElem?_eq_some_iff.1 h
  refine ⟨?_, List.eraseIdx_eq_take_drop_succ ..⟩
  rw [← List.drop_eq_getElem_cons hi, List.take_append_drop]

/-! The drain of one entry. -/

/-- The drain step, once: which entries are eligible, and what it leaves (20_memory.md R172). -/
theorem drainOne_eq_some_iff {s t : State} {i : Nat} : State.drainOne s i = some t ↔
    ∃ pa bs, s.cpu.sb[i]? = some (.store pa bs) ∧ SbEntry.canPass (s.cpu.sb.take i) pa bs.length = true ∧
      t = State.completeStore
        { s with cpu := { s.cpu with sb := SbEntry.dropMarkers (s.cpu.sb.eraseIdx i) } } pa bs := by
  constructor
  · intro h
    unfold State.drainOne at h
    split at h
    · rename_i pa bs hget
      split at h
      · rename_i hpass
        exact ⟨pa, bs, hget, hpass, (Option.some.inj h).symm⟩
      · cases h
    · cases h
  · rintro ⟨pa, bs, hget, hpass, rfl⟩
    simp only [State.drainOne, hget, hpass, if_true]

/-- An entry behind one that it may not pass is not eligible. -/
theorem drainOne_eq_none_of_blocked {s : State} {i j : Nat} {e : SbEntry} (hj : j < i) (he : s.cpu.sb[j]? = some e)
    (hblock : ∀ pa bs, s.cpu.sb[i]? = some (.store pa bs) →
      ¬ ∃ pb cs, e = .store pb cs ∧ (pb + cs.length ≤ pa ∨ pa + bs.length ≤ pb)) :
    State.drainOne s i = none := by
  rw [Option.eq_none_iff_forall_ne_some]
  intro t ht
  obtain ⟨pa, bs, hget, hpass, -⟩ := drainOne_eq_some_iff.1 ht
  have hmem : e ∈ s.cpu.sb.take i := List.mem_of_getElem? (i := j) (by rw [List.getElem?_take_of_lt hj, he])
  exact hblock pa bs hget (SbEntry.canPass_iff.1 hpass e hmem)

/-- A drained store changes no byte this CPU's loads read (20_memory.md R171, R172). -/
theorem sameBytes_drainOne {s t : State} {i : Nat} (hm : State.memOk s = true) (h : State.drainOne s i = some t) :
    sameBytes s t := by
  obtain ⟨pa, bs, hget, hpass, rfl⟩ := drainOne_eq_some_iff.1 h
  obtain ⟨hsplit, herase⟩ := SbEntry.split_at hget
  intro a
  calc State.loadByte (State.completeStore _ pa bs) a
      = SbEntry.forward (SbEntry.dropMarkers (s.cpu.sb.eraseIdx i)) a (SbEntry.overlay pa bs a (Memory.get s.mem a)) := by
        rw [State.loadByte, sb_completeStore, mem_completeStore, get_setBytes_eq_overlay hm]
    _ = SbEntry.forward (s.cpu.sb.take i ++ .store pa bs :: s.cpu.sb.drop (i + 1)) a (Memory.get s.mem a) := by
        rw [SbEntry.forward_dropMarkers, herase, SbEntry.forward_pass hpass]
    _ = State.loadByte s a := by rw [← hsplit, State.loadByte]

/-- A drain takes exactly one store out of the buffer. -/
theorem countP_drainOne {s t : State} {i : Nat} (h : State.drainOne s i = some t) :
    (t.cpu.sb.countP fun e => e != .wmb) + 1 = s.cpu.sb.countP fun e => e != .wmb := by
  obtain ⟨pa, bs, hget, -, rfl⟩ := drainOne_eq_some_iff.1 h
  obtain ⟨hsplit, herase⟩ := SbEntry.split_at hget
  conv_rhs => rw [hsplit]
  rw [sb_completeStore, SbEntry.countP_dropMarkers, herase, List.countP_append, List.countP_append,
    List.countP_cons_of_pos (by simp), Nat.add_assoc]

/-- The drain of an eligible entry. -/
theorem drainOne_of_eligible {s : State} {i pa : Nat} {bs : List Byte} (hm : State.memOk s = true)
    (hget : s.cpu.sb[i]? = some (.store pa bs))
    (hold : ∀ j < i, ∃ pb cs, s.cpu.sb[j]? = some (.store pb cs) ∧ (pb + cs.length ≤ pa ∨ pa + bs.length ≤ pb)) :
    ∃ t, State.drainOne s i = some t ∧ (∀ a, Memory.get t.mem a = SbEntry.overlay pa bs a (Memory.get s.mem a))
      ∧ t.cpu.sb = (s.cpu.sb.eraseIdx i).dropWhile fun e => e == .wmb := by
  have hpass : SbEntry.canPass (s.cpu.sb.take i) pa bs.length = true := by
    refine SbEntry.canPass_iff.2 fun e he => ?_
    obtain ⟨j, hj⟩ := List.mem_iff_getElem?.1 he
    have hji : j < i := by
      have := (List.getElem?_eq_some_iff.1 hj).1
      rw [List.length_take] at this
      omega
    obtain ⟨pb, cs, hb, hapart⟩ := hold j hji
    rw [List.getElem?_take_of_lt hji, hb] at hj
    exact ⟨pb, cs, (Option.some.inj hj).symm, hapart⟩
  refine ⟨_, drainOne_eq_some_iff.2 ⟨pa, bs, hget, hpass, rfl⟩, fun a => ?_, ?_⟩
  · rw [mem_completeStore, get_setBytes_eq_overlay hm]
  · rw [sb_completeStore, SbEntry.dropMarkers_eq_dropWhile]

theorem perform_drain {s t : State} {i : Nat} (h : State.drainOne s i = some t) : perform s (.drain i) = .next t := by
  simp only [perform, h]

theorem perform_drain_of_none {s : State} {i : Nat} (h : State.drainOne s i = none) : perform s (.drain i) = boundary s := by
  simp only [perform, h]

/-- Settles O38: a drained store passes older entries that share no byte with it, so forwarding sees the same bytes; the wait for
an empty buffer is `get_drainAll` and `kept_drainAll`. -/
theorem drainsKeepOwnView : Obligations.DrainsKeepOwnView := by
  refine ⟨fun s t i hm h => ⟨sameBytes_drainOne hm h, countP_drainOne h⟩, fun s i pa bs hm hget hold => ?_,
    fun s i => ⟨fun t => perform_drain, perform_drain_of_none⟩, fun s i j hj he => ?_,
    fun s i j pa pb a bs cs hj hi he ha ha' hb hb' => ?_,
    fun s hm => ⟨sb_drainAll s, sameBytes_drainAll s hm, get_drainAll s hm, kept_drainAll s⟩⟩
  · obtain ⟨t, ht, hmem, hsb⟩ := drainOne_of_eligible hm hget hold
    exact ⟨t, ht, fun k hk => by rw [hmem, SbEntry.overlay_of_in hk],
      fun b hb => by rw [hmem, SbEntry.overlay_of_out hb], hsb⟩
  · refine drainOne_eq_none_of_blocked hj he fun pa bs _ => ?_
    rintro ⟨pb, cs, hwmb, -⟩
    cases hwmb
  · refine drainOne_eq_none_of_blocked hj he fun pa' bs' hi' => ?_
    rintro ⟨_, _, hstore, hapart⟩
    cases hstore
    cases hi.symm.trans hi'
    omega

/-! What a completed store does to each CPU. -/

/-- A CPU without what a completed store of its own or a drain may change. -/
def Cpu.undrained (c : Cpu) : Cpu :=
  { c with sb := [], lockFlag := false, icache := ⟨[]⟩, l1d := ⟨[]⟩, icHist := [] }

theorem undrained_loseLock (p : Params) (pa n : Nat) (c : Cpu) :
    Cpu.undrained (Cpu.loseLock p pa n c) = Cpu.undrained c := by
  unfold Cpu.loseLock
  split <;> rfl

theorem undrained_remember (s : State) (pa n : Nat) :
    Cpu.undrained (State.remember s pa n).cpu = Cpu.undrained s.cpu := by
  unfold State.remember
  split <;> rfl

theorem undrained_completeStore (s : State) (pa : Nat) (bs : List Byte) :
    Cpu.undrained (State.completeStore s pa bs).cpu = Cpu.undrained s.cpu := by
  unfold State.completeStore
  have hcache := (noCaches_iff _ _).1 (noCaches_cacheWrite (State.loseLocks { State.remember s pa bs.length with
    mem := Memory.setBytes (State.remember s pa bs.length).mem pa bs } pa bs.length) pa bs.length)
  obtain ⟨-, hcpu, -⟩ := hcache
  exact (congrArg Cpu.undrained hcpu :).trans ((undrained_loseLock _ _ _ _).trans (undrained_remember s pa bs.length))

theorem undrained_completeAll (es : List SbEntry) (s : State) :
    Cpu.undrained (State.completeAll es s).cpu = Cpu.undrained s.cpu := by
  induction es generalizing s with
  | nil => rfl
  | cons e es ih =>
    cases e with
    | wmb => exact ih s
    | store pa bs => exact (ih _).trans (undrained_completeStore s pa bs)

/-- A drain leaves the TLBs, and every register that only instructions and entries write, as they were. -/
theorem undrained_drainAll (s : State) : Cpu.undrained (State.drainAll s).cpu = Cpu.undrained s.cpu :=
  undrained_completeAll _ { s with cpu := { s.cpu with sb := [] } }

@[simp] theorem itb_drainAll (s : State) : (State.drainAll s).cpu.itb = s.cpu.itb :=
  congrArg (fun c => c.itb) (undrained_drainAll s)
@[simp] theorem dtb_drainAll (s : State) : (State.drainAll s).cpu.dtb = s.cpu.dtb :=
  congrArg (fun c => c.dtb) (undrained_drainAll s)
@[simp] theorem itbAsn_drainAll (s : State) : (State.drainAll s).cpu.itbAsn = s.cpu.itbAsn :=
  congrArg (fun c => c.itbAsn) (undrained_drainAll s)
@[simp] theorem dtbAsn_drainAll (s : State) : (State.drainAll s).cpu.dtbAsn = s.cpu.dtbAsn :=
  congrArg (fun c => c.dtbAsn) (undrained_drainAll s)
@[simp] theorem pc_drainAll (s : State) : (State.drainAll s).cpu.pc = s.cpu.pc := (kept_drainAll s).pc
@[simp] theorem cfg_drainAll (s : State) : (State.drainAll s).cfg = s.cfg := (kept_drainAll s).cfg

/-- The reservation of a CPU (20_memory.md R180). -/
def Cpu.reservation (c : Cpu) : Bool × Word := (c.lockFlag, c.lockLine)

/-- What is left of a reservation after a completed store of `n` bytes from `pa` up (20_memory.md R181). -/
def Cpu.reservationAfter (p : Params) (pa n : Nat) (c : Cpu) : Bool × Word :=
  (c.lockFlag && !Params.writesLine p pa n c.lockLine, c.lockLine)

theorem reservation_loseLock (p : Params) (pa n : Nat) (c : Cpu) :
    Cpu.reservation (Cpu.loseLock p pa n c) = Cpu.reservationAfter p pa n c := by
  have hline : (Cpu.loseLock p pa n c).lockLine = c.lockLine := by unfold Cpu.loseLock; split <;> rfl
  rw [Cpu.reservation, lockFlag_loseLock, hline, Cpu.reservationAfter]

/-- The reservations after a completed store, of its CPU and of the others. -/
theorem reservation_completeStore (s : State) (pa : Nat) (bs : List Byte) :
    Cpu.reservation (State.completeStore s pa bs).cpu = Cpu.reservationAfter s.cfg pa bs.length s.cpu
      ∧ (State.completeStore s pa bs).peers.map Cpu.reservation
        = s.peers.map (Cpu.reservationAfter s.cfg pa bs.length) := by
  have hcache := (noCaches_iff _ _).1 (noCaches_cacheWrite (State.loseLocks { State.remember s pa bs.length with
    mem := Memory.setBytes (State.remember s pa bs.length).mem pa bs } pa bs.length) pa bs.length)
  obtain ⟨-, hcpu, hpeers, -⟩ := hcache
  have hremember : (State.remember s pa bs.length).cfg = s.cfg
      ∧ Cpu.reservationAfter s.cfg pa bs.length (State.remember s pa bs.length).cpu
        = Cpu.reservationAfter s.cfg pa bs.length s.cpu
      ∧ (State.remember s pa bs.length).peers.map (Cpu.reservationAfter s.cfg pa bs.length)
        = s.peers.map (Cpu.reservationAfter s.cfg pa bs.length) := by
    unfold State.remember
    split
    · exact ⟨rfl, rfl, rfl⟩
    · refine ⟨rfl, rfl, ?_⟩
      rw [State.mapCpus, List.map_map]
      rfl
  obtain ⟨hcfg, hown, hothers⟩ := hremember
  unfold State.completeStore
  constructor
  · refine (congrArg Cpu.reservation hcpu :).trans ((reservation_loseLock _ _ _ _).trans ?_)
    rw [← hown, ← hcfg]
  · have hmap := congrArg (List.map Cpu.reservation) hpeers
    rw [List.map_map, List.map_map, State.loseLocks, State.mapCpus, List.map_map] at hmap
    refine hmap.trans (Eq.trans (List.map_congr_left fun c _ => ?_) hothers)
    exact (reservation_loseLock _ _ _ c).trans (by rw [← hcfg])

theorem Params.lineOf_mul_lineSize (p : Params) (a : Nat) :
    Params.lineOf p a * Params.lineSize p = a - a % 2 ^ p.lineLog2 := by
  rw [Params.lineOf, Params.lineSize]
  have := Nat.div_add_mod' a (2 ^ p.lineLog2)
  omega

theorem Params.mem_linesOf {p : Params} {pa n ln : Nat} (hn : 0 < n) :
    ln ∈ Params.linesOf p pa n ↔ ∃ k < n, Params.lineOf p (pa + k) = ln := by
  have hpos : 0 < Params.lineSize p := Nat.two_pow_pos _
  have hmono : ∀ {a b : Nat}, a ≤ b → Params.lineOf p a ≤ Params.lineOf p b := fun h => Nat.div_le_div_right h
  have hends : Params.lineOf p pa ≤ Params.lineOf p (pa + (n - 1)) := hmono (Nat.le_add_right _ _)
  simp only [Params.linesOf, List.mem_map, List.mem_range]
  constructor
  · rintro ⟨d, hd, rfl⟩
    have hlast : Params.lineOf p pa + d ≤ Params.lineOf p (pa + (n - 1)) := by omega
    have hstart : (Params.lineOf p pa + d) * Params.lineSize p ≤ pa + (n - 1) :=
      (Nat.le_div_iff_mul_le hpos).1 hlast
    by_cases hd0 : d = 0
    · exact ⟨0, hn, by rw [hd0]; rfl⟩
    · have hafter : pa < (Params.lineOf p pa + d) * Params.lineSize p :=
        (Nat.div_lt_iff_lt_mul hpos).1 (show Params.lineOf p pa < Params.lineOf p pa + d by omega)
      refine ⟨(Params.lineOf p pa + d) * Params.lineSize p - pa, by omega, ?_⟩
      rw [Nat.add_sub_of_le hafter.le, Params.lineOf, Nat.mul_div_cancel _ hpos]
  · rintro ⟨k, hk, rfl⟩
    have hlow := hmono (Nat.le_add_right pa k)
    have hhigh := hmono (show pa + k ≤ pa + (n - 1) by omega)
    exact ⟨Params.lineOf p (pa + k) - Params.lineOf p pa, by omega, by omega⟩

/-- A store writes a byte of the line `line` (20_memory.md R181). -/
theorem Params.writesLine_iff {p : Params} {pa n : Nat} {line : Word} (hn : 0 < n) :
    Params.writesLine p pa n line = true ↔ ∃ k < n, line = BitVec.ofNat 64 (pa + k - (pa + k) % 2 ^ p.lineLog2) := by
  simp only [Params.writesLine, List.any_eq_true, beq_iff_eq, Params.mem_linesOf hn]
  constructor
  · rintro ⟨_, ⟨k, hk, rfl⟩, hline⟩
    exact ⟨k, hk, by rw [← hline, Params.lineOf_mul_lineSize]⟩
  · rintro ⟨k, hk, rfl⟩
    exact ⟨_, ⟨k, hk, rfl⟩, by rw [Params.lineOf_mul_lineSize]⟩

/-- The reservations that a completed store leaves, CPU by CPU (20_memory.md R181). -/
theorem lockFlag_completeStore (s : State) (pa : Nat) {bs : List Byte} (hbs : bs ≠ []) :
    ((State.completeStore s pa bs).cpu.lockFlag = true ↔ s.cpu.lockFlag = true ∧
      ∀ k < bs.length, s.cpu.lockLine ≠ BitVec.ofNat 64 (pa + k - (pa + k) % 2 ^ s.cfg.lineLog2))
    ∧ ∀ (j : Nat) (c : Cpu), s.peers[j]? = some c → ∃ e : Cpu, (State.completeStore s pa bs).peers[j]? = some e
      ∧ e.lockLine = c.lockLine ∧ (e.lockFlag = true ↔ c.lockFlag = true ∧
        ∀ k < bs.length, c.lockLine ≠ BitVec.ofNat 64 (pa + k - (pa + k) % 2 ^ s.cfg.lineLog2)) := by
  have hleft : ∀ c : Cpu, (c.lockFlag && !Params.writesLine s.cfg pa bs.length c.lockLine) = true ↔ c.lockFlag = true ∧
      ∀ k < bs.length, c.lockLine ≠ BitVec.ofNat 64 (pa + k - (pa + k) % 2 ^ s.cfg.lineLog2) := by
    intro c
    rw [Bool.and_eq_true, Bool.not_eq_true', Bool.eq_false_iff, ne_eq,
      Params.writesLine_iff (List.length_pos_of_ne_nil hbs)]
    push Not
    rfl
  obtain ⟨hown, hothers⟩ := reservation_completeStore s pa bs
  refine ⟨?_, fun j c hc => ?_⟩
  · rw [← hleft, show (_ && _) = _ from (congrArg Prod.fst hown).symm]
    rfl
  · have hj := congrArg (fun l => l[j]?) hothers
    simp only [List.getElem?_map, hc, Option.map_some] at hj
    obtain ⟨e, he, hreserved⟩ := Option.map_eq_some_iff.1 hj
    refine ⟨e, he, congrArg Prod.snd hreserved, ?_⟩
    rw [← hleft, show (_ && _) = _ from (congrArg Prod.fst hreserved).symm]
    rfl

/-- Settles O36: `lockFlag_completeStore` for the reservations, `get_setBytes_eq_overlay` for the bytes. -/
theorem completedStores : Obligations.CompletedStores := by
  intro s pa bs hbs hm
  obtain ⟨hown, hothers⟩ := lockFlag_completeStore s pa hbs
  have hhits : ∀ c : Cpu,
      (¬ ∃ k < bs.length, c.lockLine = BitVec.ofNat 64 (pa + k - (pa + k) % 2 ^ s.cfg.lineLog2)) ↔
        ∀ k < bs.length, c.lockLine ≠ BitVec.ofNat 64 (pa + k - (pa + k) % 2 ^ s.cfg.lineLog2) := by
    intro c
    push Not
    rfl
  refine ⟨by rw [hown, hhits], fun j c hc => ?_, fun k hk => ?_, fun b hb => ?_, kept_completeStore s pa bs,
    sb_completeStore s pa bs⟩
  · obtain ⟨e, he, -, hflag⟩ := hothers j c hc
    exact ⟨e, he, by rw [hflag, hhits]⟩
  · rw [mem_completeStore, get_setBytes_eq_overlay hm, SbEntry.overlay_of_in hk]
  · rw [mem_completeStore, get_setBytes_eq_overlay hm, SbEntry.overlay_of_out hb]

/-! The barriers. -/

/-- The pc advances after changes of the memory system. -/
theorem kept_advance {s u : State} (h : Kept s u) :
    Kept { s with cpu := { s.cpu with pc := s.cpu.pc + 4 } } (State.advance u) where
  cfg := h.cfg
  regions := h.regions
  cpu := by
    have hcpu := congrArg (fun c : Cpu => { c with pc := s.cpu.pc + 4 }) h.cpu
    rw [State.advance, State.setPc, h.pc]
    exact hcpu
  peers := h.peers
  rom := h.rom
  mem := h.mem

/-- WMB appends a marker that no load sees (20_memory.md R174). -/
theorem forward_append_wmb (es : List SbEntry) (a : Nat) (b : Byte) :
    SbEntry.forward (es ++ [.wmb]) a b = SbEntry.forward es a b := by
  induction es generalizing b with
  | nil => rfl
  | cons e es ih => cases e <;> exact ih _

theorem appendWmb_eq (s : State) : State.appendWmb s
    = { s with cpu := { s.cpu with sb := if s.cpu.sb = [] then [] else s.cpu.sb ++ [.wmb] } } := by
  unfold State.appendWmb
  by_cases hempty : s.cpu.sb = []
  · have hsb : (if s.cpu.sb = [] then [] else s.cpu.sb ++ [.wmb]) = s.cpu.sb := by rw [if_pos hempty, hempty]
    rw [hsb, if_pos hempty]
  · rw [if_neg hempty, if_neg hempty]

theorem sameBytes_appendWmb (s : State) : sameBytes s (State.appendWmb s) := by
  unfold State.appendWmb
  split
  · exact fun _ => rfl
  · exact fun a => forward_append_wmb s.cpu.sb a _

/-- Settles O37: MB is the wait for an empty store buffer, WMB an appended marker, which forwarding skips. -/
theorem barriers : Obligations.Barriers := by
  refine ⟨fun s ra rb hm => ⟨State.advance (State.drainAll s), rfl, sb_drainAll s, get_drainAll s hm,
    sameBytes_drainAll s hm, kept_advance (kept_drainAll s)⟩,
    fun s ra rb => ⟨State.advance (State.appendWmb s), rfl, sameBytes_appendWmb s, ?_⟩⟩
  rw [appendWmb_eq]
  rfl

/-! The TLB invalidations (20_memory.md R225, R226). -/

theorem TlbEntry.maps_iff {e : TlbEntry} {va : Word} : TlbEntry.maps e va = true ↔ va.toNat / 2 ^ e.shift = e.tag := by
  rw [TlbEntry.maps, beq_iff_eq, Nat.shiftRight_eq_div_pow]

/-- The entries that satisfy `gone` have left a TLB, and nothing else changed. -/
structure Tlb.Without (t u : Tlb) (gone : TlbEntry → Prop) : Prop where
  mem_iff : ∀ e, e ∈ u.entries ↔ e ∈ t.entries ∧ ¬ gone e
  frame : u = { t with entries := u.entries }

theorem Tlb.without_remove {p : TlbEntry → Bool} {gone : TlbEntry → Prop} (h : ∀ e, p e = true ↔ gone e) (t : Tlb) :
    Tlb.Without t (Tlb.remove p t) gone where
  mem_iff e := by rw [Tlb.remove, List.mem_filter, Bool.not_eq_true', Bool.eq_false_iff, ne_eq, h]
  frame := rfl

theorem Tlb.without_nothing (t : Tlb) : Tlb.Without t t fun _ => False where
  mem_iff e := by rw [not_false_eq_true, and_true]
  frame := rfl

/-- What TBIAR removes: entries that are not global, of the address and of the address space (20_memory.md R225). -/
theorem Tlb.without_here (va asn : Word) (t : Tlb) : Tlb.Without t
    (Tlb.remove (fun e => !e.global && TlbEntry.maps e va && e.asn == asn.setWidth 8) t)
    fun e => e.global = false ∧ va.toNat / 2 ^ e.shift = e.tag ∧ e.asn = asn.setWidth 8 :=
  Tlb.without_remove (fun e => by
    simp only [Bool.and_eq_true, Bool.not_eq_true', TlbEntry.maps_iff, beq_iff_eq, and_assoc]) t

/-- An HW_MTPR that broadcasts a command: the TLBs of this CPU after it, the inboxes of the others, and the frame. -/
theorem exec_hwMtpr_broadcast {s : State} {ra : Reg} {index : BitVec 16} {r : Ipr} {cmd : TbiCmd} {b d : Tlb}
    {goneI goneD : TlbEntry → Prop} (hp : State.inPal s = true) (hr : Ipr.ofIndex index = some r)
    (hw : State.writeIpr (State.drainAll s) r (State.x s ra) = State.broadcastTbi (State.drainAll s) cmd)
    (hcmd : Cpu.tbi (State.drainAll s).cpu cmd = { (State.drainAll s).cpu with itb := b, dtb := d })
    (hb : Tlb.Without (State.drainAll s).cpu.itb b goneI) (hd : Tlb.Without (State.drainAll s).cpu.dtb d goneD) :
    ∃ t, exec (.hwMtpr ra index) s = .next t
      ∧ (∀ e, e ∈ t.cpu.itb.entries ↔ e ∈ s.cpu.itb.entries ∧ ¬ goneI e)
      ∧ (∀ e, e ∈ t.cpu.dtb.entries ↔ e ∈ s.cpu.dtb.entries ∧ ¬ goneD e)
      ∧ t.peers = (State.drainAll s).peers.map (fun c => { c with tbiIn := c.tbiIn ++ [cmd] })
      ∧ t.cpu = { Cpu.tbi (State.drainAll s).cpu cmd with pc := s.cpu.pc + 4 }
      ∧ t = { State.drainAll s with
        cpu := { (State.drainAll s).cpu with
          pc := s.cpu.pc + 4,
          itb := { s.cpu.itb with entries := t.cpu.itb.entries },
          dtb := { s.cpu.dtb with entries := t.cpu.dtb.entries } },
        peers := t.peers } := by
  rw [itb_drainAll] at hb
  rw [dtb_drainAll] at hd
  have hcpu : (State.advance (State.broadcastTbi (State.drainAll s) cmd)).cpu
      = { (State.drainAll s).cpu with pc := s.cpu.pc + 4, itb := b, dtb := d } := by
    rw [State.advance, State.setPc, State.broadcastTbi, hcmd, pc_drainAll]
  refine ⟨_, (exec_hwMtpr_of_some hp hr).trans (by rw [hw]), ?_, ?_, rfl, ?_, ?_⟩
  · rw [hcpu]
    exact hb.mem_iff
  · rw [hcpu]
    exact hd.mem_iff
  · rw [hcpu, hcmd]
  · rw [hcpu, ← hb.frame, ← hd.frame, ← hcpu]
    rfl

/-- Settles O54: each command by the entries that `Cpu.tbi` removes from the TLBs, which the drain has left alone. -/
theorem tlbInvalidation : Obligations.TlbInvalidation := by
  intro s ra hp
  have hall : ∀ _ : TlbEntry, true = true ↔ True := fun _ => iff_true_intro rfl
  have hlocal : ∀ e : TlbEntry, (!e.global) = true ↔ e.global = false := fun e => by rw [Bool.not_eq_true']
  have hmaps : ∀ e : TlbEntry, TlbEntry.maps e (State.x s ra) = true ↔ (State.x s ra).toNat / 2 ^ e.shift = e.tag :=
    fun _ => TlbEntry.maps_iff
  refine ⟨?_, ?_, ?_, ?_, ?_, ?_⟩
  · exact exec_hwMtpr_broadcast hp (r := .tbia) rfl rfl rfl (Tlb.without_remove hall _) (Tlb.without_remove hall _)
  · exact exec_hwMtpr_broadcast hp (r := .tbiap) rfl rfl rfl (Tlb.without_remove hlocal _) (Tlb.without_remove hlocal _)
  · exact exec_hwMtpr_broadcast hp (r := .tbis) rfl rfl rfl (Tlb.without_remove hmaps _) (Tlb.without_remove hmaps _)
  · exact exec_hwMtpr_broadcast hp (r := .tbisi) rfl rfl rfl (Tlb.without_remove hmaps _) (Tlb.without_nothing _)
  · exact exec_hwMtpr_broadcast hp (r := .tbisd) rfl rfl rfl (Tlb.without_nothing _) (Tlb.without_remove hmaps _)
  · refine exec_hwMtpr_broadcast hp (r := .tbiar) rfl rfl rfl ?_ ?_
    · rw [itbAsn_drainAll]
      exact Tlb.without_here _ _ _
    · rw [dtbAsn_drainAll]
      exact Tlb.without_here _ _ _

end Sys2Proof.Machine

/-! PROOFS. Physical accesses and the instructions that end in one: what a read and a write of each target answers (20_memory.md R171,
R176, R177, R240 to R245), HW_LD and HW_ST, and the locked accesses (R180 to R186). -/

namespace Sys2Proof.Machine

/-! Values of accesses. -/

theorem lowBytes_eq (n : Nat) (v : Word) : lowBytes n v = (v.extractLsb' 0 (8 * n)).setWidth 64 := by
  refine BitVec.eq_of_getLsbD_eq fun i hi => ?_
  rw [lowBytes, getLsbD_ofBytes_bytesOf]
  simp [hi]

theorem lowBytes_allOnes (n : Nat) : lowBytes n (BitVec.allOnes 64) = BitVec.ofNat 64 (2 ^ (8 * n) - 1) := by
  refine BitVec.eq_of_getLsbD_eq fun i hi => ?_
  rw [lowBytes, getLsbD_ofBytes_bytesOf]
  rw [BitVec.getLsbD_allOnes, BitVec.getLsbD_ofNat, Nat.testBit_two_pow_sub_one]
  simp [hi]

theorem sext32_eq (v : Word) : sext32 v = (v.extractLsb' 0 32).signExtend 64 := by
  rw [sext32, BitVec.setWidth_eq_extractLsb' (by decide)]

theorem aligned_iff {n : Nat} {va : Word} : aligned n va = true ↔ va.toNat % n = 0 := by rw [aligned, beq_iff_eq]

theorem aligned_eq_false_iff {n : Nat} {va : Word} : aligned n va = false ↔ va.toNat % n ≠ 0 := by
  rw [aligned, beq_eq_false_iff_ne]

theorem Params.lockLineOf_eq (p : Params) (pa : Nat) :
    Params.lockLineOf p pa = BitVec.ofNat 64 (pa - pa % 2 ^ p.lineLog2) := by
  rw [Params.lockLineOf, Params.lineOf_mul_lineSize]

/-! The router (20_memory.md R240). -/

theorem route_of_le {s : State} {pa : Nat} (h : 2 ^ 48 ≤ pa) : State.route s pa = .tooHigh := if_pos h

/-- The region a physical address lies in. -/
def State.regionAt (s : State) (pa : Nat) : Option MmioRegion :=
  s.regions.find? fun r => decide (r.start ≤ pa) && decide (pa ≤ r.stop)

theorem route_of_regionAt_some {s : State} {pa : Nat} {r : MmioRegion} (hlt : pa < 2 ^ 48)
    (hr : State.regionAt s pa = some r) : State.route s pa = .mmio r := by
  rw [State.regionAt] at hr
  rw [State.route, if_neg (Nat.not_le.2 hlt), hr]

theorem route_of_regionAt_none {s : State} {pa : Nat} (hlt : pa < 2 ^ 48) (hr : State.regionAt s pa = none) :
    State.route s pa =
      if pa < s.cfg.ramTop then .ram else if s.cfg.romBase ≤ pa ∧ pa < s.cfg.romTop then .rom else .unmapped := by
  rw [State.regionAt] at hr
  rw [State.route, if_neg (Nat.not_le.2 hlt), hr]

theorem route_tooHigh_iff {s : State} {pa : Nat} : State.route s pa = .tooHigh ↔ 2 ^ 48 ≤ pa := by
  refine ⟨fun h => not_lt.1 fun hlt => ?_, route_of_le⟩
  cases hr : State.regionAt s pa with
  | some r => cases (route_of_regionAt_some hlt hr).symm.trans h
  | none =>
    rw [route_of_regionAt_none hlt hr] at h
    split at h
    · cases h
    · split at h <;> cases h

/-- In one of several disjoint regions. -/
theorem route_of_region {s : State} {pa : Nat} {r : MmioRegion} (hpair : s.regions.Pairwise MmioRegion.apart)
    (hlt : pa < 2 ^ 48) (hr : r ∈ s.regions) (hstart : r.start ≤ pa) (hstop : pa ≤ r.stop) : State.route s pa = .mmio r := by
  have hsome : (State.regionAt s pa).isSome := by
    rw [State.regionAt, List.find?_isSome]
    exact ⟨r, hr, by simp [hstart, hstop]⟩
  obtain ⟨q, hq⟩ := Option.isSome_iff_exists.1 hsome
  have hin := List.find?_some hq
  simp only [Bool.and_eq_true, decide_eq_true_eq] at hin
  have hqr : q = r := by
    by_contra hne
    have hsymm : Std.Symm MmioRegion.apart := ⟨fun _ _ => Or.symm⟩
    have happart : q.apart r := hpair.forall (List.mem_of_find?_eq_some hq) hr hne
    simp only [MmioRegion.apart] at happart
    omega
  exact route_of_regionAt_some hlt (hqr ▸ hq)

theorem route_of_no_region {s : State} {pa : Nat} (hlt : pa < 2 ^ 48)
    (hnone : ∀ r, ¬ (r ∈ s.regions ∧ r.start ≤ pa ∧ pa ≤ r.stop)) : State.route s pa =
      if pa < s.cfg.ramTop then .ram else if s.cfg.romBase ≤ pa ∧ pa < s.cfg.romTop then .rom else .unmapped := by
  refine route_of_regionAt_none hlt (List.find?_eq_none.2 fun r hr hin => hnone r ⟨hr, ?_⟩)
  simpa using hin

/-- Changes of the memory system leave the routing alone. -/
theorem Kept.route {s t : State} (h : Kept s t) (pa : Nat) : State.route t pa = State.route s pa := by
  rw [State.route, State.route, h.regions, h.cfg]

/-! What a change of caches and draws leaves alone. -/

theorem sb_of_noCaches {s t : State} (h : State.noCaches t = State.noCaches s) : t.cpu.sb = s.cpu.sb := by
  obtain ⟨-, hcpu, -⟩ := (noCaches_iff s t).1 h
  exact congrArg (fun c => c.sb) hcpu

theorem cfg_cacheRead (k : L1) (s : State) (pa n : Nat) : (State.cacheRead k s pa n).cfg = s.cfg :=
  (Kept.of_noCaches (noCaches_cacheRead k s pa n)).cfg

/-! A call of a handler (20_memory.md R243). -/

section Accesses
variable {n : Nat} {v : Word} {s : State} {pa : Nat}

theorem mmioCall_of_error {r : MmioRegion} {w : Option Word} (h : Config.mmioError s.draws = true) :
    State.mmioCall s r pa n w = .exc (.mchk 1) (State.called s r pa n w) := if_pos h

theorem mmioCall_of_answer {r : MmioRegion} {w : Option Word} (h : Config.mmioError s.draws = false) :
    State.mmioCall s r pa n w
      = .ok (((Config.mmioRead s.draws r.dev (pa - r.start) n).extractLsb' 0 (8 * n)).setWidth 64)
        (State.called s r pa n w) := by
  rw [← lowBytes_eq]
  exact if_neg (Bool.eq_false_iff.1 h)

/-! `PhysRead` of a data access, target by target. -/

theorem physRead_of_tooHigh (h : State.route s pa = .tooHigh) : State.physRead n s pa = .exc (.mchk 2) s := by
  rw [State.physRead, h]

theorem physRead_of_mmio {r : MmioRegion} (h : State.route s pa = .mmio r) :
    State.physRead n s pa = State.mmioCall (State.drainAll s) r pa n none := by
  rw [State.physRead, h]

theorem physRead_of_rom (h : State.route s pa = .rom) :
    State.physRead n s pa = .ok (ofBytes (Memory.getBytes s.rom pa n)) (State.drainAll s) := by
  rw [State.physRead, h]

theorem physRead_of_unmapped (h : State.route s pa = .unmapped) : State.physRead n s pa =
    if s.cfg.mmioStrict then .exc (.mchk 1) s else .ok (BitVec.ofNat 64 (2 ^ (8 * n) - 1)) s := by
  rw [State.physRead, h, ← lowBytes_allOnes]
  rfl

theorem physRead_of_ram_error (h : State.route s pa = .ram) (herr : State.ramErrs .data s pa n = true) :
    State.physRead n s pa = .exc (.mchk 3) (State.ramErred .data s pa n) := by
  rw [State.ramErrs, Bool.and_eq_true] at herr
  obtain ⟨herrs, herr⟩ := herr
  simp only [State.physRead, h, State.backend, cfg_cacheRead, herrs, herr, if_true]
  rfl

/-- A read of RAM that succeeds changes only caches and draws (20_memory.md R171, R261). -/
theorem physRead_of_ram (h : State.route s pa = .ram) (herr : State.ramErrs .data s pa n = false) :
    ∃ t, State.physRead n s pa = .ok (ofBytes (State.loadBytes s pa n)) t ∧ State.noCaches t = State.noCaches s := by
  simp only [State.physRead, h, State.backend, cfg_cacheRead]
  rw [State.ramErrs, Bool.and_eq_false_iff] at herr
  by_cases herrs : s.cfg.backendErrs = true
  · have hanswer := herr.resolve_left (by simp [herrs])
    exact ⟨State.bump (State.cacheRead .data s pa n), by rw [if_pos herrs, hanswer]; rfl, noCaches_cacheRead .data s pa n⟩
  · exact ⟨_, if_neg herrs, noCaches_cacheRead .data s pa n⟩

/-- The state of a back-end error differs in caches and draws only (20_memory.md R261). -/
theorem noCaches_ramErred (k : L1) (s : State) (pa n : Nat) :
    State.noCaches (State.ramErred k s pa n) = State.noCaches s := noCaches_cacheRead k s pa n

/-! `PhysWrite` of an ordinary store, target by target. -/

theorem physWrite_of_tooHigh (h : State.route s pa = .tooHigh) : State.physWrite n v s pa = .exc (.mchk 2) s := by
  rw [State.physWrite, h]

theorem physWrite_of_mmio {r : MmioRegion} (h : State.route s pa = .mmio r) : State.physWrite n v s pa =
    Res.bind (State.mmioCall (State.drainAll s) r pa n (some ((v.extractLsb' 0 (8 * n)).setWidth 64)))
      fun _ t => .ok () (State.loseLocks t pa n) := by
  rw [State.physWrite, h, ← lowBytes_eq]

theorem physWrite_of_ram (h : State.route s pa = .ram) :
    State.physWrite n v s pa = .ok () (State.bufferStore s pa (bytesOf n v)) := by
  rw [State.physWrite, h]

theorem physWrite_of_rom (h : State.route s pa = .rom) : State.physWrite n v s pa =
    if s.cfg.mmioStrict then .exc (.mchk 1) (State.drainAll s) else .ok () (State.drainAll s) := by
  rw [State.physWrite, h, ← cfg_drainAll s]
  rfl

theorem physWrite_of_unmapped (h : State.route s pa = .unmapped) : State.physWrite n v s pa =
    if s.cfg.mmioStrict then .exc (.mchk 1) s else .ok () s := by
  rw [State.physWrite, h]
  rfl

/-- The physical store of a successful STx_C completes at once in RAM (20_memory.md R183). -/
theorem physWriteNow_of_ram (h : State.route s pa = .ram) :
    State.physWriteNow n v s pa = .ok () (State.completeStore s pa (bytesOf n v)) := by
  rw [State.physWriteNow, h]

/-- Outside RAM it is an ordinary store. -/
theorem physWriteNow_of_outside (h : State.route s pa ≠ .ram) :
    State.physWriteNow n v s pa = State.physWrite n v s pa := by
  unfold State.physWriteNow
  split
  · contradiction
  · rfl

/-- An instruction that makes one physical read, outside RAM. -/
theorem readsOutside_of_physRead {o : Outcome} {ends : Word → State → State → Prop}
    (hexc : ∀ e w, State.physRead n s pa = .exc e w → o = .next (State.take w e))
    (hok : ∀ v w, State.physRead n s pa = .ok v w → ∃ t, o = .next t ∧ ends v w t) :
    readsOutside o s pa n ends := by
  refine ⟨fun hhigh => hexc _ _ (physRead_of_tooHigh (route_of_le hhigh)), fun r hr => ⟨fun herr => ?_, fun hanswer => ?_⟩,
    fun hrom => hok _ _ (physRead_of_rom hrom), fun hnone => ⟨fun hstrict => ?_, fun hlax => ?_⟩⟩
  · exact hexc _ _ ((physRead_of_mmio hr).trans (mmioCall_of_error herr))
  · exact hok _ _ ((physRead_of_mmio hr).trans (mmioCall_of_answer hanswer))
  · exact hexc _ _ ((physRead_of_unmapped hnone).trans (if_pos hstrict))
  · exact hok _ _ ((physRead_of_unmapped hnone).trans (if_neg (Bool.eq_false_iff.1 hlax)))

/-- An instruction that makes one physical write, outside RAM. -/
theorem writesOutside_of_physWrite {o : Outcome} {ends : State → State → Prop}
    (hexc : State.route s pa ≠ .ram → ∀ e w, State.physWrite n v s pa = .exc e w → o = .next (State.take w e))
    (hok : State.route s pa ≠ .ram → ∀ w, State.physWrite n v s pa = .ok () w → ∃ t, o = .next t ∧ ends w t) :
    writesOutside o s pa n v ends := by
  refine ⟨fun hhigh => ?_, fun r hr => ⟨fun herr => ?_, fun hanswer => ?_⟩,
    fun hrom => ⟨fun hstrict => ?_, fun hlax => ?_⟩, fun hnone => ⟨fun hstrict => ?_, fun hlax => ?_⟩⟩
  · have hroute := route_of_le (s := s) hhigh
    exact hexc (by simp [hroute]) _ _ (physWrite_of_tooHigh hroute)
  · exact hexc (by simp [hr]) _ _ ((physWrite_of_mmio hr).trans (by rw [mmioCall_of_error herr]; rfl))
  · exact hok (by simp [hr]) _ ((physWrite_of_mmio hr).trans (by rw [mmioCall_of_answer hanswer]; rfl))
  · exact hexc (by simp [hrom]) _ _ ((physWrite_of_rom hrom).trans (if_pos hstrict))
  · exact hok (by simp [hrom]) _ ((physWrite_of_rom hrom).trans (if_neg (Bool.eq_false_iff.1 hlax)))
  · exact hexc (by simp [hnone]) _ _ ((physWrite_of_unmapped hnone).trans (if_pos hstrict))
  · exact hok (by simp [hnone]) _ ((physWrite_of_unmapped hnone).trans (if_neg (Bool.eq_false_iff.1 hlax)))

end Accesses

/-! The templates of the loads and stores (41_loadstore.md R500): an exception is taken, else the instruction ends. -/

section Templates
variable {s w : State} {e : Exc}

theorem loadX_of_exc {r : State → Res Word} {ext : Word → Word} {ra : Reg} (h : r s = .exc e w) :
    loadX r ext ra s = .next (State.take w e) := by rw [loadX, h]; rfl

theorem loadX_of_ok {r : State → Res Word} {ext : Word → Word} {ra : Reg} {v : Word} (h : r s = .ok v w) :
    loadX r ext ra s = .next (State.finishX w ra (ext v)) := by rw [loadX, h]; rfl

theorem store_of_exc {f : State → Res Unit} (h : f s = .exc e w) : store f s = .next (State.take w e) := by
  rw [store, h]; rfl

theorem store_of_ok {f : State → Res Unit} (h : f s = .ok () w) : store f s = .next (State.advance w) := by
  rw [store, h]; rfl

theorem storeConditional_of_exc {n : Nat} {a : Access} {ea : Word} {ra : Reg}
    (h : State.memWriteConditional n a ea (State.x s ra) s = .exc e w) :
    storeConditional n a ea ra s = .next (State.take w e) := by rw [storeConditional, h]; rfl

theorem storeConditional_of_ok {n : Nat} {a : Access} {ea : Word} {ra : Reg} {done : Bool}
    (h : State.memWriteConditional n a ea (State.x s ra) s = .ok done w) :
    storeConditional n a ea ra s = .next (State.finishX w ra (ofBool done)) := by rw [storeConditional, h]; rfl

end Templates

/-! The end of an instruction whose access has changed only the memory system. -/

theorem wroteX_of_kept {s w : State} (h : Kept s w) (r : Reg) (v : Word) : wroteX s (State.finishX w r v) r v := fun q => by
  rw [wroteX_finishX w r v q, h.x]

theorem kept_finishX {s w : State} (h : Kept s w) (r : Reg) (v : Word) :
    Kept { s with cpu := { s.cpu with regs := (State.finishX w r v).cpu.regs, pc := s.cpu.pc + 4 } }
      (State.finishX w r v) := by
  refine kept_advance (s := { s with cpu := { s.cpu with regs := (State.setX w r v).cpu.regs } }) ⟨h.cfg, h.regions, ?_,
    h.peers, h.rom, h.mem⟩
  exact (congrArg (fun c : Cpu => { c with regs := (State.setX w r v).cpu.regs }) h.cpu :)

/-- The same change of the current CPU's registers in two states that differ in caches and draws only. -/
theorem noCaches_mapCpu {s w : State} {f : Cpu → Cpu} (hf : ∀ c, Cpu.noCaches (f c) = f (Cpu.noCaches c))
    (h : State.noCaches w = State.noCaches s) :
    State.noCaches { w with cpu := f w.cpu } = State.noCaches { s with cpu := f s.cpu } := by
  rw [noCaches_iff] at *
  obtain ⟨hcfg, hcpu, hpeers, hshared⟩ := h
  exact ⟨hcfg, (hf _).trans ((congrArg f hcpu).trans (hf _).symm), hpeers, hshared⟩

theorem noCaches_finishX {s w : State} (h : State.noCaches w = State.noCaches s) (r : Reg) (v : Word) :
    State.noCaches (State.finishX w r v) = State.noCaches
      { s with cpu := { s.cpu with regs := (State.finishX w r v).cpu.regs, pc := s.cpu.pc + 4 } } :=
  noCaches_mapCpu (w := w) (f := fun c => { c with regs := (State.finishX w r v).cpu.regs, pc := c.pc + 4 }) (fun _ => rfl) h

/-- The bytes a load reads after quiet changes of the memory system. -/
theorem loadBytes_of_sameBytes {s u : State} (h : sameBytes s u) (pa n : Nat) :
    State.loadBytes u pa n = (List.range n).map fun k => State.loadByte s (pa + k) :=
  List.map_congr_left fun k _ => h (pa + k)

/-- The bytes of a store into the store buffer, as loads see them (20_memory.md R170, R171). -/
theorem loadByte_bufferStore_bytesOf (s : State) (pa n : Nat) (v : Word) :
    (∀ k < n, State.loadByte (State.bufferStore s pa (bytesOf n v)) (pa + k) = v.extractLsb' (8 * k) 8)
      ∧ ∀ b, b < pa ∨ pa + n ≤ b → State.loadByte (State.bufferStore s pa (bytesOf n v)) b = State.loadByte s b := by
  refine ⟨fun k hk => ?_, fun b hb => ?_⟩
  · rw [loadByte_bufferStore, if_pos ⟨by omega, by rw [length_bytesOf]; omega⟩, Nat.add_sub_cancel_left,
      getElem?_bytesOf n k v hk, Option.getD_some]
  · rw [loadByte_bufferStore, if_neg (by rw [length_bytesOf]; omega)]

/-! HW_LD and HW_ST (44_misc_pal.md R755, R756). -/

section Hardware
variable {s w : State} {ra rb : Reg} {quad : Bool} {d : BitVec 12} {e : Exc}

theorem hwRead_of_aligned {n : Nat} {a : Access} {pa : Word} (h : pa.toNat % n = 0) :
    State.hwRead n a pa s = State.physRead n s pa.toNat := if_pos (aligned_iff.2 h)

theorem hwWrite_of_aligned {n : Nat} {a : Access} {pa v : Word} (h : pa.toNat % n = 0) :
    State.hwWrite n a pa v s = State.physWrite n v s pa.toNat := if_pos (aligned_iff.2 h)

theorem hwRead_of_misaligned {n : Nat} {a : Access} {pa : Word} (h : pa.toNat % n ≠ 0) :
    State.hwRead n a pa s = .exc (.mmFault a .align pa) s := if_neg (mt aligned_iff.1 h)

theorem hwWrite_of_misaligned {n : Nat} {a : Access} {pa v : Word} (h : pa.toNat % n ≠ 0) :
    State.hwWrite n a pa v s = .exc (.mmFault a .align pa) s := if_neg (mt aligned_iff.1 h)

theorem exec_hwLd_of_exc (hp : State.inPal s = true)
    (h : State.hwRead (hwSize quad) ⟨.read, ra, 0x1B⟩ (State.hwEa s rb d) s = .exc e w) :
    exec (.hwLd ra rb quad d) s = .next (State.take w e) := (needPal_pos hp _).trans (loadX_of_exc h)

theorem exec_hwLd_of_ok {v : Word} (hp : State.inPal s = true)
    (h : State.hwRead (hwSize quad) ⟨.read, ra, 0x1B⟩ (State.hwEa s rb d) s = .ok v w) :
    exec (.hwLd ra rb quad d) s
      = .next (State.finishX w ra (if quad then v else (v.extractLsb' 0 32).signExtend 64)) := by
  refine (needPal_pos hp _).trans ((loadX_of_ok h).trans ?_)
  rw [← sext32_eq]
  cases quad <;> rfl

theorem exec_hwSt_of_exc (hp : State.inPal s = true)
    (h : State.hwWrite (hwSize quad) ⟨.write, ra, 0x1F⟩ (State.hwEa s rb d) (State.x s ra) s = .exc e w) :
    exec (.hwSt ra rb quad d) s = .next (State.take w e) := (needPal_pos hp _).trans (store_of_exc h)

theorem exec_hwSt_of_ok (hp : State.inPal s = true)
    (h : State.hwWrite (hwSize quad) ⟨.write, ra, 0x1F⟩ (State.hwEa s rb d) (State.x s ra) s = .ok () w) :
    exec (.hwSt ra rb quad d) s = .next (State.advance w) := (needPal_pos hp _).trans (store_of_ok h)

theorem exec_hwRei (hp : State.inPal s = true) : exec .hwRei s = .next (State.returnFromPal s) := needPal_pos hp _

end Hardware

/-- Settles O55: the router by its tests, HW_LD and HW_ST by what the physical access of each target answers. -/
theorem physicalAccessAndReturn : Obligations.PhysicalAccessAndReturn := by
  refine ⟨fun s pa hpair => ⟨route_of_le, fun hlt => ⟨fun r hr => ?_, fun hnone => ⟨fun hram => ?_, fun hram => ?_⟩⟩⟩,
    noCaches_ramErred, fun s ra rb quad d hp => ⟨exec_hwRei hp, fun hal => ⟨fun hram => ⟨?_, ?_, ?_⟩, ?_, ?_⟩⟩⟩
  · obtain ⟨hmem, hstart, hstop⟩ := hr
    exact route_of_region hpair hlt hmem hstart hstop
  · rw [route_of_no_region hlt hnone, if_pos hram]
  · rw [route_of_no_region hlt hnone, if_neg (Nat.not_lt.2 hram)]
    exact ⟨fun hrom => if_pos hrom, fun hrom => if_neg hrom⟩
  · intro herr
    exact exec_hwLd_of_exc hp ((hwRead_of_aligned hal).trans (physRead_of_ram_error hram herr))
  · intro herr
    obtain ⟨w, hread, hw⟩ := physRead_of_ram hram herr
    have hkept := Kept.of_noCaches hw
    refine ⟨_, exec_hwLd_of_ok hp ((hwRead_of_aligned hal).trans hread), wroteX_of_kept hkept ra _, ?_, ?_, ?_⟩
    · rw [finishX_pc, hkept.pc]
    · obtain ⟨-, -, -, hmem, -⟩ := (noCaches_iff s w).1 hw
      exact fun a => sameBytes_of_eq hmem (sb_of_noCaches hw) a
    · exact noCaches_finishX hw ra _
  · refine ⟨_, exec_hwSt_of_ok hp ((hwWrite_of_aligned hal).trans (physWrite_of_ram hram)), rfl,
      loadByte_bufferStore_bytesOf s _ _ _⟩
  · refine readsOutside_of_physRead (fun e w h => exec_hwLd_of_exc hp ((hwRead_of_aligned hal).trans h)) fun v w h => ?_
    have hkept := (quiet_physRead (if quad then 8 else 4) s (State.x s rb + d.signExtend 64).toNat).kept
    rw [h] at hkept
    refine ⟨_, exec_hwLd_of_ok hp ((hwRead_of_aligned hal).trans h), wroteX_of_kept hkept ra _, ?_⟩
    rw [← hkept.pc]
    rfl
  · exact writesOutside_of_physWrite (fun _ e w h => exec_hwSt_of_exc hp ((hwWrite_of_aligned hal).trans h))
      fun _ w h => ⟨_, exec_hwSt_of_ok hp ((hwWrite_of_aligned hal).trans h), rfl⟩

end Sys2Proof.Machine

/-! PROOFS. The locked accesses (20_memory.md R180 to R186; 41_loadstore.md R508, R515). -/

namespace Sys2Proof.Machine

theorem quiet_of_translate {s u : State} {a : Access} {va pa : Word} (h : State.translate s a va = .ok pa u) : Quiet s u := by
  have hq := quiet_translate s a va
  rwa [h] at hq

section Locked
variable {n : Nat} {a : Access} {va v pa : Word} {s u w : State} {e : Exc}

/-! Where a locked access goes: it is never split (20_memory.md R163). -/

theorem placeAligned_of_exc (h : State.translate s a va = .exc e w) : State.placeAligned n a va s = .exc e w := by
  rw [State.placeAligned, h]; rfl

theorem placeAligned_of_aligned (h : State.translate s a va = .ok pa u) (hal : va.toNat % n = 0) :
    State.placeAligned n a va s = .ok pa.toNat u := by
  rw [State.placeAligned, h]
  exact if_pos (aligned_iff.2 hal)

theorem placeAligned_of_misaligned (h : State.translate s a va = .ok pa u) (hal : va.toNat % n ≠ 0) :
    State.placeAligned n a va s = .exc (.mmFault a .align va) u := by
  rw [State.placeAligned, h]
  exact if_neg (mt aligned_iff.1 hal)

/-! The read of LDx_L. -/

/-- The reservation is set on the line of a physical address (20_memory.md R180). -/
def State.reserve (s : State) (pa : Nat) : State :=
  { s with cpu := { s.cpu with lockFlag := true, lockLine := Params.lockLineOf s.cfg pa } }

theorem kept_reserve (s : State) (pa : Nat) : Kept s (State.reserve s pa) := ⟨rfl, rfl, rfl, rfl, rfl, id⟩

theorem memReadLocked_of_place_exc (h : State.placeAligned n a va (State.drainAll s) = .exc e w) :
    State.memReadLocked n a va s = .exc e w := by
  rw [State.memReadLocked, h]; rfl

theorem memReadLocked_of_place {pa : Nat} (h : State.placeAligned n a va (State.drainAll s) = .ok pa u) :
    State.memReadLocked n a va s = Res.bind (State.physRead n u pa) fun v w => .ok v (State.reserve w pa) := by
  rw [State.memReadLocked, h]; rfl

/-! The write of STx_C. -/

/-- The reservation is gone (20_memory.md R183, R184). -/
def State.release (s : State) : State := { s with cpu := { s.cpu with lockFlag := false } }

theorem kept_release (s : State) : Kept s (State.release s) := ⟨rfl, rfl, rfl, rfl, rfl, id⟩

/-- This CPU holds the reservation on the line of a physical address. -/
def State.holds (s : State) (pa : Nat) : Prop :=
  s.cpu.lockFlag = true ∧ s.cpu.lockLine = BitVec.ofNat 64 (pa - pa % 2 ^ s.cfg.lineLog2)

theorem memWriteConditional_of_place_exc (h : State.placeAligned n a va (State.drainAll s) = .exc e w) :
    State.memWriteConditional n a va v s = .exc e w := by
  rw [State.memWriteConditional, h]; rfl

theorem memWriteConditional_of_held {pa : Nat} (h : State.placeAligned n a va (State.drainAll s) = .ok pa u)
    (hheld : State.holds u pa) : State.memWriteConditional n a va v s =
      Res.bind (State.physWriteNow n v u pa) fun _ w => .ok true (State.release w) := by
  obtain ⟨hflag, hline⟩ := hheld
  rw [State.memWriteConditional, h]
  refine if_pos ?_
  rw [hflag, hline, Params.lockLineOf_eq, beq_self_eq_true, Bool.and_self]

theorem memWriteConditional_of_not_held {pa : Nat} (h : State.placeAligned n a va (State.drainAll s) = .ok pa u)
    (hheld : ¬ State.holds u pa) : State.memWriteConditional n a va v s = .ok false (State.release u) := by
  rw [State.memWriteConditional, h]
  refine if_neg fun hc => hheld ?_
  rw [Bool.and_eq_true, beq_iff_eq, Params.lockLineOf_eq] at hc
  exact hc.imp_right Eq.symm

end Locked

/-- A translation after the drain: what it leaves of the state before the drain. -/
structure Drained (s u : State) : Prop where
  quiet : Quiet s u
  sb : u.cpu.sb = []
  mem : u.mem = (State.drainAll s).mem

theorem drained_of_translate {s u : State} {a : Access} {va pa : Word}
    (h : State.translate (State.drainAll s) a va = .ok pa u) : Drained s u where
  quiet := (Quiet.drainAll s).trans (quiet_of_translate h)
  sb := (translate_ok h).sb.trans (sb_drainAll s)
  mem := (translate_ok h).mem

/-- Settles O34: the drain, then the read that `physRead` answers for each target, then the reservation. -/
theorem loadLocked : Obligations.LoadLocked := by
  intro s u ra rb d pa hm ea loads
  have hloads : ∀ (i : Instr) (n : Nat) (op : BitVec 6) (ext : Word → Word),
      exec i s = loadX (State.memReadLocked n ⟨.read, ra, op⟩ (State.ea s rb d)) ext ra s → loads i n op ext := by
    intro i n op ext hi
    refine ⟨fun e w h => hi.trans (loadX_of_exc (memReadLocked_of_place_exc (placeAligned_of_exc h))), fun h hal => ?_⟩
    have hd := drained_of_translate h
    have hplace := memReadLocked_of_place (placeAligned_of_aligned h hal)
    have hexc : ∀ e w, State.physRead n u pa.toNat = .exc e w → exec i s = .next (State.take w e) := fun e w hr =>
      hi.trans (loadX_of_exc (hplace.trans (by rw [hr]; rfl)))
    have hok : ∀ v w, State.physRead n u pa.toNat = .ok v w →
        exec i s = .next (State.finishX (State.reserve w pa.toNat) ra (ext v)) := fun v w hr =>
      hi.trans (loadX_of_ok (hplace.trans (by rw [hr]; rfl)))
    have hline : ∀ w, Kept s w → (State.reserve w pa.toNat).cpu.lockLine
        = BitVec.ofNat 64 (pa.toNat - pa.toNat % 2 ^ s.cfg.lineLog2) := fun w hw => by
      rw [State.reserve, Params.lockLineOf_eq, hw.cfg]
    refine ⟨fun hram herr => hexc _ _ (physRead_of_ram_error ((hd.quiet.kept.route _).trans hram) herr),
      fun hram herr => ?_, readsOutside_of_physRead hexc fun v w hr => ?_⟩
    · obtain ⟨w, hread, hw⟩ := physRead_of_ram ((hd.quiet.kept.route _).trans hram) herr
      rw [loadBytes_of_sameBytes (hd.quiet.bytes hm)] at hread
      have hq : Quiet s w := hd.quiet.trans (Quiet.of_noCaches hw)
      have hkept : Kept s (State.reserve w pa.toNat) := hq.kept.trans (kept_reserve w _)
      exact ⟨_, hok _ _ hread, wroteX_of_kept hkept ra _, congrArg (· + 4) hkept.pc, hq.bytes hm,
        (sb_of_noCaches hw).trans hd.sb, rfl, hline w hq.kept, kept_finishX hkept ra _⟩
    · have hq := quiet_physRead n u pa.toNat
      rw [hr] at hq
      have hkept : Kept s (State.reserve w pa.toNat) := (hd.quiet.trans hq).kept.trans (kept_reserve w _)
      refine ⟨_, hok _ _ hr, wroteX_of_kept hkept ra _, ?_⟩
      rw [← hline w (hd.quiet.trans hq).kept, ← hkept.pc]
      rfl
  have hext : (fun v : Word => (v.extractLsb' 0 32).signExtend 64) = sext32 := funext fun v => (sext32_eq v).symm
  refine ⟨hloads (.ldlL ra rb d) 4 0x2A (fun v => (v.extractLsb' 0 32).signExtend 64) ?_, hloads (.ldqL ra rb d) 8 0x2B id rfl⟩
  rw [hext]
  rfl

/-! STx_C whose address is translated and aligned. -/

section Conditional
variable {n : Nat} {a : Access} {ea pa : Word} {ra : Reg} {s u w : State} {e : Exc}

theorem storeConditional_of_write_exc (h : State.placeAligned n a ea (State.drainAll s) = .ok pa.toNat u)
    (hheld : State.holds u pa.toNat) (hw : State.physWriteNow n (State.x s ra) u pa.toNat = .exc e w) :
    storeConditional n a ea ra s = .next (State.take w e) :=
  storeConditional_of_exc ((memWriteConditional_of_held h hheld).trans (by rw [hw]; rfl))

theorem storeConditional_of_write_ok (h : State.placeAligned n a ea (State.drainAll s) = .ok pa.toNat u)
    (hheld : State.holds u pa.toNat) (hw : State.physWriteNow n (State.x s ra) u pa.toNat = .ok () w) :
    storeConditional n a ea ra s = .next (State.finishX (State.release w) ra 1) :=
  storeConditional_of_ok (done := true) ((memWriteConditional_of_held h hheld).trans (by rw [hw]; rfl))

theorem storeConditional_of_not_held (h : State.placeAligned n a ea (State.drainAll s) = .ok pa.toNat u)
    (hheld : ¬ State.holds u pa.toNat) :
    storeConditional n a ea ra s = .next (State.finishX (State.release u) ra 0) :=
  storeConditional_of_ok (done := false) (memWriteConditional_of_not_held h hheld)

/-- How an instruction ends in state `w` that writes `v` to Ra and gives up the reservation. -/
theorem finishX_release (hkept : Kept s w) (v : Word) : State.finishX (State.release w) ra v
    = { w with cpu := { w.cpu with
        regs := (State.finishX (State.release w) ra v).cpu.regs, pc := s.cpu.pc + 4, lockFlag := false } } := by
  rw [← hkept.pc]
  rfl

/-- The bytes in memory after a store that follows the drain at once. -/
theorem get_completeStore_of_drained (hm : State.memOk s = true) (hd : Drained s u) (n pa : Nat) (v : Word) :
    (∀ k < n, Memory.get (State.completeStore u pa (bytesOf n v)).mem (pa + k) = v.extractLsb' (8 * k) 8)
      ∧ ∀ b, b < pa ∨ pa + n ≤ b →
        Memory.get (State.completeStore u pa (bytesOf n v)).mem b = State.loadByte s b := by
  have hmem : ∀ b, Memory.get (State.completeStore u pa (bytesOf n v)).mem b
      = SbEntry.overlay pa (bytesOf n v) b (State.loadByte s b) := fun b => by
    rw [mem_completeStore, get_setBytes_eq_overlay (hd.quiet.kept.mem hm), hd.mem, get_drainAll s hm]
  refine ⟨fun k hk => ?_, fun b hb => ?_⟩
  · rw [hmem, SbEntry.overlay_of_in (by rwa [length_bytesOf]), getElem?_bytesOf n k _ hk, Option.getD_some]
  · rw [hmem, SbEntry.overlay_of_out (by rwa [length_bytesOf])]

end Conditional

/-- Settles O35: with the reservation `lockFlag_completeStore` and the writes of each target, without it nothing but the flag. -/
theorem storeConditional_spec : Obligations.StoreConditional := by
  intro s u ra rb d pa hm ea stores
  have hstores : ∀ (i : Instr) (n : Nat) (op : BitVec 6), n ≠ 0 →
      exec i s = storeConditional n ⟨.write, ra, op⟩ ea ra s → stores i n op := by
    intro i n op hn hi
    refine ⟨fun e w h => hi.trans (storeConditional_of_exc (memWriteConditional_of_place_exc (placeAligned_of_exc h))),
      fun h hal => ?_⟩
    have hd := drained_of_translate h
    have hcfg := hd.quiet.kept.cfg
    have hplace := placeAligned_of_aligned (n := n) h hal
    intro lineAt held
    have hheld : held ↔ State.holds u pa.toNat := by rw [State.holds, hcfg]; exact Iff.rfl
    refine ⟨fun hc hram => ?_, fun hc => ?_, fun hc => ?_⟩
    · have hram : State.route u pa.toNat = .ram := (hd.quiet.kept.route _).trans hram
      have hkept := hd.quiet.kept.trans (kept_completeStore u pa.toNat (bytesOf n (State.x s ra)))
      have hdone := storeConditional_of_write_ok hplace (hheld.1 hc) (physWriteNow_of_ram (v := State.x s ra) hram)
      have hsb := (sb_completeStore u pa.toNat (bytesOf n (State.x s ra))).trans hd.sb
      have hbytes : bytesOf n (State.x s ra) ≠ [] := List.ne_nil_of_length_pos (by rw [length_bytesOf]; omega)
      obtain ⟨-, hpeers⟩ := lockFlag_completeStore u pa.toNat hbytes
      rw [length_bytesOf, hcfg] at hpeers
      obtain ⟨hin, hout⟩ := get_completeStore_of_drained hm hd n pa.toNat (State.x s ra)
      revert hkept hdone hsb hpeers hin hout
      generalize State.completeStore u pa.toNat (bytesOf n (State.x s ra)) = w
      intro hkept hdone hsb hpeers hin hout
      have hkept' := hkept.trans (kept_release w)
      exact ⟨_, hi.trans hdone, congrArg (· + 4) hkept.pc, rfl, hsb, kept_finishX hkept' ra _, wroteX_of_kept hkept' ra _,
        hin, hout, hpeers⟩
    · refine writesOutside_of_physWrite (fun hout e w hw => hi.trans
        (storeConditional_of_write_exc hplace (hheld.1 hc) ((physWriteNow_of_outside hout).trans hw))) fun hout w hw => ?_
      have hwrite := kept_physWrite n (State.x s ra) u pa.toNat
      rw [hw] at hwrite
      have hkept := hd.quiet.kept.trans hwrite
      exact ⟨_, hi.trans (storeConditional_of_write_ok hplace (hheld.1 hc) ((physWriteNow_of_outside hout).trans hw)),
        wroteX_of_kept (hkept.trans (kept_release w)) ra _, finishX_release hkept 1⟩
    · have hkept := hd.quiet.kept.trans (kept_release u)
      exact ⟨_, hi.trans (storeConditional_of_not_held hplace (mt hheld.2 hc)), wroteX_of_kept hkept ra _,
        hd.quiet.bytes hm, hd.sb, finishX_release hd.quiet.kept 0, kept_finishX hkept ra _⟩
  exact ⟨hstores (.stlC ra rb d) 4 0x2E (by decide) rfl, hstores (.stqC ra rb d) 8 0x2F (by decide) rfl⟩

end Sys2Proof.Machine

/-! PROOFS. Translation: the canonical checks, a TLB hit and its protection checks, the page-table walk, the fill, and a miss as a
whole (20_memory.md R200 to R217). -/

namespace Sys2Proof.Machine

/-! Which accesses are translated, and which addresses can be (20_memory.md R196, R200 to R202). -/

theorem translates_iff {s : State} :
    State.translates s = true ↔ State.inPal s = false ∧ s.cpu.mmuCtl.getLsbD 0 = true := by
  rw [State.translates, Bool.and_eq_true, Bool.not_eq_true']

theorem canonical_iff {va : Word} : canonical va = true ↔ ∀ k, 48 ≤ k → k < 64 → va.getLsbD k = va.getLsbD 47 := by
  rw [canonical, beq_iff_eq]
  have hbit : ∀ k < 64, ((va.setWidth 48).signExtend 64).getLsbD k = if k < 48 then va.getLsbD k else va.getLsbD 47 := by
    intro k hk
    rw [BitVec.getLsbD_signExtend, BitVec.msb_eq_getLsbD_last, BitVec.getLsbD_setWidth, BitVec.getLsbD_setWidth]
    by_cases h : k < 48 <;> simp [h, hk]
  constructor
  · intro h k hlow hhigh
    rw [← hbit k hhigh |>.trans (if_neg (by omega)), h]
  · intro h
    refine BitVec.eq_of_getLsbD_eq fun k hk => ?_
    rw [hbit k hk]
    split
    · rfl
    · exact (h k (by omega) hk).symm

theorem inXlateRange_iff {va : Word} : inXlateRange va = true ↔ ∀ k, 43 ≤ k → k < 48 → va.getLsbD k = va.getLsbD 42 := by
  rw [inXlateRange, beq_iff_eq]
  have hbit : ∀ i < 5, (((va.setWidth 43).signExtend 48).extractLsb' 43 5).getLsbD i = va.getLsbD 42 := by
    intro i hi
    rw [BitVec.getLsbD_extractLsb', BitVec.getLsbD_signExtend, BitVec.msb_eq_getLsbD_last, BitVec.getLsbD_setWidth]
    simp [hi, show 43 + i < 48 by omega]
  have hva : ∀ i < 5, (va.extractLsb' 43 5).getLsbD i = va.getLsbD (43 + i) := by
    intro i hi
    rw [BitVec.getLsbD_extractLsb', decide_eq_true hi, Bool.true_and]
  constructor
  · intro h k hlow hhigh
    have hi : k - 43 < 5 := by omega
    have hbits := congrArg (fun v => v.getLsbD (k - 43)) h
    rw [hbit _ hi, hva _ hi, Nat.add_sub_of_le hlow] at hbits
    exact hbits.symm
  · intro h
    refine BitVec.eq_of_getLsbD_eq fun i hi => ?_
    rw [hbit i hi, hva i hi, h (43 + i) (by omega) (by omega)]

/-- The two checks before any lookup, together: bits 63:43 are copies of bit 42. -/
theorem inRange_iff {va : Word} : (canonical va = true ∧ inXlateRange va = true) ↔
    ∀ k, 43 ≤ k → k < 64 → va.getLsbD k = va.getLsbD 42 := by
  rw [canonical_iff, inXlateRange_iff]
  constructor
  · rintro ⟨hcanonical, hrange⟩ k hlow hhigh
    by_cases hk : k < 48
    · exact hrange k hlow hk
    · exact (hcanonical k (by omega) hhigh).trans (hrange 47 (by omega) (by omega))
  · intro h
    exact ⟨fun k hlow hhigh => (h k (by omega) hhigh).trans (h 47 (by omega) (by omega)).symm,
      fun k hlow hhigh => h k hlow (by omega)⟩

/-! The checks of an entry (20_memory.md R211 to R214). -/

/-- The fault-on bit that an access looks at (20_memory.md R214). -/
def Kind.faultBit (k : Kind) : Nat :=
  match k with
  | .read => 0
  | .write => 1
  | .fetch => 2

/-- The cause of a fault by that bit (20_memory.md R214). -/
def Kind.onCause (k : Kind) : MmCause :=
  match k with
  | .read => .for_
  | .write => .fow
  | .fetch => .foe

theorem TlbEntry.check_eq (e : TlbEntry) (k : Kind) (m : BitVec 2) : TlbEntry.check e k m =
    if (TlbEntry.canRead e m = false ∧ TlbEntry.canWrite e m = false)
        ∨ (if k = .write then TlbEntry.canWrite e m else TlbEntry.canRead e m) = false then some .acv
    else if e.fo.getLsbD k.faultBit = true then some k.onCause else none := by
  unfold TlbEntry.check
  cases k <;> cases TlbEntry.canRead e m <;> cases TlbEntry.canWrite e m <;> rfl

/-- An access that has its TLB entry: checked, then the physical address (20_memory.md R211 to R217). -/
def TlbEntry.access (e : TlbEntry) (a : Access) (va : Word) (s : State) : Res Word :=
  match TlbEntry.check e a.kind (Ps.cm s.cpu.ps) with
  | some c => .exc (.mmFault a c va) s
  | none => .ok (TlbEntry.pa e va) s

theorem TlbEntry.access_eq (e : TlbEntry) (a : Access) (va : Word) (s : State) : TlbEntry.access e a va s =
    if (TlbEntry.canRead e (Ps.cm s.cpu.ps) = false ∧ TlbEntry.canWrite e (Ps.cm s.cpu.ps) = false)
        ∨ (if a.kind = .write then TlbEntry.canWrite e (Ps.cm s.cpu.ps) else TlbEntry.canRead e (Ps.cm s.cpu.ps)) = false
    then .exc (.mmFault a .acv va) s
    else if e.fo.getLsbD a.kind.faultBit = true then .exc (.mmFault a a.kind.onCause va) s
    else .ok (TlbEntry.pa e va) s := by
  rw [TlbEntry.access, TlbEntry.check_eq]
  by_cases hacv : (TlbEntry.canRead e (Ps.cm s.cpu.ps) = false ∧ TlbEntry.canWrite e (Ps.cm s.cpu.ps) = false)
      ∨ (if a.kind = .write then TlbEntry.canWrite e (Ps.cm s.cpu.ps) else TlbEntry.canRead e (Ps.cm s.cpu.ps)) = false
  · rw [if_pos hacv, if_pos hacv]
  · rw [if_neg hacv, if_neg hacv]
    by_cases hon : e.fo.getLsbD a.kind.faultBit = true
    · rw [if_pos hon, if_pos hon]
    · rw [if_neg hon, if_neg hon]

/-! The lookup (20_memory.md R203). -/

theorem TlbEntry.matches_iff {e : TlbEntry} {va : Word} {asn : BitVec 8} : TlbEntry.matches e va asn = true ↔
    va.toNat / 2 ^ e.shift = e.tag ∧ (e.global = true ∨ e.asn = asn) := by
  rw [TlbEntry.matches, Bool.and_eq_true, TlbEntry.maps_iff, Bool.or_eq_true, beq_iff_eq]

theorem Tlb.lookup_of_unique {t : Tlb} {va : Word} {asn : BitVec 8} {e : TlbEntry} (he : e ∈ t.entries)
    (hmatch : TlbEntry.matches e va asn = true) (huniq : ∀ x ∈ t.entries, TlbEntry.matches x va asn = true → x = e) :
    Tlb.lookup t va asn = some e := by
  have hsome : (Tlb.lookup t va asn).isSome := List.find?_isSome.2 ⟨e, he, hmatch⟩
  obtain ⟨x, hx⟩ := Option.isSome_iff_exists.1 hsome
  have hmatches : TlbEntry.matches x va asn = true := List.find?_some (p := fun e => TlbEntry.matches e va asn) hx
  rw [hx, huniq x (List.mem_of_find?_eq_some hx) hmatches]

theorem Tlb.lookup_of_none {t : Tlb} {va : Word} {asn : BitVec 8}
    (h : ∀ e ∈ t.entries, ¬ TlbEntry.matches e va asn = true) : Tlb.lookup t va asn = none :=
  List.find?_eq_none.2 h

theorem Cpu.tlb_eq (c : Cpu) (k : Kind) : Cpu.tlb c k = if k = .fetch then c.itb else c.dtb := by cases k <;> rfl

theorem Cpu.asn_eq (c : Cpu) (k : Kind) : Cpu.asn c k = (if k = .fetch then c.itbAsn else c.dtbAsn).setWidth 8 := by
  cases k <;> rfl

theorem Params.tlbEntries_eq (p : Params) (k : Kind) :
    Params.tlbEntries p k = if k = .fetch then p.itbEntries else p.dtbEntries := by cases k <;> rfl

@[simp] theorem withTlb_ps (s : State) (k : Kind) (t : Tlb) : (State.withTlb s k t).cpu.ps = s.cpu.ps := by cases k <;> rfl
@[simp] theorem withTlb_cfg (s : State) (k : Kind) (t : Tlb) : (State.withTlb s k t).cfg = s.cfg := by cases k <;> rfl
@[simp] theorem withTlb_draws (s : State) (k : Kind) (t : Tlb) : (State.withTlb s k t).draws = s.draws := by
  cases k <;> rfl
@[simp] theorem tlb_withTlb (s : State) (k : Kind) (t : Tlb) : Cpu.tlb (State.withTlb s k t).cpu k = t := by cases k <;> rfl

section Translated
variable {s : State} {a : Access} {va : Word}

theorem translate_of_out_of_range (ht : State.translates s = true)
    (hrange : ¬ (canonical va = true ∧ inXlateRange va = true)) :
    State.translate s a va = .exc (.mmFault a .acv va) s := by
  have hout : (!canonical va || !inXlateRange va) = true := by
    rw [← Bool.not_and, Bool.not_eq_true', Bool.eq_false_iff, ne_eq, Bool.and_eq_true]
    exact hrange
  rw [State.translate, ht, hout]
  rfl

theorem translate_of_in_range (ht : State.translates s = true) (hrange : canonical va = true ∧ inXlateRange va = true) :
    State.translate s a va = Res.bind (State.tlbEntry s a va) fun e s => TlbEntry.access e a va s := by
  rw [State.translate, ht, hrange.1, hrange.2]
  rfl

theorem tlbEntry_of_hit {e : TlbEntry} (h : Tlb.lookup (Cpu.tlb s.cpu a.kind) va (Cpu.asn s.cpu a.kind) = some e) :
    State.tlbEntry s a va = .ok e (State.withTlb s a.kind (Tlb.countHit (Cpu.tlb s.cpu a.kind))) := by
  simp only [State.tlbEntry, h]

theorem tlbEntry_of_miss (h : Tlb.lookup (Cpu.tlb s.cpu a.kind) va (Cpu.asn s.cpu a.kind) = none) :
    State.tlbEntry s a va =
      Res.bind (State.walk (State.withTlb s a.kind (Tlb.countMiss (Cpu.tlb s.cpu a.kind))) a va) fun leaf w =>
        .ok (TlbEntry.ofLeaf w.cfg (Params.tlbEntries w.cfg a.kind) va (Cpu.asn s.cpu a.kind) leaf)
          (State.bump (State.withTlb w a.kind (Tlb.fill w.cfg.tlbWays w.draws (Cpu.tlb w.cpu a.kind)
            (TlbEntry.ofLeaf w.cfg (Params.tlbEntries w.cfg a.kind) va (Cpu.asn s.cpu a.kind) leaf)))) := by
  simp only [State.tlbEntry, h]

end Translated

/-- Settles O59: the checks before the lookup are `inRange_iff`, a unique match is what the lookup finds, and the checks of its
entry are `TlbEntry.access_eq`. -/
theorem translation : Obligations.Translation := by
  intro s a va
  refine ⟨fun h => translate_untranslated ?_ a va, fun hpal hte => ?_⟩
  · rw [Bool.eq_false_iff, ne_eq, translates_iff]
    rintro ⟨hpal, hte⟩
    obtain h | h := h
    · exact absurd (hpal.symm.trans h) (by decide)
    · exact absurd (hte.symm.trans h) (by decide)
  · have ht := translates_iff.2 ⟨hpal, hte⟩
    refine ⟨fun ⟨k, hlow, hhigh, hne⟩ => translate_of_out_of_range ht fun hrange => ?_,
      fun hrange e => ?_⟩
    · exact hne (inRange_iff.1 hrange k hlow hhigh)
    · intro tlb asn m u he htag hasn huniq
      have hlookup : Tlb.lookup (Cpu.tlb s.cpu a.kind) va (Cpu.asn s.cpu a.kind) = some e := by
        rw [Cpu.tlb_eq, Cpu.asn_eq]
        refine Tlb.lookup_of_unique he (TlbEntry.matches_iff.2 ⟨htag, hasn⟩) fun x hx hmatch => ?_
        obtain ⟨hxtag, hxasn⟩ := TlbEntry.matches_iff.1 hmatch
        exact huniq x hx hxtag hxasn
      have hu : u = State.withTlb s a.kind (Tlb.countHit (Cpu.tlb s.cpu a.kind)) := by rw [Cpu.tlb_eq]; rfl
      have hps : u.cpu.ps = s.cpu.ps := withTlb_ps s a.kind _
      rw [translate_of_in_range ht (inRange_iff.2 hrange), tlbEntry_of_hit hlookup, ← hu]
      refine (TlbEntry.access_eq e a va u).trans ?_
      rw [hps]
      rfl

/-! The page-table walk (20_memory.md R205, R206, R208). -/

theorem Pte.page_eq (e : Word) : Pte.page e = e >>> 32 <<< 13 := by
  have hpfn : (e.extractLsb' 32 32).setWidth 64 = e >>> 32 := by
    refine BitVec.eq_of_getLsbD_eq fun k hk => ?_
    rw [BitVec.getLsbD_setWidth, BitVec.getLsbD_extractLsb', BitVec.getLsbD_ushiftRight]
    by_cases h : k < 32
    · simp [h, hk]
    · rw [BitVec.getLsbD_of_ge e (32 + k) (by omega), Bool.and_false, Bool.and_false]
  rw [Pte.page, hpfn]

/-- The state after `n` reads of page tables: a draw for each where the back-end can err (log 18). -/
def State.walked (s : State) (n : Nat) : State := if s.cfg.backendErrs then { s with draws := s.draws + n } else s

theorem walked_zero (s : State) : State.walked s 0 = s := by
  unfold State.walked
  split <;> rfl

/-- The page-table entry at a physical address, as memory holds it. -/
def State.pteAt (s : State) (p : Word) : Word := ofBytes (Memory.getBytes s.mem p.toNat 8)

theorem route_walked (s : State) (n pa : Nat) : State.route (State.walked s n) pa = State.route s pa := by
  unfold State.walked
  split <;> rfl

/-- The back-end's answer for read `n` of a walk. -/
theorem backend_walked (s : State) (n : Nat) (v : Word) : State.backend (State.walked s n) v =
    if s.cfg.backendErrs = true ∧ Config.backendError (s.draws + n) = true then .exc (.mchk 3) (State.walked s (n + 1))
    else .ok v (State.walked s (n + 1)) := by
  unfold State.walked State.backend
  by_cases herrs : s.cfg.backendErrs = true
  · simp only [herrs, if_true, true_and]
    rfl
  · simp only [herrs, if_false, false_and, Bool.false_eq_true]

section Walk
variable {s : State} {n : Nat} {p : Word}

theorem physWalk_of_tooHigh (h : 2 ^ 48 ≤ p.toNat) :
    State.physWalk (State.walked s n) p.toNat = .exc (.mchk 2) (State.walked s n) := by
  rw [State.physWalk, route_of_le h]

theorem physWalk_of_outside (hlow : p.toNat < 2 ^ 48) (h : State.route s p.toNat ≠ .ram) :
    State.physWalk (State.walked s n) p.toNat = .exc (.mchk 4) (State.walked s n) := by
  unfold State.physWalk
  rw [route_walked]
  split
  next hhigh => exact absurd (route_tooHigh_iff.1 hhigh) (Nat.not_le.2 hlow)
  next hram => exact absurd hram h
  all_goals rfl

theorem physWalk_of_ram (h : State.route s p.toNat = .ram) : State.physWalk (State.walked s n) p.toNat =
    if s.cfg.backendErrs = true ∧ Config.backendError (s.draws + n) = true then .exc (.mchk 3) (State.walked s (n + 1))
    else .ok (State.pteAt s p) (State.walked s (n + 1)) := by
  have hmem : (State.walked s n).mem = s.mem := by unfold State.walked; split <;> rfl
  rw [State.physWalk, route_walked, h]
  refine (backend_walked s n _).trans ?_
  rw [hmem]
  rfl

end Walk

/-- What a walk must answer at its table read `n` from address `p`, `o` being its answer and `k` what must hold where the entry
read is valid. -/
def State.levelAnswers (s : State) (a : Access) (va : Word) (o : Res Word) (n : Nat) (p : Word) (k : Word → Prop) : Prop :=
  (2 ^ 48 ≤ p.toNat → o = .exc (.mchk 2) (State.walked s n))
  ∧ (p.toNat < 2 ^ 48 → State.route s p.toNat ≠ .ram → o = .exc (.mchk 4) (State.walked s n))
  ∧ (State.route s p.toNat = .ram →
    (s.cfg.backendErrs = true → Config.backendError (s.draws + n) = true → o = .exc (.mchk 3) (State.walked s (n + 1)))
    ∧ (s.cfg.backendErrs = false ∨ Config.backendError (s.draws + n) = false →
      ((State.pteAt s p).getLsbD 0 = false → o = .exc (.mmFault a .tnv va) (State.walked s (n + 1)))
      ∧ ((State.pteAt s p).getLsbD 0 = true → k (State.pteAt s p))))

/-- One level of a walk (20_memory.md R206): its answer, or the walk goes on with a valid entry. -/
theorem levelAnswers_of_walkLevel {s : State} {a : Access} {va table : Word} {index : BitVec 10} {n : Nat} {o : Res Word}
    {f : Word → State → Res Word} {k : Word → Prop}
    (ho : o = Res.bind (State.walkLevel (State.walked s n) a va table index) f)
    (hk : ∀ pte, o = f pte (State.walked s (n + 1)) → k pte) :
    State.levelAnswers s a va o n (table + 8 * index.setWidth 64) k := by
  rw [State.walkLevel] at ho
  refine ⟨fun hhigh => ?_, fun hlow hout => ?_, fun hram => ⟨fun herrs herr => ?_, fun hanswer => ⟨fun hv => ?_, fun hv => ?_⟩⟩⟩
  · rw [ho, physWalk_of_tooHigh hhigh]
    rfl
  · rw [ho, physWalk_of_outside hlow hout]
    rfl
  · rw [ho, physWalk_of_ram hram, if_pos ⟨herrs, herr⟩]
    rfl
  all_goals
    have hok : ¬ (s.cfg.backendErrs = true ∧ Config.backendError (s.draws + n) = true) := fun h =>
      hanswer.elim (fun hc => Bool.false_ne_true (hc.symm.trans h.1)) fun hc => Bool.false_ne_true (hc.symm.trans h.2)
    rw [physWalk_of_ram hram, if_neg hok] at ho
  · rw [ho]
    simp only [Res.bind, Pte.valid, hv, Bool.false_eq_true, if_false]
  · refine hk _ (ho.trans ?_)
    simp only [Res.bind, Pte.valid, hv, if_true]

theorem Res.bind_ok {α : Type} (r : Res α) : Res.bind r .ok = r := by cases r <;> rfl

/-- THE WALK (20_memory.md R206): three levels. -/
theorem walk_answers (s : State) (a : Access) (va : Word) :
    State.levelAnswers s a va (State.walk s a va) 0
      (((s.cpu.ptbr.extractLsb' 0 35).setWidth 64 <<< 13) + 8 * (va.extractLsb' 33 10).setWidth 64) fun pte1 =>
    State.levelAnswers s a va (State.walk s a va) 1 ((pte1 >>> 32 <<< 13) + 8 * (va.extractLsb' 23 10).setWidth 64)
      fun pte2 =>
    State.levelAnswers s a va (State.walk s a va) 2 ((pte2 >>> 32 <<< 13) + 8 * (va.extractLsb' 13 10).setWidth 64)
      fun leaf => State.walk s a va = .ok leaf (State.walked s 3) := by
  rw [← BitVec.setWidth_eq_extractLsb' (by decide)]
  refine levelAnswers_of_walkLevel (by rw [walked_zero]; rfl) fun pte1 h1 => ?_
  rw [← Pte.page_eq]
  refine levelAnswers_of_walkLevel h1 fun pte2 h2 => ?_
  rw [← Pte.page_eq]
  exact levelAnswers_of_walkLevel (h2.trans (Res.bind_ok _).symm) fun leaf h3 => h3

/-! Only the counter of draws changes in a walk. -/

/-- At most the counter of draws changed. -/
def OnlyDraws (s t : State) : Prop := t = { s with draws := t.draws }

theorem OnlyDraws.trans {s t u : State} (a : OnlyDraws s t) (b : OnlyDraws t u) : OnlyDraws s u := by
  rw [OnlyDraws] at *
  rw [b, a]

theorem onlyDraws_bind {α β : Type} {s : State} {r : Res α} {f : α → State → Res β} (h : OnlyDraws s r.state)
    (hf : ∀ a t, OnlyDraws t (f a t).state) : OnlyDraws s (Res.bind r f).state := by
  cases r with
  | ok a t => exact h.trans (hf a t)
  | exc e t => exact h

theorem onlyDraws_walkLevel (s : State) (a : Access) (va table : Word) (i : BitVec 10) :
    OnlyDraws s (State.walkLevel s a va table i).state := by
  unfold State.walkLevel
  refine onlyDraws_bind ?_ fun pte t => by split <;> rfl
  unfold State.physWalk State.backend
  split
  · rfl
  · split
    · split <;> rfl
    · rfl
  all_goals rfl

theorem onlyDraws_walk (s : State) (a : Access) (va : Word) : OnlyDraws s (State.walk s a va).state := by
  unfold State.walk
  exact onlyDraws_bind (onlyDraws_walkLevel _ _ _ _ _) fun _ _ =>
    onlyDraws_bind (onlyDraws_walkLevel _ _ _ _ _) fun _ _ => onlyDraws_walkLevel _ _ _ _ _

/-! The fill (20_memory.md R203, R209). -/

/-- Two entries that match one access overlap. -/
theorem TlbEntry.overlaps_of_matches {x e : TlbEntry} {va : Word} {asn : BitVec 8} (hx : TlbEntry.matches x va asn = true)
    (he : TlbEntry.matches e va asn = true) : TlbEntry.overlaps x e = true := by
  obtain ⟨hxtag, hxasn⟩ := TlbEntry.matches_iff.1 hx
  obtain ⟨hetag, heasn⟩ := TlbEntry.matches_iff.1 he
  have hround : ∀ {k m : Nat}, k ≤ m → (va.toNat / 2 ^ k) <<< k >>> m = va.toNat >>> m := by
    intro k m hkm
    obtain ⟨d, rfl⟩ := Nat.exists_eq_add_of_le hkm
    rw [Nat.shiftRight_add, Nat.shiftLeft_shiftRight, ← Nat.shiftRight_eq_div_pow, Nat.shiftRight_add]
  have hspace : (x.global || e.global || x.asn == e.asn) = true := by
    rw [Bool.or_eq_true, Bool.or_eq_true, beq_iff_eq]
    obtain h | h := hxasn
    · exact .inl (.inl h)
    · obtain h' | h' := heasn
      · exact .inl (.inr h')
      · exact .inr (h.trans h'.symm)
  rw [TlbEntry.overlaps, Bool.and_eq_true, beq_iff_eq, ← hxtag, ← hetag, hround (le_max_left _ _),
    hround (le_max_right _ _)]
  exact ⟨rfl, hspace⟩

/-- A fill, once: the new entry, and some of those that do not overlap it. -/
theorem Tlb.fill_entries (ways draw : Nat) (t : Tlb) (e : TlbEntry) : ∃ rest, (Tlb.fill ways draw t e).entries = e :: rest
    ∧ rest.Sublist (t.entries.filter fun x => !TlbEntry.overlaps x e) := by
  unfold Tlb.fill
  dsimp only
  split
  · exact ⟨_, rfl, List.Sublist.refl _⟩
  · split
    · exact ⟨_, rfl, List.erase_sublist⟩
    · exact ⟨_, rfl, List.Sublist.refl _⟩

/-- No two entries match one access (20_memory.md R203). -/
def Tlb.NoDoubles (l : List TlbEntry) : Prop :=
  l.Pairwise fun x y => ∀ va asn, ¬ (TlbEntry.matches x va asn = true ∧ TlbEntry.matches y va asn = true)

theorem Tlb.fill_noDoubles (ways draw : Nat) {t : Tlb} (e : TlbEntry) (h : Tlb.NoDoubles t.entries) :
    Tlb.NoDoubles (Tlb.fill ways draw t e).entries := by
  obtain ⟨rest, hrest, hsub⟩ := Tlb.fill_entries ways draw t e
  rw [hrest]
  refine List.pairwise_cons.2 ⟨fun x hx va asn ⟨he, hxm⟩ => ?_, h.sublist (hsub.trans List.filter_sublist)⟩
  have hapart := (List.mem_filter.1 (hsub.subset hx)).2
  rw [TlbEntry.overlaps_of_matches hxm he] at hapart
  exact absurd hapart (by decide)

/-! The entry of a leaf (20_memory.md R207, R209). -/

/-- The page size of a hint: the largest supported one that is not larger (20_memory.md R207). -/
theorem Params.pageLog_spec (p : Params) (n : Nat) : Params.pageLog p n ≤ n
    ∧ (Params.pageLog p n = 0 ∨ Params.hasPage p (Params.pageLog p n) = true)
    ∧ ∀ j ≤ n, (j = 0 ∨ Params.hasPage p j = true) → j ≤ Params.pageLog p n := by
  induction n with
  | zero => exact ⟨le_refl 0, .inl rfl, fun j hj _ => hj⟩
  | succ n ih =>
    obtain ⟨hle, hok, hmax⟩ := ih
    rw [Params.pageLog]
    split
    next hhas => exact ⟨le_refl _, .inr hhas, fun j hj _ => hj⟩
    next hhas =>
      refine ⟨by omega, hok, fun j hj hjok => ?_⟩
      obtain rfl | hlt := Nat.eq_or_lt_of_le hj
      · exact absurd (hjok.resolve_left (by omega)) hhas
      · exact hmax j (by omega) hjok

/-- The supported sizes as a list: 8 KB always, then 64 KB, 512 KB and 4 MB. -/
theorem Params.sizes_iff {p : Params} {j : Nat} :
    [true, p.pageSizes.contains 0x10000, p.pageSizes.contains 0x80000, p.pageSizes.contains 0x400000][j]? = some true ↔
      j < 4 ∧ (j = 0 ∨ Params.hasPage p j = true) := by
  unfold Params.hasPage
  match j with
  | 0 | 1 | 2 | 3 => simp
  | j + 4 => simp

theorem clearLow_eq (v : Word) (k : Nat) : clearLow v k = v &&& ~~~(BitVec.ofNat 64 (2 ^ k - 1)) := by
  refine BitVec.eq_of_getLsbD_eq fun i hi => ?_
  rw [clearLow, BitVec.getLsbD_shiftLeft, BitVec.getLsbD_ushiftRight, BitVec.getLsbD_and, BitVec.getLsbD_not,
    BitVec.getLsbD_ofNat, Nat.testBit_two_pow_sub_one]
  by_cases hk : i < k
  · simp [hi, hk]
  · simp [hi, hk, Nat.add_sub_of_le (Nat.not_lt.1 hk)]

/-- A miss whose walk answers a leaf: the fill, and the access with the leaf's entry (20_memory.md R204). -/
theorem translate_of_miss {s w : State} {a : Access} {va leaf : Word} (ht : State.translates s = true)
    (hrange : canonical va = true ∧ inXlateRange va = true)
    (hmiss : Tlb.lookup (Cpu.tlb s.cpu a.kind) va (Cpu.asn s.cpu a.kind) = none)
    (hwalk : State.walk (State.withTlb s a.kind (Tlb.countMiss (Cpu.tlb s.cpu a.kind))) a va = .ok leaf w) :
    let e := TlbEntry.ofLeaf s.cfg (Params.tlbEntries s.cfg a.kind) va (Cpu.asn s.cpu a.kind) leaf
    let z : State := { State.withTlb w a.kind (Tlb.fill s.cfg.tlbWays w.draws (Tlb.countMiss (Cpu.tlb s.cpu a.kind)) e) with
      draws := w.draws + 1 }
    State.translate s a va = TlbEntry.access e a va z ∧ z.cpu.ps = s.cpu.ps := by
  have hw := onlyDraws_walk (State.withTlb s a.kind (Tlb.countMiss (Cpu.tlb s.cpu a.kind))) a va
  rw [hwalk] at hw
  have hcfg : w.cfg = s.cfg := (congrArg State.cfg hw).trans (withTlb_cfg s a.kind _)
  have htlb : Cpu.tlb w.cpu a.kind = Tlb.countMiss (Cpu.tlb s.cpu a.kind) :=
    (congrArg (fun t : State => Cpu.tlb t.cpu a.kind) hw).trans (tlb_withTlb s a.kind _)
  have hps : w.cpu.ps = s.cpu.ps := (congrArg (fun t : State => t.cpu.ps) hw).trans (withTlb_ps s a.kind _)
  refine ⟨?_, (withTlb_ps w a.kind _).trans hps⟩
  rw [translate_of_in_range ht hrange, tlbEntry_of_miss hmiss, hwalk]
  simp only [Res.bind, hcfg, htlb, State.bump, withTlb_draws]

/-- A miss whose walk faults. -/
theorem translate_of_miss_exc {s w : State} {a : Access} {va : Word} {x : Exc} (ht : State.translates s = true)
    (hrange : canonical va = true ∧ inXlateRange va = true)
    (hmiss : Tlb.lookup (Cpu.tlb s.cpu a.kind) va (Cpu.asn s.cpu a.kind) = none)
    (hwalk : State.walk (State.withTlb s a.kind (Tlb.countMiss (Cpu.tlb s.cpu a.kind))) a va = .exc x w) :
    State.translate s a va = .exc x w := by
  rw [translate_of_in_range ht hrange, tlbEntry_of_miss hmiss, hwalk]
  rfl

/-- Settles O60: the walk is `walk_answers`, the fill `Tlb.fill_entries`, the miss `translate_of_miss` with the fields of
`TlbEntry.ofLeaf`. -/
theorem walkAndFill : Obligations.WalkAndFill := by
  refine ⟨walk_answers, fun t e ways draw => ?_, fun s a va hpal hte hrange => ?_⟩
  · obtain ⟨rest, hrest, hsub⟩ := Tlb.fill_entries ways draw t e
    refine ⟨by rw [hrest]; exact List.mem_cons_self, fun x hx => ?_, Tlb.fill_noDoubles ways draw e⟩
    rw [hrest] at hx
    exact (List.mem_cons.1 hx).imp_right fun hx => (List.mem_filter.1 (hsub.subset hx)).1
  · intro tlb asn entries hmiss counted u
    have ht := translates_iff.2 ⟨hpal, hte⟩
    have hrange := inRange_iff.2 hrange
    have htlb : Cpu.tlb s.cpu a.kind = tlb := Cpu.tlb_eq _ _
    have hasn : Cpu.asn s.cpu a.kind = asn := Cpu.asn_eq _ _
    have hlookup : Tlb.lookup (Cpu.tlb s.cpu a.kind) va (Cpu.asn s.cpu a.kind) = none := by
      rw [htlb, hasn]
      exact Tlb.lookup_of_none fun e he hmatch => hmiss e he (TlbEntry.matches_iff.1 hmatch)
    have hu : u = State.withTlb s a.kind (Tlb.countMiss (Cpu.tlb s.cpu a.kind)) := by rw [htlb]; rfl
    rw [hu]
    refine ⟨fun x w hwalk => translate_of_miss_exc ht hrange hlookup hwalk, fun leaf w hwalk => ?_⟩
    obtain ⟨hle, hok, hmax⟩ := Params.pageLog_spec s.cfg (Pte.gh leaf)
    have hgh : Pte.gh leaf < 4 := (leaf.extractLsb' 5 2).isLt
    obtain ⟨htranslate, hps⟩ := translate_of_miss ht hrange hlookup hwalk
    refine ⟨Params.pageLog s.cfg (Pte.gh leaf),
      TlbEntry.ofLeaf s.cfg (Params.tlbEntries s.cfg a.kind) va (Cpu.asn s.cpu a.kind) leaf, hle,
      Params.sizes_iff.2 ⟨by omega, hok⟩, fun j hj hjok => hmax j hj (Params.sizes_iff.1 hjok).2, rfl,
      Nat.shiftRight_eq_div_pow _ _, hasn, rfl, ?_, rfl, rfl, ?_, ?_⟩
    · exact (clearLow_eq _ _).trans (by rw [Pte.page_eq]; rfl)
    · exact congrArg₂ (· % ·) (Nat.shiftRight_eq_div_pow _ _) (by rw [Params.tlbEntries_eq])
    · refine htranslate.trans ((TlbEntry.access_eq _ a va _).trans ?_)
      rw [hps, htlb]
      rfl

end Sys2Proof.Machine

/-! PROOFS. The boundary step of a CPU (60_exceptions.md R822, R830 to R832, R850 to R855) and the scheduler's choice of an action
(70_reset_and_hazards.md R930). -/

namespace Sys2Proof.Machine

/-! The requests above an IPL, and the one that is taken (60_exceptions.md R831, R832). -/

theorem mem_irqAbove {ipl : BitVec 5} {irq : List Irq} {q : Irq} :
    q ∈ irqAbove ipl irq ↔ q ∈ irq ∧ ipl.toNat < q.ipl.toNat := by
  rw [irqAbove, List.mem_filter, decide_eq_true_eq]

theorem irqSorted_irqAbove {ipl : BitVec 5} {irq : List Irq} (h : irqSorted irq = true) :
    irqSorted (irqAbove ipl irq) = true := irqSorted_iff.2 ((irqSorted_iff.1 h).sublist List.filter_sublist)

theorem highestIrq_cons_isSome (q : Irq) (qs : List Irq) : (highestIrq (q :: qs)).isSome = true := by
  rw [highestIrq]
  split <;> rfl

theorem highestIrq_isSome_iff {l : List Irq} : (highestIrq l).isSome = true ↔ ∃ q, q ∈ l := by
  cases l with
  | nil => simp [highestIrq]
  | cons q qs => exact iff_of_true (highestIrq_cons_isSome q qs) ⟨q, List.mem_cons_self⟩

theorem mem_of_highestIrq {l : List Irq} {q : Irq} (h : highestIrq l = some q) : q ∈ l := by
  induction l with
  | nil => cases h
  | cons p ps ih =>
    cases hrest : highestIrq ps with
    | none =>
      simp only [highestIrq, hrest, Option.some.injEq] at h
      exact h ▸ List.mem_cons_self
    | some r =>
      simp only [highestIrq, hrest, Option.some.injEq] at h
      split at h
      · exact List.mem_cons_of_mem p (ih (h ▸ hrest))
      · exact h ▸ List.mem_cons_self

/-- The request of the highest IPL, and of several the one with the smallest vector (60_exceptions.md R832). -/
theorem highestIrq_eq_some {l : List Irq} {q : Irq} (hsorted : irqSorted l = true) (hq : q ∈ l)
    (hmax : ∀ r ∈ l, r.ipl.toNat < q.ipl.toNat ∨ r.ipl = q.ipl ∧ q.vector.toNat ≤ r.vector.toNat) :
    highestIrq l = some q := by
  induction l with
  | nil => exact absurd hq List.not_mem_nil
  | cons p ps ih =>
    rw [irqSorted_iff] at hsorted ih
    obtain ⟨hp, hps⟩ := List.pairwise_cons.1 hsorted
    obtain ⟨hpmax, hpsmax⟩ := List.forall_mem_cons.1 hmax
    obtain rfl | hq := List.mem_cons.1 hq
    · cases hrest : highestIrq ps with
      | none => simp only [highestIrq, hrest]
      | some r =>
        have hle : ¬ q.ipl.toNat < r.ipl.toNat := by
          have hr : r ∈ ps := mem_of_highestIrq hrest
          obtain h | ⟨h, -⟩ := hpsmax r hr
          · exact Nat.lt_asymm h
          · rw [h]
            exact Nat.lt_irrefl _
        simp only [highestIrq, hrest, hle, if_false]
    · have hlt : p.ipl.toNat < q.ipl.toNat := hpmax.resolve_right fun ⟨_, hv⟩ => absurd (hp q hq) (Nat.not_lt.2 hv)
      simp only [highestIrq, ih hps hq hpsmax, hlt, if_true]

/-- The CPU takes interrupts, and a request is above its IPL (60_exceptions.md R831). -/
def State.due (s : State) : Prop :=
  State.inPal s = false ∧ s.cpu.ps.getLsbD 6 = true ∧ ∃ q ∈ s.cpu.irq, (s.cpu.ps.extractLsb' 8 5).toNat < q.ipl.toNat

theorem dueInterrupt_of_enabled {s : State} (hpal : State.inPal s = false) (hie : s.cpu.ps.getLsbD 6 = true) :
    State.dueInterrupt s = highestIrq (irqAbove (Ps.ipl s.cpu.ps) s.cpu.irq) := by
  rw [State.dueInterrupt, hpal, Ps.ie, hie]
  rfl

theorem dueInterrupt_isSome_iff {s : State} : (State.dueInterrupt s).isSome = true ↔ State.due s := by
  by_cases hon : State.inPal s = false ∧ s.cpu.ps.getLsbD 6 = true
  · obtain ⟨hpal, hie⟩ := hon
    rw [dueInterrupt_of_enabled hpal hie, highestIrq_isSome_iff]
    simp only [mem_irqAbove]
    exact ⟨fun h => ⟨hpal, hie, h⟩, fun ⟨_, _, h⟩ => h⟩
  · have hoff : (State.inPal s || !Ps.ie s.cpu.ps) = true := by
      rw [Bool.or_eq_true, Bool.not_eq_true', Ps.ie, Bool.eq_false_iff (b := s.cpu.ps.getLsbD 6)]
      by_contra h
      rw [not_or, not_not, Bool.not_eq_true] at h
      exact hon h
    have hnone : State.dueInterrupt s = none := by rw [State.dueInterrupt, hoff]; rfl
    rw [hnone]
    exact iff_of_false (by decide) fun ⟨hpal, hie, _⟩ => hon ⟨hpal, hie⟩

theorem dueInterrupt_of_not_due {s : State} (h : ¬ State.due s) : State.dueInterrupt s = none := by
  rw [← Option.not_isSome_iff_eq_none, dueInterrupt_isSome_iff]
  exact h

theorem wakes_iff {s : State} :
    State.wakes s = true ↔ ∃ q ∈ s.cpu.irq, (s.cpu.ps.extractLsb' 8 5).toNat < q.ipl.toNat := by
  rw [State.wakes, Bool.not_eq_true', List.isEmpty_eq_false_iff_exists_mem]
  simp only [mem_irqAbove]
  rfl

/-! Steps 4 to 6 of 60_exceptions.md R855. -/

section Deliver
variable {s : State}

theorem deliverOrRun_of_pend_due (hp : s.cpu.pend.valid = true) (h : Config.trapDeliverNow s.draws = true ∨ State.due s) :
    deliverOrRun s = .next (State.deliverArith (State.bump s)) := by
  have hdue : (Config.trapDeliverNow s.draws || (State.dueInterrupt s).isSome) = true := by
    rw [Bool.or_eq_true, dueInterrupt_isSome_iff]
    exact h
  simp only [deliverOrRun, hp, hdue, Bool.and_self, if_true]

theorem deliverOrRun_of_pend_not_due (hp : s.cpu.pend.valid = true) (hnow : Config.trapDeliverNow s.draws = false)
    (hdue : ¬ State.due s) : deliverOrRun s = fetchExecute (State.bump s) := by
  have hnone := dueInterrupt_of_not_due hdue
  have hnone' : State.dueInterrupt (State.bump s) = none := dueInterrupt_of_not_due hdue
  simp only [deliverOrRun, hp, hnow, hnone, hnone', Option.isSome_none, Bool.or_self, Bool.and_false, if_true, if_false,
    Bool.false_eq_true]

theorem deliverOrRun_of_not_due (hp : s.cpu.pend.valid = false) (hdue : ¬ State.due s) : deliverOrRun s = fetchExecute s := by
  simp only [deliverOrRun, hp, dueInterrupt_of_not_due hdue, Bool.false_and, if_false, Bool.false_eq_true]

theorem deliverOrRun_of_interrupt {q : Irq} (hp : s.cpu.pend.valid = false) (hq : State.dueInterrupt s = some q) :
    deliverOrRun s = .next (State.takeInterrupt s q) := by
  simp only [deliverOrRun, hp, hq, Bool.false_and, if_false, Bool.false_eq_true]

end Deliver

/-- A PAL entry: its registers, and otherwise changes of the memory system (60_exceptions.md R830). -/
theorem kept_enterPal (s : State) (saved target : Word) : Kept { s with cpu := { s.cpu with
      excAddr := saved, excPs := s.cpu.ps, ps := s.cpu.ps ||| psPalm, pc := target } } (State.enterPal s saved target) where
  cfg := (entered_enterPal s saved target).cfg
  regions := (entered_enterPal s saved target).regions
  cpu := core_enterPal s saved target
  peers := peers_enterPal s saved target
  rom := (entered_enterPal s saved target).rom
  mem := memOk_enterPal s saved target

theorem palEntryExc_linear_interrupt (base : Word) : palEntryExc .linear base .interrupt = base + 0x10C0 := rfl

theorem palEntryExc_openEv6_interrupt (base : Word) : palEntryExc .openEv6 base .interrupt = base + 0x680 := rfl

/-! The boundary, case by case. -/

section Boundary
variable {s : State}

theorem boundary_of_halted (hh : s.cpu.halted = true) :
    boundary s = .next { s with cpu := { s.cpu with haltReq := false } } := if_pos hh

theorem boundary_of_haltReq (hh : s.cpu.halted = false) (hr : s.cpu.haltReq = true) : boundary s =
    .next (State.tick { s with cpu := { s.cpu with halted := true, sleeping := false, haltReq := false } }) := by
  simp only [boundary, hh, hr, if_true, if_false, Bool.false_eq_true]

theorem boundary_of_asleep (hh : s.cpu.halted = false) (hr : s.cpu.haltReq = false) (hs : s.cpu.sleeping = true)
    (hw : State.wakes s = false) : boundary s = .next (State.tick s) := by
  simp only [boundary, hh, hr, hs, hw, Bool.not_false, Bool.and_self, if_true, if_false, Bool.false_eq_true]

/-- A CPU that is awake or wakes. -/
theorem boundary_of_awake (hh : s.cpu.halted = false) (hr : s.cpu.haltReq = false)
    (hw : s.cpu.sleeping = false ∨ State.wakes s = true) : boundary s =
      tickAfter (deliverOrRun (State.consumeTbi { s with cpu := { s.cpu with sleeping := false } })) := by
  have hawake : (s.cpu.sleeping && !State.wakes s) = false := by
    obtain hw | hw := hw <;> simp [hw]
  simp only [boundary, hh, hr, hawake, if_false, Bool.false_eq_true]

/-- What is already so changes nothing. -/
theorem eq_of_awake (h : s.cpu.sleeping = false) : { s with cpu := { s.cpu with sleeping := false } } = s := by
  rw [← h]

theorem eq_of_not_haltReq (h : s.cpu.haltReq = false) : { s with cpu := { s.cpu with haltReq := false } } = s := by
  rw [← h]

theorem consumeTbi_of_empty (h : s.cpu.tbiIn = []) : State.consumeTbi s = s := if_pos h

/-- Some of the oldest commands of the inbox are applied (20_memory.md R226). -/
theorem consumeTbi_of_ne (h : s.cpu.tbiIn ≠ []) : ∃ k, State.consumeTbi s = { s with
    cpu := { (s.cpu.tbiIn.take k).foldl Cpu.tbi s.cpu with tbiIn := s.cpu.tbiIn.drop k }, draws := s.draws + 1 } :=
  ⟨Config.tbiConsume s.draws, if_neg h⟩

end Boundary

/-! The scheduler (70_reset_and_hazards.md R930). -/

section Choice
variable {s : State}

theorem step_of_choose {u : State} {c : Choice} (h : State.choose s = (u, c)) : step s = perform u c := by
  rw [step, stepOne, h]

/-- The drain that the scheduler draws, or the boundary step where it is not eligible. -/
theorem step_of_drawn_drain {k : Nat} (h : State.alone s = false) (hk : Config.schedule s.draws = .drain k) :
    step s = perform (State.focus (State.bump s) (Config.scheduleCpu s.draws)) (.drain k) := by
  rw [State.alone] at h
  generalize hu : State.focus (State.bump s) (Config.scheduleCpu s.draws) = u
  have hchoose : State.choose s = (u, if (State.drainOne u k).isSome then .drain k else .boundary) := by
    simp only [State.choose, h, hk, hu, Bool.false_eq_true, if_false]
  rw [step_of_choose hchoose]
  cases hd : State.drainOne u k with
  | none => exact (perform_drain_of_none hd).symm
  | some t => rfl

/-- The consumption of the inbox that the scheduler draws, or the boundary step where the inbox is empty. -/
theorem step_of_drawn_consume {u : State} (hu : State.focus (State.bump s) (Config.scheduleCpu s.draws) = u)
    (h : State.alone s = false) (hc : Config.schedule s.draws = .consume) :
    step s = if u.cpu.tbiIn = [] then boundary u else perform u .consume := by
  rw [State.alone] at h
  have hchoose : State.choose s = (u, if u.cpu.tbiIn.isEmpty then .boundary else .consume) := by
    simp only [State.choose, h, hc, hu, Bool.false_eq_true, if_false]
  rw [step_of_choose hchoose]
  cases u.cpu.tbiIn with
  | nil => rfl
  | cons c cs => rfl

theorem step_of_drawn_boundary (h : State.alone s = false) (hb : Config.schedule s.draws = .boundary) :
    step s = boundary (State.focus (State.bump s) (Config.scheduleCpu s.draws)) := by
  rw [State.alone] at h
  refine step_of_choose (c := .boundary) ?_
  simp only [State.choose, h, hb, Bool.false_eq_true, if_false]

end Choice

/-- An interrupt taken at the boundary (60_exceptions.md R830 to R832). -/
theorem deliverOrRun_takes {s : State} {q : Irq} (hq : q ∈ s.cpu.irq) (hp : s.cpu.pend.valid = false)
    (hm : State.memOk s = true) (hsorted : irqSorted s.cpu.irq = true) (hpal : State.inPal s = false)
    (hie : s.cpu.ps.getLsbD 6 = true) (hipl : (s.cpu.ps.extractLsb' 8 5).toNat < q.ipl.toNat)
    (hmax : ∀ r ∈ s.cpu.irq, r.ipl.toNat < q.ipl.toNat ∨ r.ipl = q.ipl ∧ q.vector.toNat ≤ r.vector.toNat) :
    ∃ t, deliverOrRun s = .next t ∧ t.cpu.lockFlag = false ∧ t.cpu.sb = [] ∧ sameBytes s t
      ∧ Kept { s with cpu := { s.cpu with
          intid := q.vector.setWidth 64, irq := s.cpu.irq.erase q, excAddr := s.cpu.pc, excPs := s.cpu.ps,
          ps := s.cpu.ps ||| psPalm, pc := palEntryExc s.cfg.palScheme s.cpu.palBase .interrupt } } t := by
  have hdue : State.dueInterrupt s = some q := by
    rw [dueInterrupt_of_enabled hpal hie]
    exact highestIrq_eq_some (irqSorted_irqAbove hsorted) (mem_irqAbove.2 ⟨hq, hipl⟩) fun r hr =>
      hmax r (mem_irqAbove.1 hr).1
  exact ⟨_, deliverOrRun_of_interrupt hp hdue, lockFlag_enterPal _ _ _, sb_enterPal _ _ _,
    (entered_takeInterrupt s q).bytes hm,
    kept_enterPal { s with cpu := { s.cpu with intid := q.vector.setWidth 64, irq := s.cpu.irq.erase q } } _ _⟩

/-- Settles O58: each case of the boundary by its lemma, each action of the scheduler by what `State.choose` answers. -/
theorem boundaries : Obligations.Boundaries := by
  refine ⟨fun s => step_alone, fun s hr => ?_, fun s hr hh => ?_, fun s hr hh hs => ⟨fun hlow => ?_, fun hhigh => ?_⟩,
    fun s halone => ?_, fun s => rfl, fun s hr hh hs => ?_⟩
  · cases hh : s.cpu.halted with
    | true => exact ⟨_, boundary_of_halted hh, hh, rfl, rfl, rfl, rfl⟩
    | false => exact ⟨_, boundary_of_haltReq hh hr, rfl, rfl, rfl, rfl, rfl⟩
  · rw [boundary_of_halted hh, eq_of_not_haltReq hr]
  · refine boundary_of_asleep hh hr hs (Bool.eq_false_iff.2 fun hw => ?_)
    obtain ⟨q, hq, hlt⟩ := wakes_iff.1 hw
    exact absurd hlt (Nat.not_lt.2 (hlow q hq))
  · rw [boundary_of_awake hh hr (.inr (wakes_iff.2 hhigh))]
    exact (boundary_of_awake (s := { s with cpu := { s.cpu with sleeping := false } }) hh hr (.inl rfl)).symm
  · exact ⟨fun k => step_of_drawn_drain halone, step_of_drawn_consume rfl halone, step_of_drawn_boundary halone⟩
  · intro due
    have hawake := boundary_of_awake hh hr (.inl hs)
    rw [eq_of_awake hs] at hawake
    refine ⟨fun hne => ?_, fun he => ?_, fun hp => ⟨deliverOrRun_of_pend_due hp, deliverOrRun_of_pend_not_due hp⟩,
      deliverOrRun_of_not_due, fun q hq hp hm hsorted hpal hie hipl hmax => ?_⟩
    · obtain ⟨k, hk⟩ := consumeTbi_of_ne hne
      exact ⟨k, hawake.trans (by rw [hk])⟩
    · rw [hawake, consumeTbi_of_empty he]
    · obtain ⟨t, ht, hlock, hsb, hbytes, hkept⟩ := deliverOrRun_takes hq hp hm hsorted hpal hie hipl hmax
      refine ⟨t, ht, hlock, hsb, hbytes, ?_⟩
      cases hscheme : s.cfg.palScheme with
      | linear =>
        rw [hscheme, palEntryExc_linear_interrupt] at hkept
        exact hkept
      | openEv6 =>
        rw [hscheme, palEntryExc_openEv6_interrupt] at hkept
        exact hkept

end Sys2Proof.Machine

/-! PROOFS. Misaligned accesses (20_memory.md R160 to R164): where the alignment fault is raised, and what an access does that is made
byte by byte. The bytes are numbered: byte `j` is translated in the state that byte `j - 1` left, and read or written so. -/

namespace Sys2Proof.Machine

/-- A relation that holds from each state of a sequence to the next holds from the first to any. -/
theorem rel_of_chain {R : State → State → Prop} (hrefl : ∀ s, R s s) (htrans : ∀ {s t u}, R s t → R t u → R s u)
    {w : Nat → State} {n : Nat} (h : ∀ j < n, R (w j) (w (j + 1))) : R (w 0) (w n) := by
  induction n with
  | zero => exact hrefl _
  | succ n ih => exact htrans (ih fun j hj => h j (by omega)) (h n (by omega))

/-! The ordinary loads and stores: each is one `MemRead` or one `MemWrite`. -/

/-- The instruction reads `n` bytes at `ea` and ends as `fin` says. -/
def loadsBy (i : Instr) (s : State) (n : Nat) (a : Access) (ea : Word) (fin : Word → State → State) : Prop :=
  exec i s = Res.run (Res.bind (State.memRead n a ea s) fun v w => .ok () (fin v w))

/-- The instruction writes the low `n` bytes of `v` at `ea`. -/
def storesBy (i : Instr) (s : State) (n : Nat) (a : Access) (ea v : Word) : Prop :=
  exec i s = store (State.memWrite n a ea v) s

section Ordinary
variable {i : Instr} {s w : State} {n : Nat} {a : Access} {ea v : Word} {fin : Word → State → State} {e : Exc}

theorem loadsBy.exc (h : loadsBy i s n a ea fin) (hr : State.memRead n a ea s = .exc e w) :
    exec i s = .next (State.take w e) := by
  rw [loadsBy, hr] at h
  exact h

theorem loadsBy.ok (h : loadsBy i s n a ea fin) (hr : State.memRead n a ea s = .ok v w) :
    exec i s = .next (fin v w) := by
  rw [loadsBy, hr] at h
  exact h

theorem memRead_of_place_exc (h : State.place n a ea s = .exc e w) : State.memRead n a ea s = .exc e w := by
  rw [State.memRead, h]
  rfl

theorem memWrite_of_place_exc (h : State.place n a ea s = .exc e w) : State.memWrite n a ea v s = .exc e w := by
  rw [State.memWrite, h]
  rfl

end Ordinary

section Instructions
variable {s : State} {ra rb : Reg} {d : BitVec 16}

theorem loadsBy_ldwu (h : State.has s .bwx = true) : loadsBy (.ldwu ra rb d) s 2 ⟨.read, ra, 0x0C⟩ (State.ea s rb d)
    fun v w => State.finishX w ra v := needExt_pos h _
theorem loadsBy_ldl : loadsBy (.ldl ra rb d) s 4 ⟨.read, ra, 0x28⟩ (State.ea s rb d)
    fun v w => State.finishX w ra (sext32 v) := rfl
theorem loadsBy_ldq : loadsBy (.ldq ra rb d) s 8 ⟨.read, ra, 0x29⟩ (State.ea s rb d)
    fun v w => State.finishX w ra v := rfl
theorem loadsBy_ldf (h : State.fen s = true) : loadsBy (.ldf ra rb d) s 4 ⟨.read, ra, 0x20⟩ (State.ea s rb d)
    fun v w => State.finishF w ra (fMemToReg v) := needFen_pos h _
theorem loadsBy_ldg (h : State.fen s = true) : loadsBy (.ldg ra rb d) s 8 ⟨.read, ra, 0x21⟩ (State.ea s rb d)
    fun v w => State.finishF w ra (gMemToReg v) := needFen_pos h _
theorem loadsBy_lds (h : State.fen s = true) : loadsBy (.lds ra rb d) s 4 ⟨.read, ra, 0x22⟩ (State.ea s rb d)
    fun v w => State.finishF w ra (sMemToReg v) := needFen_pos h _
theorem loadsBy_ldt (h : State.fen s = true) : loadsBy (.ldt ra rb d) s 8 ⟨.read, ra, 0x23⟩ (State.ea s rb d)
    fun v w => State.finishF w ra v := needFen_pos h _

theorem storesBy_stw (h : State.has s .bwx = true) :
    storesBy (.stw ra rb d) s 2 ⟨.write, ra, 0x0D⟩ (State.ea s rb d) (State.x s ra) := needExt_pos h _
theorem storesBy_stl : storesBy (.stl ra rb d) s 4 ⟨.write, ra, 0x2C⟩ (State.ea s rb d) (State.x s ra) := rfl
theorem storesBy_stq : storesBy (.stq ra rb d) s 8 ⟨.write, ra, 0x2D⟩ (State.ea s rb d) (State.x s ra) := rfl
theorem storesBy_stf (h : State.fen s = true) :
    storesBy (.stf ra rb d) s 4 ⟨.write, ra, 0x24⟩ (State.ea s rb d) (fRegToMem (State.f s ra)) := needFen_pos h _
theorem storesBy_stg (h : State.fen s = true) :
    storesBy (.stg ra rb d) s 8 ⟨.write, ra, 0x25⟩ (State.ea s rb d) (gRegToMem (State.f s ra)) := needFen_pos h _
theorem storesBy_sts (h : State.fen s = true) :
    storesBy (.sts ra rb d) s 4 ⟨.write, ra, 0x26⟩ (State.ea s rb d) (sRegToMem (State.f s ra)) := needFen_pos h _
theorem storesBy_stt (h : State.fen s = true) :
    storesBy (.stt ra rb d) s 8 ⟨.write, ra, 0x27⟩ (State.ea s rb d) (State.f s ra) := needFen_pos h _

end Instructions

/-- The ordinary loads and stores of more than one byte, with the size, the kind and the opcode of their access. -/
def ordinaryAccesses (ra rb : Reg) (d : BitVec 16) : List (Instr × Nat × Kind × BitVec 6) :=
  [(.ldwu ra rb d, 2, .read, 0x0C), (.ldl ra rb d, 4, .read, 0x28), (.ldq ra rb d, 8, .read, 0x29),
    (.ldf ra rb d, 4, .read, 0x20), (.ldg ra rb d, 8, .read, 0x21), (.lds ra rb d, 4, .read, 0x22),
    (.ldt ra rb d, 8, .read, 0x23), (.stw ra rb d, 2, .write, 0x0D), (.stl ra rb d, 4, .write, 0x2C),
    (.stq ra rb d, 8, .write, 0x2D), (.stf ra rb d, 4, .write, 0x24), (.stg ra rb d, 8, .write, 0x25),
    (.sts ra rb d, 4, .write, 0x26), (.stt ra rb d, 8, .write, 0x27)]

/-- Each of them, enabled, is a load or a store of its access. -/
theorem load_or_store_of_mem {s : State} {ra rb : Reg} {d : BitVec 16} {f : Instr × Nat × Kind × BitVec 6}
    (hf : f ∈ ordinaryAccesses ra rb d) (hext : ∀ e, f.1.extension = some e → State.has s e = true)
    (hfen : f.1.isFloat = true → State.fen s = true) :
    (∃ fin, loadsBy f.1 s f.2.1 ⟨f.2.2.1, ra, f.2.2.2⟩ (State.ea s rb d) fin)
      ∨ ∃ v, storesBy f.1 s f.2.1 ⟨f.2.2.1, ra, f.2.2.2⟩ (State.ea s rb d) v := by
  simp only [ordinaryAccesses, List.mem_cons, List.not_mem_nil, or_false] at hf
  obtain rfl | rfl | rfl | rfl | rfl | rfl | rfl | rfl | rfl | rfl | rfl | rfl | rfl | rfl := hf
  · exact .inl ⟨_, loadsBy_ldwu (hext .bwx rfl)⟩
  · exact .inl ⟨_, loadsBy_ldl⟩
  · exact .inl ⟨_, loadsBy_ldq⟩
  · exact .inl ⟨_, loadsBy_ldf (hfen rfl)⟩
  · exact .inl ⟨_, loadsBy_ldg (hfen rfl)⟩
  · exact .inl ⟨_, loadsBy_lds (hfen rfl)⟩
  · exact .inl ⟨_, loadsBy_ldt (hfen rfl)⟩
  · exact .inr ⟨_, storesBy_stw (hext .bwx rfl)⟩
  · exact .inr ⟨_, storesBy_stl⟩
  · exact .inr ⟨_, storesBy_stq⟩
  · exact .inr ⟨_, storesBy_stf (hfen rfl)⟩
  · exact .inr ⟨_, storesBy_stg (hfen rfl)⟩
  · exact .inr ⟨_, storesBy_sts (hfen rfl)⟩
  · exact .inr ⟨_, storesBy_stt (hfen rfl)⟩

/-- Where placing the access raises an exception, the instruction takes it. -/
theorem exec_of_place_exc {s w : State} {ra rb : Reg} {d : BitVec 16} {f : Instr × Nat × Kind × BitVec 6} {e : Exc}
    (hf : f ∈ ordinaryAccesses ra rb d) (hext : ∀ e, f.1.extension = some e → State.has s e = true)
    (hfen : f.1.isFloat = true → State.fen s = true)
    (h : State.place f.2.1 ⟨f.2.2.1, ra, f.2.2.2⟩ (State.ea s rb d) s = .exc e w) :
    exec f.1 s = .next (State.take w e) := by
  obtain ⟨fin, hload⟩ | ⟨v, hstore⟩ := load_or_store_of_mem hf hext hfen
  · exact hload.exc (memRead_of_place_exc h)
  · exact hstore.trans (store_of_exc (memWrite_of_place_exc h))

/-! The translation of the bytes (20_memory.md R161). -/

section Translations
variable {s w : State} {n : Nat} {a : Access} {va : Word} {pa : Nat → Word} {u : Nat → State} {e : Exc}

/-- The address of byte `j + 1` from `va` is that of byte `j` from `va + 1`. -/
theorem add_ofNat_succ (va : Word) (j : Nat) : va + BitVec.ofNat 64 (j + 1) = va + 1 + BitVec.ofNat 64 j := by
  rw [BitVec.add_assoc, BitVec.ofNat_add, BitVec.add_comm (BitVec.ofNat 64 j)]
  rfl

theorem translateEach_of_ok (hstart : u 0 = s)
    (h : ∀ j < n, State.translate (u j) a (va + BitVec.ofNat 64 j) = .ok (pa j) (u (j + 1))) :
    State.translateEach a va n s = .ok ((List.range n).map fun j => (pa j).toNat) (u n) := by
  induction n generalizing va s pa u with
  | zero => exact congrArg _ hstart.symm
  | succ n ih =>
    have hfirst := h 0 (by omega)
    rw [hstart, BitVec.add_zero] at hfirst
    have hrest := ih (va := va + 1) (pa := fun j => pa (j + 1)) (u := fun j => u (j + 1)) rfl fun j hj => by
      rw [← add_ofNat_succ]
      exact h (j + 1) (by omega)
    rw [State.translateEach, hfirst, List.range_succ_eq_map]
    simp only [Res.bind, hrest, List.map_cons, List.map_map]
    rfl

theorem translateEach_of_exc {j : Nat} (hj : j < n) (hstart : u 0 = s)
    (h : ∀ k < j, State.translate (u k) a (va + BitVec.ofNat 64 k) = .ok (pa k) (u (k + 1)))
    (hexc : State.translate (u j) a (va + BitVec.ofNat 64 j) = .exc e w) : State.translateEach a va n s = .exc e w := by
  induction j generalizing n va s pa u with
  | zero =>
    obtain ⟨m, rfl⟩ := Nat.exists_eq_add_of_lt hj
    rw [hstart, BitVec.add_zero] at hexc
    rw [Nat.zero_add, State.translateEach, hexc]
    rfl
  | succ j ih =>
    obtain ⟨m, rfl⟩ := Nat.exists_eq_succ_of_ne_zero (Nat.ne_zero_of_lt hj)
    have hfirst := h 0 (by omega)
    rw [hstart, BitVec.add_zero] at hfirst
    have hrest := ih (n := m) (va := va + 1) (pa := fun j => pa (j + 1)) (u := fun j => u (j + 1)) (by omega) rfl
      (fun k hk => by rw [← add_ofNat_succ]; exact h (k + 1) (by omega)) (by rw [← add_ofNat_succ]; exact hexc)
    rw [State.translateEach, hfirst]
    simp only [Res.bind, hrest]

theorem place_of_translate_exc (h : State.translate s a va = .exc e w) : State.place n a va s = .exc e w := by
  rw [State.place, h]
  rfl

theorem toMmio_iff {pa : Nat} : State.toMmio s pa = true ↔ ∃ r, State.route s pa = .mmio r := by
  unfold State.toMmio
  split
  next r h => exact iff_of_true rfl ⟨r, h⟩
  all_goals
    rename_i h
    exact iff_of_false (by decide) fun ⟨r, hr⟩ => by cases hr.symm.trans h

/-- The alignment fault (20_memory.md R161, R164). -/
theorem place_of_misaligned {p : Word} (h : State.translate s a va = .ok p w) (hmis : va.toNat % n ≠ 0)
    (hfault : s.cfg.strictAlignment = true ∨ ∃ r, State.route s p.toNat = .mmio r) :
    State.place n a va s = .exc (.mmFault a .align va) w := by
  have hkept := (quiet_of_translate h).kept
  have hcond : (w.cfg.strictAlignment || State.toMmio w p.toNat) = true := by
    rw [Bool.or_eq_true, toMmio_iff, hkept.cfg, hkept.route]
    exact hfault
  rw [State.place, h]
  simp only [Res.bind, aligned_eq_false_iff.2 hmis, hcond, Bool.false_eq_true, if_false, if_true]

/-- A misaligned access is made byte by byte where it is tolerated and its first byte is in no region (20_memory.md R161). -/
theorem place_of_split {p : Word} (h : State.translate s a va = .ok p w) (hmis : va.toNat % n ≠ 0) (hn : 0 < n)
    (htolerate : s.cfg.strictAlignment = false) (hfirst : ∀ r, State.route s p.toNat ≠ .mmio r) :
    State.place n a va s = Res.bind (State.translateEach a va n s) fun pas w => .ok (.split pas) w := by
  have hkept := (quiet_of_translate h).kept
  have hcond : (w.cfg.strictAlignment || State.toMmio w p.toNat) = false := by
    rw [Bool.or_eq_false_iff, hkept.cfg, Bool.eq_false_iff (b := State.toMmio w p.toNat), ne_eq, toMmio_iff]
    exact ⟨htolerate, fun ⟨r, hr⟩ => hfirst r ((hkept.route _).symm.trans hr)⟩
  obtain ⟨m, rfl⟩ := Nat.exists_eq_succ_of_ne_zero (Nat.ne_of_gt hn)
  rw [State.place, State.translateEach, h]
  simp only [Res.bind, aligned_eq_false_iff.2 hmis, hcond, Bool.false_eq_true, if_false, Nat.succ_sub_one]
  cases State.translateEach a (va + 1) m w <;> rfl

/-- A fault of any byte's translation is the access's (20_memory.md R161). -/
theorem place_of_byte_exc {j : Nat} (hmis : va.toNat % n ≠ 0) (htolerate : s.cfg.strictAlignment = false) (hj : j < n)
    (hstart : u 0 = s) (h : ∀ k < j, State.translate (u k) a (va + BitVec.ofNat 64 k) = .ok (pa k) (u (k + 1)))
    (hexc : State.translate (u j) a (va + BitVec.ofNat 64 j) = .exc e w)
    (hfirst : 0 < j → ∀ r, State.route s (pa 0).toNat ≠ .mmio r) : State.place n a va s = .exc e w := by
  obtain rfl | hpos := Nat.eq_zero_or_pos j
  · rw [hstart, BitVec.add_zero] at hexc
    exact place_of_translate_exc hexc
  · have hzero := h 0 hpos
    rw [hstart, BitVec.add_zero] at hzero
    rw [place_of_split hzero hmis (by omega) htolerate (hfirst hpos), translateEach_of_exc hj hstart h hexc]
    rfl

end Translations

/-- A misaligned access of `n` bytes at `ea` that is made byte by byte: byte `j` is found at `pa j`, and its translation leaves
`u (j + 1)`. -/
structure SplitAt (s : State) (n : Nat) (a : Access) (ea : Word) (pa : Nat → Word) (u : Nat → State) : Prop where
  pos : 0 < n
  misaligned : ea.toNat % n ≠ 0
  tolerate : s.cfg.strictAlignment = false
  first : ∀ r, State.route s (pa 0).toNat ≠ .mmio r
  start : u 0 = s
  found : ∀ j < n, State.translate (u j) a (ea + BitVec.ofNat 64 j) = .ok (pa j) (u (j + 1))

/-! Reading and writing the bytes. -/

section Bytes
variable {s z : State} {n k : Nat} {p : Nat → Nat} {b : Nat → Byte} {w : Nat → State} {v : Word} {e : Exc}

theorem readEach_of_ok (hread : ∀ j < n, State.physRead 1 (w j) (p j) = .ok ((b j).setWidth 64) (w (j + 1))) :
    State.readEach ((List.range n).map p) (w 0) = .ok (ofBytes ((List.range n).map b)) (w n) := by
  induction n generalizing p b w with
  | zero => rfl
  | succ n ih =>
    have hrest := ih (p := fun j => p (j + 1)) (b := fun j => b (j + 1)) (w := fun j => w (j + 1))
      fun j hj => hread (j + 1) (by omega)
    rw [List.range_succ_eq_map, List.map_cons, List.map_cons, List.map_map, List.map_map, State.readEach,
      hread 0 (by omega)]
    exact congrArg (fun r : Res Word => Res.bind r fun v s => .ok ((v <<< 8) ||| (b 0).setWidth 64) s) hrest

theorem readEach_of_exc (hk : k < n)
    (hread : ∀ j < k, State.physRead 1 (w j) (p j) = .ok ((b j).setWidth 64) (w (j + 1)))
    (hexc : State.physRead 1 (w k) (p k) = .exc e z) : State.readEach ((List.range n).map p) (w 0) = .exc e z := by
  induction k generalizing n p b w with
  | zero =>
    obtain ⟨m, rfl⟩ := Nat.exists_eq_succ_of_ne_zero (Nat.ne_zero_of_lt hk)
    rw [List.range_succ_eq_map, List.map_cons, State.readEach, hexc]
    rfl
  | succ k ih =>
    obtain ⟨m, rfl⟩ := Nat.exists_eq_succ_of_ne_zero (Nat.ne_zero_of_lt hk)
    have hrest := ih (n := m) (p := fun j => p (j + 1)) (b := fun j => b (j + 1)) (w := fun j => w (j + 1)) (by omega)
      (fun j hj => hread (j + 1) (by omega)) hexc
    rw [List.range_succ_eq_map, List.map_cons, List.map_map, State.readEach, hread 0 (by omega)]
    exact congrArg (fun r : Res Word => Res.bind r fun v s => .ok ((v <<< 8) ||| (b 0).setWidth 64) s) hrest

theorem shiftRight_succ_byte (v : Word) (j : Nat) : v >>> (8 * (j + 1)) = v >>> 8 >>> (8 * j) := by
  rw [← BitVec.shiftRight_add]
  congr 1
  omega

theorem writeEach_of_ok (hwrite : ∀ j < n, State.physWrite 1 (v >>> (8 * j)) (w j) (p j) = .ok () (w (j + 1))) :
    State.writeEach ((List.range n).map p) v (w 0) = .ok () (w n) := by
  induction n generalizing p v w with
  | zero => rfl
  | succ n ih =>
    have hrest := ih (p := fun j => p (j + 1)) (v := v >>> 8) (w := fun j => w (j + 1)) fun j hj => by
      rw [← shiftRight_succ_byte]
      exact hwrite (j + 1) (by omega)
    have hzero : State.physWrite 1 v (w 0) (p 0) = .ok () (w 1) := hwrite 0 (by omega)
    rw [List.range_succ_eq_map, List.map_cons, List.map_map, State.writeEach, hzero]
    exact hrest

theorem writeEach_of_exc (hk : k < n)
    (hwrite : ∀ j < k, State.physWrite 1 (v >>> (8 * j)) (w j) (p j) = .ok () (w (j + 1)))
    (hexc : State.physWrite 1 (v >>> (8 * k)) (w k) (p k) = .exc e z) :
    State.writeEach ((List.range n).map p) v (w 0) = .exc e z := by
  induction k generalizing n p v w with
  | zero =>
    obtain ⟨m, rfl⟩ := Nat.exists_eq_succ_of_ne_zero (Nat.ne_zero_of_lt hk)
    have hzero : State.physWrite 1 v (w 0) (p 0) = .exc e z := hexc
    rw [List.range_succ_eq_map, List.map_cons, State.writeEach, hzero]
    rfl
  | succ k ih =>
    obtain ⟨m, rfl⟩ := Nat.exists_eq_succ_of_ne_zero (Nat.ne_zero_of_lt hk)
    have hrest := ih (n := m) (p := fun j => p (j + 1)) (v := v >>> 8) (w := fun j => w (j + 1)) (by omega)
      (fun j hj => by rw [← shiftRight_succ_byte]; exact hwrite (j + 1) (by omega))
      (by rw [← shiftRight_succ_byte]; exact hexc)
    have hzero : State.physWrite 1 v (w 0) (p 0) = .ok () (w 1) := hwrite 0 (by omega)
    rw [List.range_succ_eq_map, List.map_cons, List.map_map, State.writeEach, hzero]
    exact hrest

end Bytes

/-! The machine check that a byte of a split store raises whatever the devices answer (20_memory.md R242, R244, R245). -/

/-- Its cause. -/
def State.certainCheck (s : State) (pa : Nat) : Option (BitVec 8) :=
  match State.route s pa with
  | .tooHigh => some 2
  | .rom | .unmapped => if s.cfg.mmioStrict then some 1 else none
  | .mmio _ | .ram => none

/-- The check of the model gives the cause, and the store buffer is drained for ROM. -/
theorem writeCheck_eq (s : State) (pa : Nat) : State.writeCheck s pa =
    (State.certainCheck s pa).map fun c => (c, if State.route s pa = .rom then State.drainAll s else s) := by
  unfold State.writeCheck State.certainCheck
  cases State.route s pa <;> cases s.cfg.mmioStrict <;> rfl

theorem Kept.certainCheck {s t : State} (h : Kept s t) (pa : Nat) : State.certainCheck t pa = State.certainCheck s pa := by
  rw [State.certainCheck, State.certainCheck, h.route, h.cfg]

/-- The first element of a numbered list for which `f` answers. -/
theorem findSome?_range_of_first {α β : Type} {n k : Nat} {p : Nat → α} {f : α → Option β} {c : β} (hk : k < n)
    (hbefore : ∀ j < k, f (p j) = none) (hc : f (p k) = some c) : ((List.range n).map p).findSome? f = some c := by
  rw [List.findSome?_map, List.findSome?_eq_some_iff]
  refine ⟨List.range k, k, (List.range (n - k - 1)).map (k + 1 + ·), ?_, hc, fun j hj => hbefore j (List.mem_range.1 hj)⟩
  rw [← List.singleton_append, ← List.append_assoc, ← List.range_succ, ← List.range_add]
  congr 1
  omega

theorem findSome?_range_of_none {α β : Type} {n : Nat} {p : Nat → α} {f : α → Option β}
    (h : ∀ j < n, f (p j) = none) : ((List.range n).map p).findSome? f = none := by
  rw [List.findSome?_map, List.findSome?_eq_none_iff]
  exact fun j hj => h j (List.mem_range.1 hj)

/-! RAM. -/

theorem ofBytes_singleton (b : Byte) : ofBytes [b] = b.setWidth 64 := by simp [ofBytes]

/-- A read of one byte of RAM. -/
theorem physRead_byte_of_ram {s : State} {pa : Nat} (h : State.route s pa = .ram)
    (herr : State.ramErrs .data s pa 1 = false) : ∃ t, State.physRead 1 s pa = .ok ((State.loadByte s pa).setWidth 64) t
      ∧ State.noCaches t = State.noCaches s := by
  rw [← ofBytes_singleton]
  exact physRead_of_ram h herr

theorem loadByte_of_noCaches {s t : State} (h : State.noCaches t = State.noCaches s) (a : Nat) :
    State.loadByte t a = State.loadByte s a := by
  obtain ⟨-, -, -, hmem, -⟩ := (noCaches_iff s t).1 h
  rw [State.loadByte, State.loadByte, hmem, sb_of_noCaches h]

theorem readEach_of_ram {s : State} {pas : List Nat} (herrs : s.cfg.backendErrs = false)
    (hram : ∀ pa ∈ pas, State.route s pa = .ram) : ∃ t,
      State.readEach pas s = .ok (ofBytes (pas.map (State.loadByte s))) t ∧ State.noCaches t = State.noCaches s := by
  induction pas generalizing s with
  | nil => exact ⟨s, rfl, rfl⟩
  | cons pa pas ih =>
    obtain ⟨hpa, hpas⟩ := List.forall_mem_cons.1 hram
    have hok : State.ramErrs .data s pa 1 = false := by rw [State.ramErrs, herrs, Bool.false_and]
    obtain ⟨t, ht, hst⟩ := physRead_byte_of_ram hpa hok
    have hkept := Kept.of_noCaches hst
    obtain ⟨z, hz, htz⟩ := ih (s := t) (by rw [hkept.cfg, herrs]) fun q hq => (hkept.route q).trans (hpas q hq)
    refine ⟨z, ?_, htz.trans hst⟩
    rw [List.map_congr_left fun q _ => loadByte_of_noCaches hst q] at hz
    rw [State.readEach, ht]
    exact congrArg (fun r : Res Word => Res.bind r fun v w => .ok ((v <<< 8) ||| (State.loadByte s pa).setWidth 64) w) hz

theorem bytesOf_one (v : Word) (j : Nat) : bytesOf 1 (v >>> (8 * j)) = [v.extractLsb' (8 * j) 8] := by
  refine congrArg (fun b : Byte => [b]) (BitVec.eq_of_getLsbD_eq fun i hi => ?_)
  rw [BitVec.getLsbD_extractLsb', BitVec.getLsbD_extractLsb', BitVec.getLsbD_ushiftRight]
  simp [hi]

/-- Single-byte stores, the least significant byte first, as store-buffer entries (20_memory.md R161, R170). -/
def byteStores (p : Nat → Nat) (v : Word) (n : Nat) : List SbEntry :=
  (List.range n).map fun j => .store (p j) [v.extractLsb' (8 * j) 8]

theorem byteStores_succ (p : Nat → Nat) (v : Word) (n : Nat) :
    byteStores p v (n + 1) = byteStores p v n ++ [.store (p n) [v.extractLsb' (8 * n) 8]] := by
  rw [byteStores, List.range_succ, List.map_append]
  rfl

/-- A state with more entries at the end of the store buffer. -/
def State.buffer (s : State) (es : List SbEntry) : State := { s with cpu := { s.cpu with sb := s.cpu.sb ++ es } }

theorem writeEach_of_ram {s : State} {p : Nat → Nat} {v : Word} {n : Nat} (hram : ∀ j < n, State.route s (p j) = .ram) :
    State.writeEach ((List.range n).map p) v s = .ok () (State.buffer s (byteStores p v n)) := by
  have hzero : State.buffer s (byteStores p v 0) = s := by
    rw [State.buffer, byteStores, List.range_zero, List.map_nil, List.append_nil]
  have hchain := writeEach_of_ok (n := n) (p := p) (v := v) (w := fun j => State.buffer s (byteStores p v j))
    fun j hj => by
      have hroute : State.route (State.buffer s (byteStores p v j)) (p j) = .ram := hram j hj
      refine (physWrite_of_ram hroute).trans ?_
      rw [bytesOf_one, byteStores_succ]
      simp only [State.buffer, State.bufferStore, List.append_assoc]
  rwa [hzero] at hchain

/-- What loads see of single-byte stores: nothing elsewhere, and each byte where the places differ (20_memory.md R171). -/
theorem forward_byteStores {es : List SbEntry} {p : Nat → Nat} {v : Word} (n a : Nat) (m : Byte) :
    ((∀ j < n, a ≠ p j) → SbEntry.forward (es ++ byteStores p v n) a m = SbEntry.forward es a m)
    ∧ ((∀ j < n, ∀ k < n, p j = p k → j = k) → ∀ j < n, a = p j →
      SbEntry.forward (es ++ byteStores p v n) a m = v.extractLsb' (8 * j) 8) := by
  induction n with
  | zero =>
    rw [byteStores, List.range_zero, List.map_nil, List.append_nil]
    exact ⟨fun _ => rfl, fun _ j hj => absurd hj (Nat.not_lt_zero j)⟩
  | succ n ih =>
    obtain ⟨hout, hin⟩ := ih
    have hlast : SbEntry.forward (es ++ byteStores p v (n + 1)) a m
        = if a = p n then v.extractLsb' (8 * n) 8 else SbEntry.forward (es ++ byteStores p v n) a m := by
      rw [byteStores_succ, ← List.append_assoc]
      refine (forward_append _ _ _ a m).trans ?_
      by_cases ha : a = p n
      · rw [if_pos ⟨ha.ge, by rw [List.length_singleton]; omega⟩, if_pos ha, ha, Nat.sub_self]
        rfl
      · rw [if_neg (by rw [List.length_singleton]; omega), if_neg ha]
    rw [hlast]
    refine ⟨fun hne => ?_, fun hinj j hj haj => ?_⟩
    · rw [if_neg (hne n (by omega)), hout fun j hj => hne j (by omega)]
    · by_cases hjn : j = n
      · rw [if_pos (hjn ▸ haj), hjn]
      · have hne : a ≠ p n := fun h => hjn (hinj j hj n (by omega) (haj.symm.trans h))
        rw [if_neg hne]
        exact hin (fun j hj k hk => hinj j (by omega) k (by omega)) j (by omega) haj

/-! The split access as a whole. -/

namespace SplitAt

variable {s z : State} {n k : Nat} {a : Access} {ea v : Word} {pa : Nat → Word} {u w : Nat → State} {b : Nat → Byte} {e : Exc}

theorem place (h : SplitAt s n a ea pa u) :
    State.place n a ea s = .ok (.split ((List.range n).map fun j => (pa j).toNat)) (u n) := by
  have hzero := h.found 0 h.pos
  rw [h.start, BitVec.add_zero] at hzero
  rw [place_of_split hzero h.misaligned h.pos h.tolerate h.first, translateEach_of_ok h.start h.found]
  rfl

theorem onlyTlb (h : SplitAt s n a ea pa u) : OnlyTlb a.kind s (u n) := by
  have hchain := rel_of_chain (OnlyTlb.refl a.kind) OnlyTlb.trans fun j hj => translate_ok (h.found j hj)
  rwa [h.start] at hchain

theorem quiet (h : SplitAt s n a ea pa u) : Quiet s (u n) := by
  have hchain := rel_of_chain Quiet.refl Quiet.trans fun j hj => quiet_of_translate (h.found j hj)
  rwa [h.start] at hchain

theorem memRead_eq (h : SplitAt s n a ea pa u) :
    State.memRead n a ea s = State.readEach ((List.range n).map fun j => (pa j).toNat) (u n) := by
  rw [State.memRead, h.place]
  rfl

theorem memWrite_of_certain {c : BitVec 8} (h : SplitAt s n a ea pa u) (hk : k < n)
    (hbefore : ∀ j < k, State.certainCheck s (pa j).toNat = none) (hc : State.certainCheck s (pa k).toNat = some c) :
    State.memWrite n a ea v s
      = .exc (.mchk c) (if State.route s (pa k).toNat = .rom then State.drainAll (u n) else u n) := by
  have hkept := h.quiet.kept
  have hfind : ((List.range n).map fun j => (pa j).toNat).findSome? (State.writeCheck (u n))
      = some (c, if State.route s (pa k).toNat = .rom then State.drainAll (u n) else u n) := by
    refine findSome?_range_of_first hk (fun j hj => ?_) ?_
    · rw [writeCheck_eq, hkept.certainCheck, hbefore j hj, Option.map_none]
    · rw [writeCheck_eq, hkept.certainCheck, hc, hkept.route, Option.map_some]
  rw [State.memWrite, h.place]
  simp only [Res.bind, hfind]

theorem no_writeCheck (h : SplitAt s n a ea pa u) (hnone : ∀ j < n, State.certainCheck s (pa j).toNat = none) :
    ((List.range n).map fun j => (pa j).toNat).findSome? (State.writeCheck (u n)) = none :=
  findSome?_range_of_none fun j hj => by
    rw [writeCheck_eq, h.quiet.kept.certainCheck, hnone j hj, Option.map_none]

theorem memWrite_of_ok (h : SplitAt s n a ea pa u) (hnone : ∀ j < n, State.certainCheck s (pa j).toNat = none)
    (hw : State.writeEach ((List.range n).map fun j => (pa j).toNat) v (u n) = .ok () z) :
    State.memWrite n a ea v s = .ok () z := by
  rw [State.memWrite, h.place]
  simp only [Res.bind, h.no_writeCheck hnone, hw]

theorem memWrite_of_exc (h : SplitAt s n a ea pa u) (hnone : ∀ j < n, State.certainCheck s (pa j).toNat = none)
    (hw : State.writeEach ((List.range n).map fun j => (pa j).toNat) v (u n) = .exc e z) :
    State.memWrite n a ea v s = .exc e { State.drainAll (u n) with mmioLog := z.mmioLog, draws := z.draws } := by
  rw [State.memWrite, h.place]
  simp only [Res.bind, h.no_writeCheck hnone, hw]

/-- With all bytes in RAM, a load reads what loads of the bytes read. -/
theorem memRead_of_ram (h : SplitAt s n a ea pa u) (hk : a.kind ≠ .fetch) (herrs : s.cfg.backendErrs = false)
    (hram : ∀ j < n, State.route s (pa j).toNat = .ram) : ∃ t, State.memRead n a ea s
      = .ok (ofBytes ((List.range n).map fun j => State.loadByte s (pa j).toNat)) t ∧ Quiet s t
      ∧ State.noCaches t = State.noCaches { s with cpu := { s.cpu with dtb := (u n).cpu.dtb } } := by
  have honly := h.onlyTlb
  obtain ⟨t, ht, hnc⟩ := readEach_of_ram (s := u n) (pas := (List.range n).map fun j => (pa j).toNat)
    (by rw [honly.cfg, herrs]) fun q hq => by
      obtain ⟨j, hj, rfl⟩ := List.mem_map.1 hq
      rw [honly.route]
      exact hram j (List.mem_range.1 hj)
  refine ⟨t, ?_, h.quiet.trans (Quiet.of_noCaches hnc), hnc.trans (honly.noCaches_data hk)⟩
  rw [h.memRead_eq, ht, List.map_map]
  exact congrArg (fun l => Res.ok (ofBytes l) t) (List.map_congr_left fun j _ => honly.loadByte _)

/-- With all bytes in RAM, a store buffers them one by one. -/
theorem memWrite_of_ram (h : SplitAt s n a ea pa u) (hram : ∀ j < n, State.route s (pa j).toNat = .ram) :
    State.memWrite n a ea v s = .ok () (State.buffer (u n) (byteStores (fun j => (pa j).toNat) v n)) := by
  refine h.memWrite_of_ok (fun j hj => ?_) (writeEach_of_ram fun j hj => (h.quiet.kept.route _).trans (hram j hj))
  rw [State.certainCheck, hram j hj]

end SplitAt

/-! How the loads and stores end. -/

theorem wroteF_of_kept {s w : State} (h : Kept s w) (r : Reg) (v : Word) : wroteF s (State.finishF w r v) r v := by
  intro q
  rw [f_finishF, h.f]
  by_cases hq : q = r
  · subst hq
    by_cases h31 : q = 31
    · subst h31
      rw [if_pos rfl, if_pos rfl, if_neg (fun h => h.2 rfl), f_r31]
    · rw [if_pos rfl, if_neg h31, if_pos ⟨rfl, h31⟩]
  · rw [if_neg hq, if_neg (fun h => hq h.1)]

theorem finishX_eq_of_kept {s w : State} (h : Kept s w) (r : Reg) (v : Word) : State.finishX w r v
    = { w with cpu := { w.cpu with regs := (State.finishX w r v).cpu.regs, pc := s.cpu.pc + 4 } } := by
  rw [← h.pc]
  rfl

theorem finishF_eq_of_kept {s w : State} (h : Kept s w) (r : Reg) (v : Word) : State.finishF w r v
    = { w with cpu := { w.cpu with fregs := (State.finishF w r v).cpu.fregs, pc := s.cpu.pc + 4 } } := by
  rw [← h.pc]
  rfl

theorem noCaches_finishF {s w : State} (h : State.noCaches w = State.noCaches s) (r : Reg) (v : Word) :
    State.noCaches (State.finishF w r v) = State.noCaches
      { s with cpu := { s.cpu with fregs := (State.finishF w r v).cpu.fregs, pc := s.cpu.pc + 4 } } :=
  noCaches_mapCpu (w := w) (f := fun c => { c with fregs := (State.finishF w r v).cpu.fregs, pc := c.pc + 4 })
    (fun _ => rfl) h

/-- A store that has been buffered byte by byte. -/
theorem noCaches_advance_buffer {s w : State} (h : State.noCaches w = State.noCaches s) (es : List SbEntry) :
    State.noCaches (State.advance (State.buffer w es)) = State.noCaches
      { s with cpu := { s.cpu with pc := s.cpu.pc + 4, sb := w.cpu.sb ++ es } } :=
  noCaches_mapCpu (w := w) (f := fun c => { c with pc := c.pc + 4, sb := w.cpu.sb ++ es }) (fun _ => rfl) h

/-! The parts of O33. -/

/-- Every ordinary access: the alignment fault, and the fault of any byte's translation. -/
theorem exec_of_misaligned {s : State} {ra rb : Reg} {d : BitVec 16} {f : Instr × Nat × Kind × BitVec 6}
    (hf : f ∈ ordinaryAccesses ra rb d) (hext : ∀ e, f.1.extension = some e → State.has s e = true)
    (hfen : f.1.isFloat = true → State.fen s = true) (hmis : (State.ea s rb d).toNat % f.2.1 ≠ 0) :
    (∀ (pa : Word) (u : State), State.translate s ⟨f.2.2.1, ra, f.2.2.2⟩ (State.ea s rb d) = .ok pa u →
      s.cfg.strictAlignment = true ∨ (∃ r, State.route s pa.toNat = .mmio r) →
      exec f.1 s = .next (State.take u (.mmFault ⟨f.2.2.1, ra, f.2.2.2⟩ .align (State.ea s rb d))))
    ∧ ∀ (j : Nat) (pa : Nat → Word) (u : Nat → State) (e : Exc) (w : State), s.cfg.strictAlignment = false → j < f.2.1 →
      u 0 = s → (∀ k < j, State.translate (u k) ⟨f.2.2.1, ra, f.2.2.2⟩ (State.ea s rb d + BitVec.ofNat 64 k)
        = .ok (pa k) (u (k + 1))) →
      State.translate (u j) ⟨f.2.2.1, ra, f.2.2.2⟩ (State.ea s rb d + BitVec.ofNat 64 j) = .exc e w →
      (0 < j → ∀ r, State.route s (pa 0).toNat ≠ .mmio r) → exec f.1 s = .next (State.take w e) :=
  ⟨fun _ _ h hfault => exec_of_place_exc hf hext hfen (place_of_misaligned h hmis hfault),
    fun _ _ _ _ _ htolerate hj hstart h hexc hfirst =>
      exec_of_place_exc hf hext hfen (place_of_byte_exc hmis htolerate hj hstart h hexc hfirst)⟩

/-- A split load of RAM, whatever register it writes. -/
theorem loadsBy.split_of_ram {i : Instr} {s : State} {n : Nat} {ra : Reg} {op : BitVec 6} {ea : Word} {pa : Nat → Word}
    {u : Nat → State} {fin : Word → State → State} (hi : loadsBy i s n ⟨.read, ra, op⟩ ea fin)
    (hsplit : SplitAt s n ⟨.read, ra, op⟩ ea pa u) (herrs : s.cfg.backendErrs = false)
    (hram : ∀ j < n, State.route s (pa j).toNat = .ram) : ∃ w,
      exec i s = .next (fin (ofBytes ((List.range n).map fun j => State.loadByte s (pa j).toNat)) w) ∧ Quiet s w
      ∧ State.noCaches w = State.noCaches { s with cpu := { s.cpu with dtb := (u n).cpu.dtb } } := by
  obtain ⟨w, hread, hquiet, hnc⟩ := hsplit.memRead_of_ram (fun h => by cases h) herrs hram
  exact ⟨w, hi.ok hread, hquiet, hnc⟩

/-- A split store to RAM (20_memory.md R161, R170, R171). -/
theorem storesBy.split_of_ram {i : Instr} {s : State} {n : Nat} {ra : Reg} {op : BitVec 6} {ea v : Word} {pa : Nat → Word}
    {u : Nat → State} (hi : storesBy i s n ⟨.write, ra, op⟩ ea v) (hsplit : SplitAt s n ⟨.write, ra, op⟩ ea pa u)
    (hram : ∀ j < n, State.route s (pa j).toNat = .ram) :
    ∃ t, exec i s = .next t
      ∧ t.cpu.sb = s.cpu.sb ++ (List.range n).map (fun j => .store (pa j).toNat [v.extractLsb' (8 * j) 8])
      ∧ State.noCaches t = State.noCaches
        { s with cpu := { s.cpu with pc := s.cpu.pc + 4, dtb := (u n).cpu.dtb, sb := t.cpu.sb } }
      ∧ (∀ b, (∀ j < n, b ≠ (pa j).toNat) → State.loadByte t b = State.loadByte s b)
      ∧ ((∀ j < n, ∀ k < n, (pa j).toNat = (pa k).toNat → j = k) →
        ∀ j < n, State.loadByte t (pa j).toNat = v.extractLsb' (8 * j) 8) := by
  have honly := hsplit.onlyTlb
  have hload : ∀ b, State.loadByte (State.advance (State.buffer (u n) (byteStores (fun j => (pa j).toNat) v n))) b
      = SbEntry.forward (s.cpu.sb ++ byteStores (fun j => (pa j).toNat) v n) b (Memory.get s.mem b) := fun b => by
    rw [← honly.sb, ← honly.mem]
    rfl
  refine ⟨_, hi.trans (store_of_ok (hsplit.memWrite_of_ram hram)), congrArg (· ++ _) honly.sb,
    noCaches_advance_buffer (honly.noCaches_data fun h => by cases h) _, fun b hb => ?_, fun hinj j hj => ?_⟩
  · obtain ⟨hout, -⟩ := forward_byteStores (es := s.cpu.sb) (p := fun j => (pa j).toNat) (v := v) n b (Memory.get s.mem b)
    exact (hload b).trans (hout hb)
  · obtain ⟨-, hin⟩ := forward_byteStores (es := s.cpu.sb) (p := fun j => (pa j).toNat) (v := v) n (pa j).toNat
      (Memory.get s.mem (pa j).toNat)
    exact (hload _).trans (hin hinj j hj rfl)

/-- A split load wherever its bytes are: they are read one after the other, and the first machine check is taken. -/
theorem loadsBy.split {i : Instr} {s : State} {n : Nat} {a : Access} {ea : Word} {pa : Nat → Word}
    {u : Nat → State} {fin : Word → State → State} (hi : loadsBy i s n a ea fin) (hsplit : SplitAt s n a ea pa u)
    {b : Nat → Byte} {w : Nat → State} (hw : w 0 = u n) :
    ((∀ j < n, State.physRead 1 (w j) (pa j).toNat = .ok ((b j).setWidth 64) (w (j + 1))) →
      exec i s = .next (fin (ofBytes ((List.range n).map b)) (w n)) ∧ Kept s (w n))
    ∧ ∀ (k : Nat) (e : Exc) (z : State), k < n →
      (∀ j < k, State.physRead 1 (w j) (pa j).toNat = .ok ((b j).setWidth 64) (w (j + 1))) →
      State.physRead 1 (w k) (pa k).toNat = .exc e z → exec i s = .next (State.take z e) := by
  have hmem := hsplit.memRead_eq
  rw [← hw] at hmem
  refine ⟨fun hread => ⟨hi.ok (hmem.trans (readEach_of_ok hread)), hsplit.quiet.kept.trans ?_⟩,
    fun k e z hk hread hexc => hi.exc (hmem.trans (readEach_of_exc hk hread hexc))⟩
  rw [← hw]
  refine rel_of_chain Kept.refl Kept.trans fun j hj => ?_
  have hquiet := quiet_physRead 1 (w j) (pa j).toNat
  rw [hread j hj] at hquiet
  exact hquiet.kept

/-- A split store wherever its bytes are: the first certain machine check, else the bytes one after the other. -/
theorem storesBy.split {i : Instr} {s : State} {n : Nat} {a : Access} {ea v : Word} {pa : Nat → Word}
    {u : Nat → State} (hi : storesBy i s n a ea v) (hsplit : SplitAt s n a ea pa u) :
    (∀ (k : Nat) (c : BitVec 8), k < n → (∀ j < k, State.certainCheck s (pa j).toNat = none) →
      State.certainCheck s (pa k).toNat = some c →
      exec i s = .next (State.take (if State.route s (pa k).toNat = .rom then State.drainAll (u n) else u n) (.mchk c)))
    ∧ ((∀ j < n, State.certainCheck s (pa j).toNat = none) → ∀ w : Nat → State, w 0 = u n →
      ((∀ j < n, State.physWrite 1 (v >>> (8 * j)) (w j) (pa j).toNat = .ok () (w (j + 1))) →
        ∃ t, exec i s = .next t ∧ passes (w n) t)
      ∧ ∀ (k : Nat) (e : Exc) (z : State), k < n →
        (∀ j < k, State.physWrite 1 (v >>> (8 * j)) (w j) (pa j).toNat = .ok () (w (j + 1))) →
        State.physWrite 1 (v >>> (8 * k)) (w k) (pa k).toNat = .exc e z →
        exec i s = .next (State.take { State.drainAll (u n) with mmioLog := z.mmioLog, draws := z.draws } e)) := by
  refine ⟨fun k c hk hbefore hc => hi.trans (store_of_exc (hsplit.memWrite_of_certain hk hbefore hc)),
    fun hnone w hw => ⟨fun hwrite => ⟨_, hi.trans (store_of_ok (hsplit.memWrite_of_ok hnone ?_)), rfl⟩,
      fun k e z hk hwrite hexc => hi.trans (store_of_exc (hsplit.memWrite_of_exc hnone ?_))⟩⟩
  · rw [← hw]
    exact writeEach_of_ok hwrite
  · rw [← hw]
    exact writeEach_of_exc hk hwrite hexc

/-- A physical access of one byte, target by target. -/
theorem physical_byte (s : State) (pa : Nat) (v : Word) :
    let d := State.drainAll s
    let b : Byte := v.extractLsb' 0 8
    (2 ^ 48 ≤ pa → State.physRead 1 s pa = .exc (.mchk 2) s ∧ State.physWrite 1 v s pa = .exc (.mchk 2) s)
    ∧ (State.route s pa = .ram →
      (State.ramErrs .data s pa 1 = true → State.physRead 1 s pa = .exc (.mchk 3) (State.ramErred .data s pa 1))
      ∧ (State.ramErrs .data s pa 1 = false → ∃ t, State.physRead 1 s pa = .ok ((State.loadByte s pa).setWidth 64) t
        ∧ State.noCaches t = State.noCaches s)
      ∧ State.physWrite 1 v s pa = .ok () { s with cpu := { s.cpu with sb := s.cpu.sb ++ [.store pa [b]] } })
    ∧ (∀ r, State.route s pa = .mmio r →
      (Config.mmioError d.draws = true → State.physRead 1 s pa = .exc (.mchk 1) (State.called d r pa 1 none)
        ∧ State.physWrite 1 v s pa = .exc (.mchk 1) (State.called d r pa 1 (some (b.setWidth 64))))
      ∧ (Config.mmioError d.draws = false →
        State.physRead 1 s pa = .ok (((Config.mmioRead d.draws r.dev (pa - r.start) 1).extractLsb' 0 8).setWidth 64)
          (State.called d r pa 1 none)
        ∧ State.physWrite 1 v s pa = .ok () (State.loseLocks (State.called d r pa 1 (some (b.setWidth 64))) pa 1)))
    ∧ (State.route s pa = .rom → State.physRead 1 s pa = .ok ((Memory.get s.rom pa).setWidth 64) d
      ∧ State.physWrite 1 v s pa = if s.cfg.mmioStrict then .exc (.mchk 1) d else .ok () d)
    ∧ (State.route s pa = .unmapped →
      State.physRead 1 s pa = (if s.cfg.mmioStrict then .exc (.mchk 1) s else .ok 0xFF s)
      ∧ State.physWrite 1 v s pa = if s.cfg.mmioStrict then .exc (.mchk 1) s else .ok () s) := by
  refine ⟨fun h => ⟨physRead_of_tooHigh (route_of_le h), physWrite_of_tooHigh (route_of_le h)⟩,
    fun h => ⟨physRead_of_ram_error h, physRead_byte_of_ram h, physWrite_of_ram h⟩,
    fun r h => ⟨fun herr => ⟨?_, ?_⟩, fun hanswer => ⟨?_, ?_⟩⟩, fun h => ⟨?_, physWrite_of_rom h⟩,
    fun h => ⟨physRead_of_unmapped h, physWrite_of_unmapped h⟩⟩
  · exact (physRead_of_mmio h).trans (mmioCall_of_error herr)
  · rw [physWrite_of_mmio h, mmioCall_of_error herr]
    rfl
  · exact (physRead_of_mmio h).trans (mmioCall_of_answer hanswer)
  · rw [physWrite_of_mmio h, mmioCall_of_answer hanswer]
    rfl
  · rw [← ofBytes_singleton]
    exact physRead_of_rom h

/-- The locked accesses are never split (20_memory.md R163). -/
theorem loadLocked_of_misaligned {s u : State} {n : Nat} {a : Access} {ea pa : Word} {ext : Word → Word} {ra : Reg}
    (h : State.translate (State.drainAll s) a ea = .ok pa u) (hmis : ea.toNat % n ≠ 0) :
    loadX (State.memReadLocked n a ea) ext ra s = .next (State.take u (.mmFault a .align ea)) :=
  loadX_of_exc (memReadLocked_of_place_exc (placeAligned_of_misaligned h hmis))

theorem storeConditional_of_misaligned {s u : State} {n : Nat} {a : Access} {ea pa : Word} {ra : Reg}
    (h : State.translate (State.drainAll s) a ea = .ok pa u) (hmis : ea.toNat % n ≠ 0) :
    storeConditional n a ea ra s = .next (State.take u (.mmFault a .align ea)) :=
  storeConditional_of_exc (memWriteConditional_of_place_exc (placeAligned_of_misaligned h hmis))

/-- Settles O33: the faults by `place_of_misaligned` and `place_of_byte_exc`, the split accesses by `SplitAt`, the single bytes by
`physical_byte`. -/
theorem misalignedAccesses : Obligations.MisalignedAccesses := by
  refine ⟨fun s ra rb d f hf hx hfen hmis => exec_of_misaligned hf hx hfen hmis, ?_, ?_, physical_byte, ?_, ?_⟩
  · intro s ra rb d pa u htolerate herrs hstart ea found bytes loads loadsF stores
    have hsplit : ∀ {k op n}, 0 < n → found k op n →
        SplitAt s n ⟨k, ra, op⟩ ea pa u ∧ ∀ j < n, State.route s (pa j).toNat = .ram := by
      intro k op n hn ⟨hmis, hram, hfound⟩
      have hfirst : ∀ r, State.route s (pa 0).toNat ≠ .mmio r := fun r hr => by cases (hram 0 hn).symm.trans hr
      exact ⟨⟨hn, hmis, htolerate, hfirst, hstart, hfound⟩, hram⟩
    have hloads : ∀ (i : Instr) (n : Nat) (op : BitVec 6) (ext : Word → Word), 0 < n →
        loadsBy i s n ⟨.read, ra, op⟩ ea (fun v w => State.finishX w ra (ext v)) → loads i n op ext := by
      intro i n op ext hn hi hfound
      obtain ⟨hs, hram⟩ := hsplit hn hfound
      obtain ⟨w, hexec, hquiet, hnc⟩ := hi.split_of_ram hs herrs hram
      exact ⟨_, hexec, wroteX_of_kept hquiet.kept ra _, fun b => loadByte_of_noCaches hnc b, noCaches_finishX hnc ra _⟩
    have hloadsF : ∀ (i : Instr) (n : Nat) (op : BitVec 6) (conv : Word → Word), 0 < n → (State.fen s = true →
        loadsBy i s n ⟨.read, ra, op⟩ ea (fun v w => State.finishF w ra (conv v))) → loadsF i n op conv := by
      intro i n op conv hn hi hfen hfound
      obtain ⟨hs, hram⟩ := hsplit hn hfound
      obtain ⟨w, hexec, hquiet, hnc⟩ := (hi hfen).split_of_ram hs herrs hram
      exact ⟨_, hexec, wroteF_of_kept hquiet.kept ra _, fun b => loadByte_of_noCaches hnc b, noCaches_finishF hnc ra _⟩
    have hstores : ∀ (i : Instr) (n : Nat) (op : BitVec 6) (v : Word), 0 < n →
        storesBy i s n ⟨.write, ra, op⟩ ea v → stores i n op v := by
      intro i n op v hn hi hfound
      obtain ⟨hs, hram⟩ := hsplit hn hfound
      exact hi.split_of_ram hs hram
    refine ⟨fun hbwx => ⟨hloads (.ldwu ra rb d) 2 0x0C id (by decide) (loadsBy_ldwu hbwx),
        hstores (.stw ra rb d) 2 0x0D (State.x s ra) (by decide) (storesBy_stw hbwx)⟩,
      hloads (.ldl ra rb d) 4 0x28 (fun v => (v.extractLsb' 0 32).signExtend 64) (by decide) ?_,
      hloads (.ldq ra rb d) 8 0x29 id (by decide) loadsBy_ldq,
      hstores (.stl ra rb d) 4 0x2C (State.x s ra) (by decide) storesBy_stl,
      hstores (.stq ra rb d) 8 0x2D (State.x s ra) (by decide) storesBy_stq,
      hloadsF (.ldf ra rb d) 4 0x20 fMemToReg (by decide) loadsBy_ldf,
      hloadsF (.ldg ra rb d) 8 0x21 gMemToReg (by decide) loadsBy_ldg,
      hloadsF (.lds ra rb d) 4 0x22 sMemToReg (by decide) loadsBy_lds,
      hloadsF (.ldt ra rb d) 8 0x23 id (by decide) loadsBy_ldt,
      fun hfen => ⟨hstores (.stf ra rb d) 4 0x24 (fRegToMem (State.f s ra)) (by decide) (storesBy_stf hfen),
        hstores (.stg ra rb d) 8 0x25 (gRegToMem (State.f s ra)) (by decide) (storesBy_stg hfen),
        hstores (.sts ra rb d) 4 0x26 (sRegToMem (State.f s ra)) (by decide) (storesBy_sts hfen),
        hstores (.stt ra rb d) 8 0x27 (State.f s ra) (by decide) (storesBy_stt hfen)⟩⟩
    simp only [← sext32_eq]
    exact loadsBy_ldl
  · intro s ra rb d pa u htolerate hstart hfirst ea found certain reads writes endsX endsF
    have hsplit : ∀ {k op n}, 0 < n → found k op n → SplitAt s n ⟨k, ra, op⟩ ea pa u :=
      fun hn ⟨hmis, hfound⟩ => ⟨hn, hmis, htolerate, hfirst, hstart, hfound⟩
    have hreads : ∀ (i : Instr) (n : Nat) (op : BitVec 6) (ext : Word → Word), 0 < n →
        loadsBy i s n ⟨.read, ra, op⟩ ea (fun v w => State.finishX w ra (ext v)) → reads i n op (endsX ext) := by
      intro i n op ext hn hi hfound b w hw
      obtain ⟨hok, hexc⟩ := hi.split (hsplit hn hfound) (b := b) hw
      refine ⟨fun hread => ?_, hexc⟩
      obtain ⟨hexec, hkept⟩ := hok hread
      exact ⟨_, hexec, wroteX_of_kept hkept ra _, finishX_eq_of_kept hkept ra _⟩
    have hreadsF : ∀ (i : Instr) (n : Nat) (op : BitVec 6) (conv : Word → Word), 0 < n →
        loadsBy i s n ⟨.read, ra, op⟩ ea (fun v w => State.finishF w ra (conv v)) → reads i n op (endsF conv) := by
      intro i n op conv hn hi hfound b w hw
      obtain ⟨hok, hexc⟩ := hi.split (hsplit hn hfound) (b := b) hw
      refine ⟨fun hread => ?_, hexc⟩
      obtain ⟨hexec, hkept⟩ := hok hread
      exact ⟨_, hexec, wroteF_of_kept hkept ra _, finishF_eq_of_kept hkept ra _⟩
    have hwrites : ∀ (i : Instr) (n : Nat) (op : BitVec 6) (v : Word), 0 < n →
        storesBy i s n ⟨.write, ra, op⟩ ea v → writes i n op v :=
      fun i n op v hn hi hfound => hi.split (hsplit hn hfound)
    refine ⟨fun hbwx => ⟨hreads (.ldwu ra rb d) 2 0x0C id (by decide) (loadsBy_ldwu hbwx),
        hwrites (.stw ra rb d) 2 0x0D (State.x s ra) (by decide) (storesBy_stw hbwx)⟩,
      hreads (.ldl ra rb d) 4 0x28 (fun v => (v.extractLsb' 0 32).signExtend 64) (by decide) ?_,
      hreads (.ldq ra rb d) 8 0x29 id (by decide) loadsBy_ldq,
      hwrites (.stl ra rb d) 4 0x2C (State.x s ra) (by decide) storesBy_stl,
      hwrites (.stq ra rb d) 8 0x2D (State.x s ra) (by decide) storesBy_stq,
      fun hfen => ⟨hreadsF (.ldf ra rb d) 4 0x20 fMemToReg (by decide) (loadsBy_ldf hfen),
        hreadsF (.ldg ra rb d) 8 0x21 gMemToReg (by decide) (loadsBy_ldg hfen),
        hreadsF (.lds ra rb d) 4 0x22 sMemToReg (by decide) (loadsBy_lds hfen),
        hreadsF (.ldt ra rb d) 8 0x23 id (by decide) (loadsBy_ldt hfen),
        hwrites (.stf ra rb d) 4 0x24 (fRegToMem (State.f s ra)) (by decide) (storesBy_stf hfen),
        hwrites (.stg ra rb d) 8 0x25 (gRegToMem (State.f s ra)) (by decide) (storesBy_stg hfen),
        hwrites (.sts ra rb d) 4 0x26 (sRegToMem (State.f s ra)) (by decide) (storesBy_sts hfen),
        hwrites (.stt ra rb d) 8 0x27 (State.f s ra) (by decide) (storesBy_stt hfen)⟩⟩
    simp only [← sext32_eq]
    exact loadsBy_ldl
  · exact fun s u ra rb d pa => ⟨loadLocked_of_misaligned, loadLocked_of_misaligned, storeConditional_of_misaligned,
      storeConditional_of_misaligned⟩
  · exact fun s ra rb d quad hp hmis => ⟨exec_hwLd_of_exc hp (hwRead_of_misaligned hmis),
      exec_hwSt_of_exc hp (hwWrite_of_misaligned hmis)⟩

end Sys2Proof.Machine

/-! PROOFS. Encoding (30_encoding.md R300 to R319). Each format of the encoder is characterised once by the fields of its word; from
that, each format of the decoder by the words it accepts. The tables then only pair instructions with formats. -/

namespace Sys2Proof.Encoding

/-! Words and their fields. -/

/-- A concatenation is a field exactly when its two parts are the upper and the lower part of that field. -/
theorem append_eq_field_iff {n a b : Nat} (x : BitVec a) (y : BitVec b) (w : BitVec n) (s : Nat) :
    x ++ y = w.extractLsb' s (a + b) ↔ x = w.extractLsb' (s + b) a ∧ y = w.extractLsb' s b := by
  rw [← BitVec.extractLsb'_append_extractLsb'_eq_extractLsb' rfl]
  refine ⟨fun h => ⟨?_, ?_⟩, fun ⟨hx, hy⟩ => by rw [← hx, ← hy]⟩
  · simpa only [BitVec.extractLsb'_append_eq_left] using congrArg (BitVec.extractLsb' b a) h
  · simpa only [BitVec.extractLsb'_append_eq_right] using congrArg (BitVec.extractLsb' 0 b) h

theorem append_eq_iff {a b : Nat} (x : BitVec a) (y : BitVec b) (w : BitVec (a + b)) :
    x ++ y = w ↔ x = w.extractLsb' b a ∧ y = w.extractLsb' 0 b := by
  simpa using append_eq_field_iff x y w 0

theorem ofBool_eq_field_iff {n : Nat} (b : Bool) (w : BitVec n) (k : Nat) :
    BitVec.ofBool b = w.extractLsb' k 1 ↔ b = w.getLsbD k := by
  rw [BitVec.eq_of_getLsbD_eq_iff]
  simp

theorem Trap.bits_eq_iff (t : Trap) (b : BitVec 3) : t.bits = b ↔ Trap.ofBits b = some t := by
  refine ⟨?_, ?_⟩
  · rintro rfl
    cases t <;> rfl
  · revert b
    cases t <;> decide

theorem Rounding.bits_eq_iff (r : Rounding) (b : BitVec 2) : r.bits = b ↔ Rounding.ofBits b = r := by
  refine ⟨?_, ?_⟩
  · rintro rfl
    cases r <;> rfl
  · rintro rfl
    revert b
    decide

section Fields

variable {w : IWord} {op : BitVec 6} {ra rb rc fa fb fc : Reg}

theorem callPal_eq_iff {fn : BitVec 26} : (0 : BitVec 6) ++ fn = w ↔ 0 = w.opcode ∧ fn = w.palFn :=
  append_eq_iff _ _ _

theorem mem_eq_iff {d : BitVec 16} :
    Encode.mem op ra rb d = w ↔ op = w.opcode ∧ ra = w.ra ∧ rb = w.rb ∧ d = w.disp16 := by
  refine (append_eq_iff _ _ _).trans ?_
  simp only [append_eq_field_iff, and_assoc]
  rfl

theorem bra_eq_iff {d : BitVec 21} : Encode.bra op ra d = w ↔ op = w.opcode ∧ ra = w.ra ∧ d = w.disp21 := by
  refine (append_eq_iff _ _ _).trans ?_
  simp only [append_eq_field_iff, and_assoc]
  rfl

theorem jump_eq_iff {fn : BitVec 2} {h : BitVec 14} :
    Encode.jump fn ra rb h = w ↔ 0x1A = w.opcode ∧ ra = w.ra ∧ rb = w.rb ∧ fn = w.jumpFn ∧ h = w.hint := by
  refine (append_eq_iff _ _ _).trans ?_
  simp only [append_eq_field_iff, and_assoc]
  rfl

theorem opr_reg_eq_iff {fn : BitVec 7} : Encode.opr op fn ra (.reg rb) rc = w ↔
    op = w.opcode ∧ ra = w.ra ∧ rb = w.rb ∧ 0 = w.bits15to13 ∧ false = w.isLit ∧ fn = w.fn7 ∧ rc = w.rc := by
  have hbit (s : Nat) : (0 : BitVec 1) = w.extractLsb' s 1 ↔ false = w.getLsbD s := ofBool_eq_field_iff false w s
  refine (append_eq_iff _ _ _).trans ?_
  simp only [append_eq_field_iff, and_assoc, hbit]
  rfl

theorem opr_lit_eq_iff {fn : BitVec 7} {v : BitVec 8} : Encode.opr op fn ra (.lit v) rc = w ↔
    op = w.opcode ∧ ra = w.ra ∧ v = w.lit ∧ true = w.isLit ∧ fn = w.fn7 ∧ rc = w.rc := by
  have hbit (s : Nat) : (1 : BitVec 1) = w.extractLsb' s 1 ↔ true = w.getLsbD s := ofBool_eq_field_iff true w s
  refine (append_eq_iff _ _ _).trans ?_
  simp only [append_eq_field_iff, and_assoc, hbit]
  rfl

theorem fp_eq_iff {fn : BitVec 11} : Encode.fp op fn fa fb fc = w ↔
    op = w.opcode ∧ fa = w.ra ∧ fb = w.rb ∧ fn = w.fn11 ∧ fc = w.rc := by
  refine (append_eq_iff _ _ _).trans ?_
  simp only [append_eq_field_iff, and_assoc]
  rfl

theorem fpq_eq_iff {q : Qual} {fn : BitVec 6} : Encode.fpq op q fn fa fb fc = w ↔
    op = w.opcode ∧ fa = w.ra ∧ fb = w.rb ∧ q.trap.bits = w.bits15to13 ∧ q.rnd.bits = w.rnd ∧ fn = w.fn6 ∧ fc = w.rc := by
  refine (append_eq_iff _ _ _).trans ?_
  simp only [append_eq_field_iff, and_assoc]
  rfl

theorem hwmem_eq_iff {quad : Bool} {d : BitVec 12} : Encode.hwmem op ra rb quad d = w ↔
    op = w.opcode ∧ ra = w.ra ∧ rb = w.rb ∧ 4 = w.bits15to13 ∧ quad = w.isLit ∧ d = w.disp12 := by
  refine (append_eq_iff _ _ _).trans ?_
  simp only [append_eq_field_iff, and_assoc, ofBool_eq_field_iff]
  rfl

/-- The sub-fields of the floating function (R307). -/
theorem append_eq_fn11_iff {t : BitVec 3} {r : BitVec 2} {fn : BitVec 6} :
    t ++ r ++ fn = w.fn11 ↔ t = w.bits15to13 ∧ r = w.rnd ∧ fn = w.fn6 := by
  rw [IWord.fn11, append_eq_field_iff _ _ w 5, append_eq_field_iff, and_assoc]
  rfl

/-- The trap qualifier, the rounding qualifier and the operation as bits of the function. -/
theorem fn11_parts (w : IWord) :
    w.bits15to13 = w.fn11.extractLsb' 8 3 ∧ w.rnd = w.fn11.extractLsb' 6 2 ∧ w.fn6 = w.fn11.extractLsb' 0 6 := by
  have hparts := (append_eq_fn11_iff (w := w)).2 ⟨rfl, rfl, rfl⟩
  obtain ⟨hupper, hlow⟩ := (append_eq_iff _ _ _).1 hparts
  obtain ⟨htrap, hrnd⟩ := (append_eq_field_iff _ _ _ _).1 hupper
  exact ⟨htrap, hrnd, hlow⟩

/-- The format with qualifiers is the floating format, its function made of the sub-fields. -/
theorem fpq_eq_fp {q : Qual} {fn : BitVec 6} :
    Encode.fpq op q fn fa fb fc = Encode.fp op (q.trap.bits ++ q.rnd.bits ++ fn) fa fb fc := by
  obtain ⟨hop, ha, hb, ht, hr, hfn, hc⟩ := fpq_eq_iff.1 (rfl : Encode.fpq op q fn fa fb fc = _)
  exact (fp_eq_iff.2 ⟨hop, ha, hb, append_eq_fn11_iff.2 ⟨ht, hr, hfn⟩, hc⟩).symm

theorem fpq_fn6_eq_iff {q : Qual} : Encode.fpq w.opcode q w.fn6 fa fb fc = w ↔
    q.trap.bits = w.bits15to13 ∧ q.rnd.bits = w.rnd ∧ Encode.fp w.opcode w.fn11 fa fb fc = w := by
  rw [fpq_eq_iff, fp_eq_iff]
  tauto

theorem opcode_fn7_ra_of_opr {fn : BitVec 7} {o : Operand} (h : Encode.opr op fn ra o rc = w) :
    w.opcode = op ∧ w.fn7 = fn ∧ w.ra = ra := by
  cases o with
  | reg rb =>
    obtain ⟨hop, ha, -, -, -, hfn, -⟩ := opr_reg_eq_iff.1 h
    exact ⟨hop.symm, hfn.symm, ha.symm⟩
  | lit v =>
    obtain ⟨hop, ha, -, -, hfn, -⟩ := opr_lit_eq_iff.1 h
    exact ⟨hop.symm, hfn.symm, ha.symm⟩

end Fields

/-! What the decoder's formats accept: one law each, read from left to right for the words that decode and from right to left
for the words that the encoder makes. -/

section Formats

variable {w : IWord} {i : Instr} {e : Option Ext}

theorem reserved_ne_instr (i : Instr) : Decoded.reserved ≠ .instr i := nofun

theorem refused_ne_instr (i : Instr) : Decoded.refused e ≠ .instr i := nofun

/-- A condition on the word: the words that fail it decode to no instruction. -/
theorem ite_eq_instr_iff {c : Prop} [Decidable c] {d d' : Decoded} (hd : ∀ i, d' ≠ .instr i) :
    (if c then d else d') = .instr i ↔ c ∧ d = .instr i := by
  by_cases hc : c
  · simp [hc]
  · simp [hc, hd i]

theorem mem_eq_instr_iff {k : Reg → Reg → BitVec 16 → Instr} :
    Decode.mem w k = .instr i ↔ ∃ ra rb d, k ra rb d = i ∧ Encode.mem w.opcode ra rb d = w := by
  refine ⟨fun h => ⟨_, _, _, Decoded.instr.inj h, mem_eq_iff.2 ⟨rfl, rfl, rfl, rfl⟩⟩, ?_⟩
  rintro ⟨_, _, _, rfl, hw⟩
  obtain ⟨-, rfl, rfl, rfl⟩ := mem_eq_iff.1 hw
  rfl

theorem bra_eq_instr_iff {k : Reg → BitVec 21 → Instr} :
    Decode.bra w k = .instr i ↔ ∃ ra d, k ra d = i ∧ Encode.bra w.opcode ra d = w := by
  refine ⟨fun h => ⟨_, _, Decoded.instr.inj h, bra_eq_iff.2 ⟨rfl, rfl, rfl⟩⟩, ?_⟩
  rintro ⟨_, _, rfl, hw⟩
  obtain ⟨-, rfl, rfl⟩ := bra_eq_iff.1 hw
  rfl

theorem opr_eq_instr_iff {k : Reg → Operand → Reg → Instr} :
    Decode.opr e w k = .instr i ↔ ∃ ra o rc, k ra o rc = i ∧ Encode.opr w.opcode w.fn7 ra o rc = w := by
  refine ⟨fun h => ?_, ?_⟩
  · unfold Decode.opr at h
    split at h
    next hlit => exact ⟨_, _, _, Decoded.instr.inj h, opr_lit_eq_iff.2 ⟨rfl, rfl, rfl, hlit.symm, rfl, rfl⟩⟩
    next hlit =>
      obtain ⟨hsbz, hi⟩ := (ite_eq_instr_iff refused_ne_instr).1 h
      exact ⟨_, _, _, Decoded.instr.inj hi,
        opr_reg_eq_iff.2 ⟨rfl, rfl, rfl, hsbz.symm, (Bool.eq_false_iff.2 hlit).symm, rfl, rfl⟩⟩
  · rintro ⟨ra, o, rc, rfl, hw⟩
    cases o with
    | reg rb =>
      obtain ⟨-, rfl, rfl, hsbz, hlit, -, rfl⟩ := opr_reg_eq_iff.1 hw
      simp [Decode.opr, ← hsbz, ← hlit]
    | lit v =>
      obtain ⟨-, rfl, rfl, hlit, -, rfl⟩ := opr_lit_eq_iff.1 hw
      simp [Decode.opr, ← hlit]

theorem opr1_eq_instr_iff {k : Operand → Reg → Instr} :
    Decode.opr1 e w k = .instr i ↔ ∃ o rc, k o rc = i ∧ Encode.opr w.opcode w.fn7 31 o rc = w := by
  rw [Decode.opr1, ite_eq_instr_iff refused_ne_instr, opr_eq_instr_iff]
  refine ⟨?_, ?_⟩
  · rintro ⟨hra, ra, o, rc, hi, hw⟩
    obtain ⟨-, -, rfl⟩ := opcode_fn7_ra_of_opr hw
    exact ⟨o, rc, hi, hra ▸ hw⟩
  · rintro ⟨o, rc, hi, hw⟩
    obtain ⟨-, -, hra⟩ := opcode_fn7_ra_of_opr hw
    exact ⟨hra, _, o, rc, hi, hw⟩

theorem ftoi_eq_instr_iff {k : Reg → Reg → Instr} :
    Decode.ftoi w k = .instr i ↔ ∃ fa rc, k fa rc = i ∧ Encode.opr w.opcode w.fn7 fa (.reg 31) rc = w := by
  rw [Decode.ftoi, ite_eq_instr_iff refused_ne_instr, Decoded.instr.injEq]
  refine ⟨fun ⟨⟨hlit, hsbz, hrb⟩, hi⟩ =>
    ⟨_, _, hi, opr_reg_eq_iff.2 ⟨rfl, rfl, hrb.symm, hsbz.symm, hlit.symm, rfl, rfl⟩⟩, ?_⟩
  rintro ⟨_, _, hi, hw⟩
  obtain ⟨-, rfl, hrb, hsbz, hlit, -, rfl⟩ := opr_reg_eq_iff.1 hw
  exact ⟨⟨hlit.symm, hsbz.symm, hrb.symm⟩, hi⟩

theorem qual_eq_instr_iff {ok : Qual → Bool} {k : Qual → Decoded} : Decode.qual ok w k = .instr i ↔
    ∃ q, ok q = true ∧ q.trap.bits = w.bits15to13 ∧ q.rnd.bits = w.rnd ∧ k q = .instr i := by
  simp only [Trap.bits_eq_iff, Rounding.bits_eq_iff, Decode.qual]
  refine ⟨fun h => ?_, ?_⟩
  · split at h
    next t ht =>
      obtain ⟨hok, hk⟩ := (ite_eq_instr_iff reserved_ne_instr).1 h
      exact ⟨_, hok, ht, rfl, hk⟩
    next => cases h
  · rintro ⟨⟨t, r⟩, hok, ht, rfl, hk⟩
    simp only [ht, hok, if_true, hk]

theorem fp3_eq_instr_iff {k : Reg → Reg → Reg → Instr} :
    Decode.fp3 w k = .instr i ↔ ∃ fa fb fc, k fa fb fc = i ∧ Encode.fp w.opcode w.fn11 fa fb fc = w := by
  refine ⟨fun h => ⟨_, _, _, Decoded.instr.inj h, fp_eq_iff.2 ⟨rfl, rfl, rfl, rfl, rfl⟩⟩, ?_⟩
  rintro ⟨_, _, _, rfl, hw⟩
  obtain ⟨-, rfl, rfl, -, rfl⟩ := fp_eq_iff.1 hw
  rfl

theorem fp1_eq_instr_iff {k : Reg → Reg → Instr} :
    Decode.fp1 e w k = .instr i ↔ ∃ fb fc, k fb fc = i ∧ Encode.fp w.opcode w.fn11 31 fb fc = w := by
  rw [Decode.fp1, ite_eq_instr_iff refused_ne_instr, Decoded.instr.injEq]
  refine ⟨fun ⟨hra, hi⟩ => ⟨_, _, hi, fp_eq_iff.2 ⟨rfl, hra.symm, rfl, rfl, rfl⟩⟩, ?_⟩
  rintro ⟨_, _, hi, hw⟩
  obtain ⟨-, hra, rfl, -, rfl⟩ := fp_eq_iff.1 hw
  exact ⟨hra.symm, hi⟩

theorem itof_eq_instr_iff {k : Reg → Reg → Instr} :
    Decode.itof w k = .instr i ↔ ∃ ra fc, k ra fc = i ∧ Encode.fp w.opcode w.fn11 ra 31 fc = w := by
  rw [Decode.itof, ite_eq_instr_iff refused_ne_instr, Decoded.instr.injEq]
  refine ⟨fun ⟨hrb, hi⟩ => ⟨_, _, hi, fp_eq_iff.2 ⟨rfl, rfl, hrb.symm, rfl, rfl⟩⟩, ?_⟩
  rintro ⟨_, _, hi, hw⟩
  obtain ⟨-, rfl, hrb, -, rfl⟩ := fp_eq_iff.1 hw
  exact ⟨hrb.symm, hi⟩

theorem qual_fp3_eq_instr_iff {ok : Qual → Bool} {k : Qual → Reg → Reg → Reg → Instr} :
    Decode.qual ok w (fun q => Decode.fp3 w (k q)) = .instr i ↔
      ∃ q fa fb fc, ok q = true ∧ k q fa fb fc = i ∧ Encode.fpq w.opcode q w.fn6 fa fb fc = w := by
  rw [qual_eq_instr_iff]
  refine ⟨?_, ?_⟩
  · rintro ⟨q, hok, ht, hr, hk⟩
    obtain ⟨fa, fb, fc, hi, hw⟩ := fp3_eq_instr_iff.1 hk
    exact ⟨q, fa, fb, fc, hok, hi, fpq_fn6_eq_iff.2 ⟨ht, hr, hw⟩⟩
  · rintro ⟨q, fa, fb, fc, hok, hi, hw⟩
    obtain ⟨ht, hr, hw⟩ := fpq_fn6_eq_iff.1 hw
    exact ⟨q, hok, ht, hr, fp3_eq_instr_iff.2 ⟨fa, fb, fc, hi, hw⟩⟩

theorem qual_fp1_eq_instr_iff {ok : Qual → Bool} {k : Qual → Reg → Reg → Instr} :
    Decode.qual ok w (fun q => Decode.fp1 e w (k q)) = .instr i ↔
      ∃ q fb fc, ok q = true ∧ k q fb fc = i ∧ Encode.fpq w.opcode q w.fn6 31 fb fc = w := by
  rw [qual_eq_instr_iff]
  refine ⟨?_, ?_⟩
  · rintro ⟨q, hok, ht, hr, hk⟩
    obtain ⟨fb, fc, hi, hw⟩ := fp1_eq_instr_iff.1 hk
    exact ⟨q, fb, fc, hok, hi, fpq_fn6_eq_iff.2 ⟨ht, hr, hw⟩⟩
  · rintro ⟨q, fb, fc, hok, hi, hw⟩
    obtain ⟨ht, hr, hw⟩ := fpq_fn6_eq_iff.1 hw
    exact ⟨q, hok, ht, hr, fp1_eq_instr_iff.2 ⟨fb, fc, hi, hw⟩⟩

theorem misc_eq_instr_iff {k : Reg → Reg → Instr} :
    Decode.misc w k = .instr i ↔ ∃ ra rb, k ra rb = i ∧ Encode.mem w.opcode ra rb w.disp16 = w := by
  refine ⟨fun h => ⟨_, _, Decoded.instr.inj h, mem_eq_iff.2 ⟨rfl, rfl, rfl, rfl⟩⟩, ?_⟩
  rintro ⟨_, _, rfl, hw⟩
  obtain ⟨-, rfl, rfl, -⟩ := mem_eq_iff.1 hw
  rfl

theorem hwpr_eq_instr_iff {k : Reg → BitVec 16 → Instr} :
    Decode.hwpr w k = .instr i ↔ ∃ ra d, k ra d = i ∧ Encode.mem w.opcode ra 31 d = w := by
  rw [Decode.hwpr, ite_eq_instr_iff reserved_ne_instr, Decoded.instr.injEq]
  refine ⟨fun ⟨hrb, hi⟩ => ⟨_, _, hi, mem_eq_iff.2 ⟨rfl, rfl, hrb.symm, rfl⟩⟩, ?_⟩
  rintro ⟨_, _, hi, hw⟩
  obtain ⟨-, rfl, hrb, rfl⟩ := mem_eq_iff.1 hw
  exact ⟨hrb.symm, hi⟩

theorem hwmem_eq_instr_iff {k : Reg → Reg → Bool → BitVec 12 → Instr} :
    Decode.hwmem w k = .instr i ↔ ∃ ra rb quad d, k ra rb quad d = i ∧ Encode.hwmem w.opcode ra rb quad d = w := by
  rw [Decode.hwmem, ite_eq_instr_iff reserved_ne_instr, Decoded.instr.injEq]
  refine ⟨fun ⟨hphys, hi⟩ => ⟨_, _, _, _, hi, hwmem_eq_iff.2 ⟨rfl, rfl, rfl, hphys.symm, rfl, rfl⟩⟩, ?_⟩
  rintro ⟨_, _, _, _, hi, hw⟩
  obtain ⟨-, rfl, rfl, hphys, rfl, rfl⟩ := hwmem_eq_iff.1 hw
  exact ⟨hphys.symm, hi⟩

end Formats

end Sys2Proof.Encoding

/-! PROOFS. From words to instructions (30_encoding.md R315): row by row, an instruction that the decoder answers has the word as its
encoding. -/

namespace Sys2Proof.Encoding

/-- An instruction among what the word decodes to has that word as its encoding, and is well formed. -/
def Faithful (w : IWord) (d : Decoded) : Prop := ∀ i, d = .instr i → encode i = w ∧ i.wf = true

namespace Faithful

variable {w : IWord} {op : BitVec 6} {e : Option Ext}

theorem reserved : Faithful w .reserved := fun i h => absurd h (reserved_ne_instr i)

theorem instr {i : Instr} (hw : encode i = w) (hwf : i.wf = true) : Faithful w (.instr i) := by
  intro j h
  cases h
  exact ⟨hw, hwf⟩

theorem ite {c : Prop} [Decidable c] {d d' : Decoded} (h : c → Faithful w d) (h' : Faithful w d') :
    Faithful w (if c then d else d') := by
  split
  next hc => exact h hc
  next => exact h'

/-! The formats. `hk` says which row the instruction is; `hop` and the function hypotheses say that the word is of that row. -/

theorem mem {k : Reg → Reg → BitVec 16 → Instr}
    (hk : ∀ ra rb d, encode (k ra rb d) = Encode.mem op ra rb d ∧ (k ra rb d).wf = true)
    (hop : w.opcode.toNat = op.toNat) : Faithful w (Decode.mem w k) := by
  intro i h
  obtain ⟨ra, rb, d, rfl, hw⟩ := mem_eq_instr_iff.1 h
  rw [BitVec.eq_of_toNat_eq hop] at hw
  exact hw ▸ hk ra rb d

theorem bra {k : Reg → BitVec 21 → Instr}
    (hk : ∀ ra d, encode (k ra d) = Encode.bra op ra d ∧ (k ra d).wf = true)
    (hop : w.opcode.toNat = op.toNat) : Faithful w (Decode.bra w k) := by
  intro i h
  obtain ⟨ra, d, rfl, hw⟩ := bra_eq_instr_iff.1 h
  rw [BitVec.eq_of_toNat_eq hop] at hw
  exact hw ▸ hk ra d

theorem opr {fn : BitVec 7} {k : Reg → Operand → Reg → Instr}
    (hk : ∀ ra o rc, encode (k ra o rc) = Encode.opr op fn ra o rc ∧ (k ra o rc).wf = true)
    (hop : w.opcode.toNat = op.toNat) (hfn : w.fn7.toNat = fn.toNat) : Faithful w (Decode.opr e w k) := by
  intro i h
  obtain ⟨ra, o, rc, rfl, hw⟩ := opr_eq_instr_iff.1 h
  rw [BitVec.eq_of_toNat_eq hop, BitVec.eq_of_toNat_eq hfn] at hw
  exact hw ▸ hk ra o rc

theorem opr1 {fn : BitVec 7} {k : Operand → Reg → Instr}
    (hk : ∀ o rc, encode (k o rc) = Encode.opr op fn 31 o rc ∧ (k o rc).wf = true)
    (hop : w.opcode.toNat = op.toNat) (hfn : w.fn7.toNat = fn.toNat) : Faithful w (Decode.opr1 e w k) := by
  intro i h
  obtain ⟨o, rc, rfl, hw⟩ := opr1_eq_instr_iff.1 h
  rw [BitVec.eq_of_toNat_eq hop, BitVec.eq_of_toNat_eq hfn] at hw
  exact hw ▸ hk o rc

theorem ftoi {fn : BitVec 7} {k : Reg → Reg → Instr}
    (hk : ∀ fa rc, encode (k fa rc) = Encode.opr op fn fa (.reg 31) rc ∧ (k fa rc).wf = true)
    (hop : w.opcode.toNat = op.toNat) (hfn : w.fn7.toNat = fn.toNat) : Faithful w (Decode.ftoi w k) := by
  intro i h
  obtain ⟨fa, rc, rfl, hw⟩ := ftoi_eq_instr_iff.1 h
  rw [BitVec.eq_of_toNat_eq hop, BitVec.eq_of_toNat_eq hfn] at hw
  exact hw ▸ hk fa rc

theorem fp3 {fn : BitVec 11} {k : Reg → Reg → Reg → Instr}
    (hk : ∀ fa fb fc, encode (k fa fb fc) = Encode.fp op fn fa fb fc ∧ (k fa fb fc).wf = true)
    (hop : w.opcode.toNat = op.toNat) (hfn : w.fn11 = fn) : Faithful w (Decode.fp3 w k) := by
  intro i h
  obtain ⟨fa, fb, fc, rfl, hw⟩ := fp3_eq_instr_iff.1 h
  rw [BitVec.eq_of_toNat_eq hop, hfn] at hw
  exact hw ▸ hk fa fb fc

theorem fp1 {fn : BitVec 11} {k : Reg → Reg → Instr}
    (hk : ∀ fb fc, encode (k fb fc) = Encode.fp op fn 31 fb fc ∧ (k fb fc).wf = true)
    (hop : w.opcode.toNat = op.toNat) (hfn : w.fn11 = fn) : Faithful w (Decode.fp1 e w k) := by
  intro i h
  obtain ⟨fb, fc, rfl, hw⟩ := fp1_eq_instr_iff.1 h
  rw [BitVec.eq_of_toNat_eq hop, hfn] at hw
  exact hw ▸ hk fb fc

theorem itof {fn : BitVec 11} {k : Reg → Reg → Instr}
    (hk : ∀ ra fc, encode (k ra fc) = Encode.fp op fn ra 31 fc ∧ (k ra fc).wf = true)
    (hop : w.opcode.toNat = op.toNat) (hfn : w.fn11 = fn) : Faithful w (Decode.itof w k) := by
  intro i h
  obtain ⟨ra, fc, rfl, hw⟩ := itof_eq_instr_iff.1 h
  rw [BitVec.eq_of_toNat_eq hop, hfn] at hw
  exact hw ▸ hk ra fc

theorem fpq3 {fn : BitVec 6} {ok : Qual → Bool} {k : Qual → Reg → Reg → Reg → Instr}
    (hk : ∀ q fa fb fc, encode (k q fa fb fc) = Encode.fpq op q fn fa fb fc ∧ (k q fa fb fc).wf = ok q)
    (hop : w.opcode.toNat = op.toNat) (hfn : w.fn6.toNat = fn.toNat) :
    Faithful w (Decode.qual ok w fun q => Decode.fp3 w (k q)) := by
  intro i h
  obtain ⟨q, fa, fb, fc, hok, rfl, hw⟩ := qual_fp3_eq_instr_iff.1 h
  obtain ⟨henc, hwf⟩ := hk q fa fb fc
  rw [BitVec.eq_of_toNat_eq hop, BitVec.eq_of_toNat_eq hfn] at hw
  exact ⟨henc.trans hw, hwf.trans hok⟩

theorem fpq1 {fn : BitVec 6} {ok : Qual → Bool} {k : Qual → Reg → Reg → Instr}
    (hk : ∀ q fb fc, encode (k q fb fc) = Encode.fpq op q fn 31 fb fc ∧ (k q fb fc).wf = ok q)
    (hop : w.opcode.toNat = op.toNat) (hfn : w.fn6.toNat = fn.toNat) :
    Faithful w (Decode.qual ok w fun q => Decode.fp1 e w (k q)) := by
  intro i h
  obtain ⟨q, fb, fc, hok, rfl, hw⟩ := qual_fp1_eq_instr_iff.1 h
  obtain ⟨henc, hwf⟩ := hk q fb fc
  rw [BitVec.eq_of_toNat_eq hop, BitVec.eq_of_toNat_eq hfn] at hw
  exact ⟨henc.trans hw, hwf.trans hok⟩

theorem misc {fn : BitVec 16} {k : Reg → Reg → Instr}
    (hk : ∀ ra rb, encode (k ra rb) = Encode.mem op ra rb fn ∧ (k ra rb).wf = true)
    (hop : w.opcode.toNat = op.toNat) (hfn : w.disp16.toNat = fn.toNat) : Faithful w (Decode.misc w k) := by
  intro i h
  obtain ⟨ra, rb, rfl, hw⟩ := misc_eq_instr_iff.1 h
  rw [BitVec.eq_of_toNat_eq hop, BitVec.eq_of_toNat_eq hfn] at hw
  exact hw ▸ hk ra rb

theorem hwpr {k : Reg → BitVec 16 → Instr}
    (hk : ∀ ra d, encode (k ra d) = Encode.mem op ra 31 d ∧ (k ra d).wf = true)
    (hop : w.opcode.toNat = op.toNat) : Faithful w (Decode.hwpr w k) := by
  intro i h
  obtain ⟨ra, d, rfl, hw⟩ := hwpr_eq_instr_iff.1 h
  rw [BitVec.eq_of_toNat_eq hop] at hw
  exact hw ▸ hk ra d

theorem hwmem {k : Reg → Reg → Bool → BitVec 12 → Instr}
    (hk : ∀ ra rb quad d, encode (k ra rb quad d) = Encode.hwmem op ra rb quad d ∧ (k ra rb quad d).wf = true)
    (hop : w.opcode.toNat = op.toNat) : Faithful w (Decode.hwmem w k) := by
  intro i h
  obtain ⟨ra, rb, quad, d, rfl, hw⟩ := hwmem_eq_instr_iff.1 h
  rw [BitVec.eq_of_toNat_eq hop] at hw
  exact hw ▸ hk ra rb quad d

theorem callPal (hop : w.opcode.toNat = 0) : Faithful w (.instr (.callPal w.palFn)) :=
  instr (callPal_eq_iff.2 ⟨(BitVec.eq_of_toNat_eq hop).symm, rfl⟩) rfl

/-! The function tables, each in the order of its rows; a word with no row decodes to the reserved-opcode fault. -/

theorem arith (hop : w.opcode.toNat = 0x10) : Faithful w (Decode.arith w) := by
  unfold Decode.arith
  split
  iterate 22 next hfn => exact .opr (fun _ _ _ => ⟨rfl, rfl⟩) hop hfn
  next => exact .reserved

theorem logical (hop : w.opcode.toNat = 0x11) : Faithful w (Decode.logical w) := by
  unfold Decode.logical
  split
  iterate 12 next hfn => exact .opr (fun _ _ _ => ⟨rfl, rfl⟩) hop hfn
  next hfn => exact .opr1 (fun _ _ => ⟨rfl, rfl⟩) hop hfn
  iterate 2 next hfn => exact .opr (fun _ _ _ => ⟨rfl, rfl⟩) hop hfn
  next hfn => exact .opr1 (fun _ _ => ⟨rfl, rfl⟩) hop hfn
  next => exact .reserved

theorem shift (hop : w.opcode.toNat = 0x12) : Faithful w (Decode.shift w) := by
  unfold Decode.shift
  split
  iterate 26 next hfn => exact .opr (fun _ _ _ => ⟨rfl, rfl⟩) hop hfn
  next => exact .reserved

theorem mul (hop : w.opcode.toNat = 0x13) : Faithful w (Decode.mul w) := by
  unfold Decode.mul
  split
  iterate 5 next hfn => exact .opr (fun _ _ _ => ⟨rfl, rfl⟩) hop hfn
  next => exact .reserved

theorem itfp (hop : w.opcode.toNat = 0x14) : Faithful w (Decode.itfp w) := by
  unfold Decode.itfp
  split
  iterate 3 next => exact .ite (fun hfn => .itof (fun _ _ => ⟨rfl, rfl⟩) hop hfn) .reserved
  iterate 4 next hfn => exact .fpq1 (fun _ _ _ => ⟨rfl, rfl⟩) hop hfn
  next => exact .reserved

theorem vax (hop : w.opcode.toNat = 0x15) : Faithful w (Decode.vax w) := by
  unfold Decode.vax
  split
  iterate 4 next hfn => exact .fpq3 (fun _ _ _ _ => ⟨rfl, rfl⟩) hop hfn
  next hfn => exact .fpq1 (fun _ _ _ => ⟨rfl, rfl⟩) hop hfn
  iterate 7 next hfn => exact .fpq3 (fun _ _ _ _ => ⟨rfl, rfl⟩) hop hfn
  iterate 5 next hfn => exact .fpq1 (fun _ _ _ => ⟨rfl, rfl⟩) hop hfn
  next => exact .reserved

theorem ieee (hop : w.opcode.toNat = 0x16) : Faithful w (Decode.ieee w) := by
  unfold Decode.ieee
  split
  iterate 12 next hfn => exact .fpq3 (fun _ _ _ _ => ⟨rfl, rfl⟩) hop hfn
  next hfn =>
    exact .ite (fun hfn => .fp1 (fun _ _ => ⟨rfl, rfl⟩) hop hfn)
      (.ite (fun hfn => .fp1 (fun _ _ => ⟨rfl, rfl⟩) hop hfn) (.fpq1 (fun _ _ _ => ⟨rfl, rfl⟩) hop hfn))
  iterate 3 next hfn => exact .fpq1 (fun _ _ _ => ⟨rfl, rfl⟩) hop hfn
  next => exact .reserved

theorem fpMisc (hop : w.opcode.toNat = 0x17) : Faithful w (Decode.fpMisc w) := by
  unfold Decode.fpMisc
  split
  next hfn => exact .fp1 (fun _ _ => ⟨rfl, rfl⟩) hop (BitVec.eq_of_toNat_eq hfn)
  iterate 11 next hfn => exact .fp3 (fun _ _ _ => ⟨rfl, rfl⟩) hop (BitVec.eq_of_toNat_eq hfn)
  iterate 3 next hfn => exact .fp1 (fun _ _ => ⟨fpq_eq_fp, rfl⟩) hop (BitVec.eq_of_toNat_eq hfn)
  next => exact .reserved

theorem miscOp (hop : w.opcode.toNat = 0x18) : Faithful w (Decode.miscOp w) := by
  unfold Decode.miscOp
  split
  iterate 12 next hfn => exact .misc (fun _ _ => ⟨rfl, rfl⟩) hop hfn
  next => exact .reserved

theorem ext (hop : w.opcode.toNat = 0x1C) : Faithful w (Decode.ext w) := by
  unfold Decode.ext
  split
  iterate 3 next hfn => exact .opr1 (fun _ _ => ⟨rfl, rfl⟩) hop hfn
  next hfn => exact .opr (fun _ _ _ => ⟨rfl, rfl⟩) hop hfn
  iterate 6 next hfn => exact .opr1 (fun _ _ => ⟨rfl, rfl⟩) hop hfn
  iterate 8 next hfn => exact .opr (fun _ _ _ => ⟨rfl, rfl⟩) hop hfn
  iterate 2 next hfn => exact .ftoi (fun _ _ => ⟨rfl, rfl⟩) hop hfn
  next => exact .reserved

theorem eq_three_of_toNat_ne : ∀ fn : BitVec 2, fn.toNat ≠ 0 → fn.toNat ≠ 1 → fn.toNat ≠ 2 → fn = 3 := by decide

theorem jump (hop : w.opcode.toNat = 0x1A) : Faithful w (Decode.jump w) := by
  have hrow {fn : BitVec 2} (hfn : w.jumpFn = fn) : Encode.jump fn w.ra w.rb w.hint = w :=
    jump_eq_iff.2 ⟨(BitVec.eq_of_toNat_eq hop).symm, rfl, rfl, hfn.symm, rfl⟩
  unfold Decode.jump
  split
  iterate 3 next hfn => exact .instr (hrow (BitVec.eq_of_toNat_eq hfn)) rfl
  next h0 h1 h2 => exact .instr (hrow (eq_three_of_toNat_ne _ h0 h1 h2)) rfl

/-- The table of opcodes (R311), in the order of its rows. -/
theorem decode (w : IWord) : Faithful w (decode w) := by
  unfold Sys2Proof.decode
  split
  next hop => exact .callPal hop
  iterate 8 next hop => exact .mem (fun _ _ _ => ⟨rfl, rfl⟩) hop
  next hop => exact .arith hop
  next hop => exact .logical hop
  next hop => exact .shift hop
  next hop => exact .mul hop
  next hop => exact .itfp hop
  next hop => exact .vax hop
  next hop => exact .ieee hop
  next hop => exact .fpMisc hop
  next hop => exact .miscOp hop
  next hop => exact .hwpr (fun _ _ => ⟨rfl, rfl⟩) hop
  next hop => exact .jump hop
  next hop => exact .hwmem (fun _ _ _ _ => ⟨rfl, rfl⟩) hop
  next hop => exact .ext hop
  next hop => exact .hwpr (fun _ _ => ⟨rfl, rfl⟩) hop
  next => exact .ite (fun hw => .instr hw.symm rfl) .reserved
  next hop => exact .hwmem (fun _ _ _ _ => ⟨rfl, rfl⟩) hop
  iterate 16 next hop => exact .mem (fun _ _ _ => ⟨rfl, rfl⟩) hop
  iterate 16 next hop => exact .bra (fun _ _ => ⟨rfl, rfl⟩) hop
  next => exact .reserved

end Faithful

/-- Settles O2: every row of the decoder's tables is faithful. -/
theorem encodeOfDecode : Obligations.EncodeOfDecode :=
  Faithful.decode

end Sys2Proof.Encoding

/-! PROOFS. From instructions to words (30_encoding.md R315, R319): the word of an instruction is of the row that reads it back. -/

namespace Sys2Proof.Encoding

section Rows

variable {w : IWord}

/-! The opcodes whose words have a function table (R311). -/

theorem decode_of_callPal (hop : w.opcode = 0) : decode w = .instr (.callPal w.palFn) := by unfold decode; rw [hop]; rfl
theorem decode_of_arith (hop : w.opcode = 0x10) : decode w = Decode.arith w := by unfold decode; rw [hop]; rfl
theorem decode_of_logical (hop : w.opcode = 0x11) : decode w = Decode.logical w := by unfold decode; rw [hop]; rfl
theorem decode_of_shift (hop : w.opcode = 0x12) : decode w = Decode.shift w := by unfold decode; rw [hop]; rfl
theorem decode_of_mul (hop : w.opcode = 0x13) : decode w = Decode.mul w := by unfold decode; rw [hop]; rfl
theorem decode_of_itfp (hop : w.opcode = 0x14) : decode w = Decode.itfp w := by unfold decode; rw [hop]; rfl
theorem decode_of_vax (hop : w.opcode = 0x15) : decode w = Decode.vax w := by unfold decode; rw [hop]; rfl
theorem decode_of_ieee (hop : w.opcode = 0x16) : decode w = Decode.ieee w := by unfold decode; rw [hop]; rfl
theorem decode_of_fpMisc (hop : w.opcode = 0x17) : decode w = Decode.fpMisc w := by unfold decode; rw [hop]; rfl
theorem decode_of_miscOp (hop : w.opcode = 0x18) : decode w = Decode.miscOp w := by unfold decode; rw [hop]; rfl
theorem decode_of_jump (hop : w.opcode = 0x1A) : decode w = Decode.jump w := by unfold decode; rw [hop]; rfl
theorem decode_of_ext (hop : w.opcode = 0x1C) : decode w = Decode.ext w := by unfold decode; rw [hop]; rfl

end Rows

/-! One rule for each format: `hrow` says that the words of the row are read in that format. -/

section Formats

variable {op : BitVec 6} {ra rb rc fa fb fc : Reg} {e : Option Ext}

theorem decode_mem {d : BitVec 16} {k : Reg → Reg → BitVec 16 → Instr}
    (hrow : ∀ w : IWord, w.opcode = op → decode w = Decode.mem w k) :
    decode (Encode.mem op ra rb d) = .instr (k ra rb d) := by
  obtain ⟨hop, -⟩ := mem_eq_iff.1 (rfl : Encode.mem op ra rb d = _)
  exact (hrow _ hop.symm).trans (mem_eq_instr_iff.2 ⟨ra, rb, d, rfl, by rw [← hop]⟩)

theorem decode_misc {d : BitVec 16} {k : Reg → Reg → Instr}
    (hrow : ∀ w : IWord, w.opcode = op → w.disp16 = d → decode w = Decode.misc w k) :
    decode (Encode.mem op ra rb d) = .instr (k ra rb) := by
  obtain ⟨hop, -, -, hd⟩ := mem_eq_iff.1 (rfl : Encode.mem op ra rb d = _)
  exact (hrow _ hop.symm hd.symm).trans (misc_eq_instr_iff.2 ⟨ra, rb, rfl, by rw [← hop, ← hd]⟩)

theorem decode_hwpr {d : BitVec 16} {k : Reg → BitVec 16 → Instr}
    (hrow : ∀ w : IWord, w.opcode = op → decode w = Decode.hwpr w k) :
    decode (Encode.mem op ra 31 d) = .instr (k ra d) := by
  obtain ⟨hop, -⟩ := mem_eq_iff.1 (rfl : Encode.mem op ra 31 d = _)
  exact (hrow _ hop.symm).trans (hwpr_eq_instr_iff.2 ⟨ra, d, rfl, by rw [← hop]⟩)

theorem decode_bra {d : BitVec 21} {k : Reg → BitVec 21 → Instr}
    (hrow : ∀ w : IWord, w.opcode = op → decode w = Decode.bra w k) :
    decode (Encode.bra op ra d) = .instr (k ra d) := by
  obtain ⟨hop, -⟩ := bra_eq_iff.1 (rfl : Encode.bra op ra d = _)
  exact (hrow _ hop.symm).trans (bra_eq_instr_iff.2 ⟨ra, d, rfl, by rw [← hop]⟩)

theorem decode_hwmem {quad : Bool} {d : BitVec 12} {k : Reg → Reg → Bool → BitVec 12 → Instr}
    (hrow : ∀ w : IWord, w.opcode = op → decode w = Decode.hwmem w k) :
    decode (Encode.hwmem op ra rb quad d) = .instr (k ra rb quad d) := by
  obtain ⟨hop, -⟩ := hwmem_eq_iff.1 (rfl : Encode.hwmem op ra rb quad d = _)
  exact (hrow _ hop.symm).trans (hwmem_eq_instr_iff.2 ⟨ra, rb, quad, d, rfl, by rw [← hop]⟩)

theorem decode_jump {fn : BitVec 2} {h : BitVec 14} {k : Reg → Reg → BitVec 14 → Instr}
    (hrow : ∀ w : IWord, w.jumpFn = fn → Decode.jump w = .instr (k w.ra w.rb w.hint)) :
    decode (Encode.jump fn ra rb h) = .instr (k ra rb h) := by
  obtain ⟨hop, ha, hb, hfn, hh⟩ := jump_eq_iff.1 (rfl : Encode.jump fn ra rb h = _)
  rw [decode_of_jump hop.symm, hrow _ hfn.symm, ← ha, ← hb, ← hh]

theorem decode_opr {fn : BitVec 7} {o : Operand} {k : Reg → Operand → Reg → Instr}
    (hrow : ∀ w : IWord, w.opcode = op → w.fn7 = fn → decode w = Decode.opr e w k) :
    decode (Encode.opr op fn ra o rc) = .instr (k ra o rc) := by
  obtain ⟨hop, hfn, -⟩ := opcode_fn7_ra_of_opr (rfl : Encode.opr op fn ra o rc = _)
  exact (hrow _ hop hfn).trans (opr_eq_instr_iff.2 ⟨ra, o, rc, rfl, by rw [hop, hfn]⟩)

theorem decode_opr1 {fn : BitVec 7} {o : Operand} {k : Operand → Reg → Instr}
    (hrow : ∀ w : IWord, w.opcode = op → w.fn7 = fn → decode w = Decode.opr1 e w k) :
    decode (Encode.opr op fn 31 o rc) = .instr (k o rc) := by
  obtain ⟨hop, hfn, -⟩ := opcode_fn7_ra_of_opr (rfl : Encode.opr op fn 31 o rc = _)
  exact (hrow _ hop hfn).trans (opr1_eq_instr_iff.2 ⟨o, rc, rfl, by rw [hop, hfn]⟩)

theorem decode_ftoi {fn : BitVec 7} {k : Reg → Reg → Instr}
    (hrow : ∀ w : IWord, w.opcode = op → w.fn7 = fn → decode w = Decode.ftoi w k) :
    decode (Encode.opr op fn fa (.reg 31) rc) = .instr (k fa rc) := by
  obtain ⟨hop, hfn, -⟩ := opcode_fn7_ra_of_opr (rfl : Encode.opr op fn fa (.reg 31) rc = _)
  exact (hrow _ hop hfn).trans (ftoi_eq_instr_iff.2 ⟨fa, rc, rfl, by rw [hop, hfn]⟩)

theorem decode_fp3 {fn : BitVec 11} {k : Reg → Reg → Reg → Instr}
    (hrow : ∀ w : IWord, w.opcode = op → w.fn11 = fn → decode w = Decode.fp3 w k) :
    decode (Encode.fp op fn fa fb fc) = .instr (k fa fb fc) := by
  obtain ⟨hop, -, -, hfn, -⟩ := fp_eq_iff.1 (rfl : Encode.fp op fn fa fb fc = _)
  exact (hrow _ hop.symm hfn.symm).trans (fp3_eq_instr_iff.2 ⟨fa, fb, fc, rfl, by rw [← hop, ← hfn]⟩)

theorem decode_fp1 {fn : BitVec 11} {k : Reg → Reg → Instr}
    (hrow : ∀ w : IWord, w.opcode = op → w.fn11 = fn → decode w = Decode.fp1 e w k) :
    decode (Encode.fp op fn 31 fb fc) = .instr (k fb fc) := by
  obtain ⟨hop, -, -, hfn, -⟩ := fp_eq_iff.1 (rfl : Encode.fp op fn 31 fb fc = _)
  exact (hrow _ hop.symm hfn.symm).trans (fp1_eq_instr_iff.2 ⟨fb, fc, rfl, by rw [← hop, ← hfn]⟩)

theorem decode_itof {fn : BitVec 11} {k : Reg → Reg → Instr}
    (hrow : ∀ w : IWord, w.opcode = op → w.fn11 = fn → decode w = Decode.itof w k) :
    decode (Encode.fp op fn ra 31 fc) = .instr (k ra fc) := by
  obtain ⟨hop, -, -, hfn, -⟩ := fp_eq_iff.1 (rfl : Encode.fp op fn ra 31 fc = _)
  exact (hrow _ hop.symm hfn.symm).trans (itof_eq_instr_iff.2 ⟨ra, fc, rfl, by rw [← hop, ← hfn]⟩)

theorem decode_fpq3 {fn : BitVec 6} {q : Qual} {ok : Qual → Bool} {k : Qual → Reg → Reg → Reg → Instr} (hq : ok q = true)
    (hrow : ∀ w : IWord, w.opcode = op → w.fn6 = fn → decode w = Decode.qual ok w fun q => Decode.fp3 w (k q)) :
    decode (Encode.fpq op q fn fa fb fc) = .instr (k q fa fb fc) := by
  obtain ⟨hop, -, -, -, -, hfn, -⟩ := fpq_eq_iff.1 (rfl : Encode.fpq op q fn fa fb fc = _)
  exact (hrow _ hop.symm hfn.symm).trans (qual_fp3_eq_instr_iff.2 ⟨q, fa, fb, fc, hq, rfl, by rw [← hop, ← hfn]⟩)

theorem decode_fpq1 {fn : BitVec 6} {q : Qual} {ok : Qual → Bool} {k : Qual → Reg → Reg → Instr} (hq : ok q = true)
    (hrow : ∀ w : IWord, w.opcode = op → w.fn6 = fn → q.trap.bits = w.bits15to13 →
      decode w = Decode.qual ok w fun q => Decode.fp1 e w (k q)) :
    decode (Encode.fpq op q fn 31 fb fc) = .instr (k q fb fc) := by
  obtain ⟨hop, -, -, ht, -, hfn, -⟩ := fpq_eq_iff.1 (rfl : Encode.fpq op q fn 31 fb fc = _)
  exact (hrow _ hop.symm hfn.symm ht).trans (qual_fp1_eq_instr_iff.2 ⟨q, fb, fc, hq, rfl, by rw [← hop, ← hfn]⟩)

end Formats

/-! The two rows of CVTST share their low six function bits with CVTTS (R307, R316). -/

theorem decode_cvtst {w : IWord} (sw : Bool) (hop : w.opcode = 0x16) (hfn : w.fn11 = bif sw then 0x6AC else 0x2AC) :
    decode w = Decode.fp1 none w (.cvtst sw) := by
  have hfn6 : w.fn6 = 0x2C := by
    rw [(fn11_parts w).2.2, hfn]
    cases sw <;> rfl
  rw [decode_of_ieee hop]
  unfold Decode.ieee
  rw [hfn6, hfn]
  cases sw <;> rfl

/-- No trap qualifier has the upper function bits of CVTST. -/
theorem decode_cvtts {w : IWord} {t : Trap} (hop : w.opcode = 0x16) (hfn : w.fn6 = 0x2C) (ht : t.bits = w.bits15to13) :
    decode w = Decode.qual Qual.ieeeArith w fun q => Decode.fp1 none w (.cvtts q) := by
  have hne {fn : BitVec 11} (h : w.fn11 = fn) : t.bits = fn.extractLsb' 8 3 := by
    rw [ht, ← h]
    exact (fn11_parts w).1
  rw [decode_of_ieee hop]
  unfold Decode.ieee
  rw [hfn]
  refine (if_neg fun h => ?_).trans (if_neg fun h => ?_)
  · exact absurd (hne h) (by cases t <;> decide)
  · exact absurd (hne h) (by cases t <;> decide)

/-- Settles O1: the row of each instruction, by its format. -/
theorem decodeOfEncode : Obligations.DecodeOfEncode := by
  intro i hwf
  cases i with
  | callPal fn =>
    obtain ⟨hop, hfn⟩ := callPal_eq_iff.1 (rfl : (0 : BitVec 6) ++ fn = _)
    exact (decode_of_callPal hop.symm).trans (by rw [← hfn])
  | lda | ldah | ldbu | ldqU | ldwu | stw | stb | stqU | ldf | ldg | lds | ldt | stf | stg | sts | stt | ldl | ldq
  | ldlL | ldqL | stl | stq | stlC | stqC =>
    exact decode_mem fun w hop => by unfold decode; rw [hop]; rfl
  | addl | s4addl | subl | s4subl | cmpbge | s8addl | s8subl | cmpult | addq | s4addq | subq | s4subq | cmpeq
  | s8addq | s8subq | cmpule | addlV | sublV | cmplt | addqV | subqV | cmple =>
    exact decode_opr fun w hop hfn => by rw [decode_of_arith hop]; unfold Decode.arith; rw [hfn]; rfl
  | and | bic | cmovlbs | cmovlbc | bis | cmoveq | cmovne | ornot | xor | cmovlt | cmovge | eqv | cmovle | cmovgt =>
    exact decode_opr fun w hop hfn => by rw [decode_of_logical hop]; unfold Decode.logical; rw [hfn]; rfl
  | amask | implver =>
    exact decode_opr1 fun w hop hfn => by rw [decode_of_logical hop]; unfold Decode.logical; rw [hfn]; rfl
  | mskbl | extbl | insbl | mskwl | extwl | inswl | mskll | extll | insll | zap | zapnot | mskql | srl | extql | sll
  | insql | sra | mskwh | inswh | extwh | msklh | inslh | extlh | mskqh | insqh | extqh =>
    exact decode_opr fun w hop hfn => by rw [decode_of_shift hop]; unfold Decode.shift; rw [hfn]; rfl
  | mull | mulq | umulh | mullV | mulqV =>
    exact decode_opr fun w hop hfn => by rw [decode_of_mul hop]; unfold Decode.mul; rw [hfn]; rfl
  | sextb | sextw | ctpop | ctlz | cttz | unpkbw | unpkbl | pkwb | pklb =>
    exact decode_opr1 fun w hop hfn => by rw [decode_of_ext hop]; unfold Decode.ext; rw [hfn]; rfl
  | perr | minsb8 | minsw4 | minub8 | minuw4 | maxub8 | maxuw4 | maxsb8 | maxsw4 =>
    exact decode_opr fun w hop hfn => by rw [decode_of_ext hop]; unfold Decode.ext; rw [hfn]; rfl
  | ftoit | ftois =>
    exact decode_ftoi fun w hop hfn => by rw [decode_of_ext hop]; unfold Decode.ext; rw [hfn]; rfl
  | adds | subs | muls | divs | addt | subt | mult | divt | cmptun | cmpteq | cmptlt | cmptle =>
    exact decode_fpq3 hwf fun w hop hfn => by rw [decode_of_ieee hop]; unfold Decode.ieee; rw [hfn]; rfl
  | cvtts =>
    exact decode_fpq1 hwf fun _ => decode_cvtts
  | cvttq | cvtqs | cvtqt =>
    exact decode_fpq1 hwf fun w hop hfn _ => by rw [decode_of_ieee hop]; unfold Decode.ieee; rw [hfn]; rfl
  | cvtst sw =>
    exact decode_fp1 fun _ => decode_cvtst sw
  | addf | subf | mulf | divf | addg | subg | mulg | divg | cmpgeq | cmpglt | cmpgle =>
    exact decode_fpq3 hwf fun w hop hfn => by rw [decode_of_vax hop]; unfold Decode.vax; rw [hfn]; rfl
  | cvtdg | cvtgf | cvtgd | cvtgq | cvtqf | cvtqg =>
    exact decode_fpq1 hwf fun w hop hfn _ => by rw [decode_of_vax hop]; unfold Decode.vax; rw [hfn]; rfl
  | itofs | itoff | itoft =>
    exact decode_itof fun w hop hfn => by rw [decode_of_itfp hop]; unfold Decode.itfp; rw [(fn11_parts w).2.2, hfn]; rfl
  | sqrtf | sqrtg | sqrts | sqrtt =>
    exact decode_fpq1 hwf fun w hop hfn _ => by rw [decode_of_itfp hop]; unfold Decode.itfp; rw [hfn]; rfl
  | cvtlq =>
    exact decode_fp1 fun w hop hfn => by rw [decode_of_fpMisc hop]; unfold Decode.fpMisc; rw [hfn]; rfl
  | cpys | cpysn | cpyse | mtFpcr | mfFpcr | fcmoveq | fcmovne | fcmovlt | fcmovge | fcmovle | fcmovgt =>
    exact decode_fp3 fun w hop hfn => by rw [decode_of_fpMisc hop]; unfold Decode.fpMisc; rw [hfn]; rfl
  | cvtql tr =>
    refine (congrArg decode fpq_eq_fp).trans ?_
    cases tr with
    | none | u | su => exact decode_fp1 fun w hop hfn => by rw [decode_of_fpMisc hop]; unfold Decode.fpMisc; rw [hfn]; rfl
    | s | sui => cases hwf
  | trapb | excb | mb | wmb | fetch | fetchM | rpcc | rc | ecb | rs | wh64 | wh64en =>
    exact decode_misc fun w hop hfn => by rw [decode_of_miscOp hop]; unfold Decode.miscOp; rw [hfn]; rfl
  | jmp | jsr | ret | jsrCoroutine =>
    exact decode_jump fun w hfn => by unfold Decode.jump; rw [hfn]; rfl
  | br | fbeq | fblt | fble | bsr | fbne | fbge | fbgt | blbc | beq | blt | ble | blbs | bne | bge | bgt =>
    exact decode_bra fun w hop => by unfold decode; rw [hop]; rfl
  | hwMfpr | hwMtpr =>
    exact decode_hwpr fun w hop => by unfold decode; rw [hop]; rfl
  | hwLd | hwSt =>
    exact decode_hwmem fun w hop => by unfold decode; rw [hop]; rfl
  | hwRei =>
    rfl

end Sys2Proof.Encoding

/-! PROOFS. The words the spec writes out (30_encoding.md R311, R312, R318). -/

namespace Sys2Proof.Encoding

theorem decode_of_reserved_opcode {w : IWord} (h1 : 1 ≤ w.opcode.toNat) (h7 : w.opcode.toNat ≤ 7) : decode w = .reserved := by
  unfold decode
  generalize w.opcode.toNat = n at h1 h7
  interval_cases n <;> rfl

/-- Settles O3: the words of the examples by running the decoder, the reserved opcodes by its table. -/
theorem wordsOfTheSpec : Obligations.WordsOfTheSpec := by
  refine ⟨rfl, rfl, rfl, rfl, rfl, rfl, rfl, rfl, rfl, rfl, rfl, fun op h1 h7 low => ?_⟩
  have hop : IWord.opcode (op ++ low) = op := BitVec.extractLsb'_append_eq_left
  exact decode_of_reserved_opcode (by rwa [hop]) (by rwa [hop])

end Sys2Proof.Encoding

/-! PROOFS. The extensions (30_encoding.md R309, 40_integer.md R439, R440). -/

namespace Sys2Proof.Machine

/-- The extension is tested before anything else. -/
theorem exec_of_absent_extension {i : Instr} {s : State} {e : Ext} (he : i.extension = some e) (h : State.has s e = false) :
    exec i s = .next (State.take s .opcdec) := by
  cases i with
  | ldbu | ldwu | stw | stb | sextb | sextw =>
    cases he
    exact needExt_neg (e := .bwx) h _
  | ftoit | ftois | itofs | itoff | itoft | sqrtf | sqrtg | sqrts | sqrtt =>
    cases he
    exact needExt_neg (e := .fix) h _
  | ctpop | ctlz | cttz =>
    cases he
    exact needExt_neg (e := .cix) h _
  | perr | unpkbw | unpkbl | pkwb | pklb | minsb8 | minsw4 | minub8 | minuw4 | maxub8 | maxuw4 | maxsb8 | maxsw4 =>
    cases he
    exact needExt_neg (e := .mvi) h _
  | _ => cases he

theorem getLsbD_ofBool_shiftLeft (b : Bool) (j : Nat) {k : Nat} (hk : k < 64) :
    (ofBool b <<< j).getLsbD k = (k == j && b) := by
  have hpos : (!decide (k < j) && decide (k - j = 0)) = (k == j) := by
    rw [Bool.eq_iff_iff]
    simp only [Bool.and_eq_true, Bool.not_eq_true', decide_eq_false_iff_not, decide_eq_true_eq, beq_iff_eq]
    omega
  rw [← hpos]
  cases b <;> simp [ofBool, hk]

/-- The bits of AMASK's mask (40_integer.md R439). -/
theorem getLsbD_amaskOf (m : CpuModel) {k : Nat} (hk : k < 64) : (amaskOf m).getLsbD k =
    ((k == 0 && CpuModel.has m .bwx) || (k == 1 && CpuModel.has m .fix) || (k == 2 && CpuModel.has m .cix)
      || (k == 8 && CpuModel.has m .mvi)) := by
  rw [amaskOf, ← BitVec.shiftLeft_zero (ofBool (CpuModel.has m .bwx))]
  simp only [BitVec.getLsbD_or, getLsbD_ofBool_shiftLeft _ _ hk]

/-- Settles O27: the gating table model by model, the absent extensions by `exec_of_absent_extension`, AMASK by the bits of its
mask. -/
theorem extensionGating : Obligations.ExtensionGating := by
  refine ⟨fun s e => ?_, fun i s e => exec_of_absent_extension, fun s o rc => ⟨⟨_, yieldsX_finishX s rc _, fun k hk => ?_⟩, ?_⟩⟩
  · rw [State.has]
    cases e <;> cases s.cfg.cpuModel <;> rfl
  · rw [BitVec.getLsbD_and, BitVec.getLsbD_not, getLsbD_amaskOf _ hk, decide_eq_true hk, Bool.true_and]
    rfl
  · exact yieldsX_finishX s rc (implverOf s.cfg.cpuModel)

end Sys2Proof.Machine

/-! PROOFS. The templates of the integer operates (40_integer.md R400, R431, R493): each says once what its instructions complete
with. Of an instruction it then remains to show which value its operation gives. -/

namespace Sys2Proof.Machine

/-- An integer operate of two operands (R400). -/
theorem yieldsX_intOp (f : Word → Word → Word) (ra : Reg) (o : Operand) (rc : Reg) (s : State) :
    yieldsX (intOp f ra o rc s) s rc (f (State.x s ra) (State.rbv s o)) :=
  yieldsX_finishX s rc _

/-- An integer operate of two operands of which something is known about the result. -/
theorem exists_yieldsX_intOp (f : Word → Word → Word) (ra : Reg) (o : Operand) (rc : Reg) (s : State) {p : Word → Prop}
    (h : p (f (State.x s ra) (State.rbv s o))) : ∃ v, yieldsX (intOp f ra o rc s) s rc v ∧ p v :=
  ⟨_, yieldsX_intOp f ra o rc s, h⟩

/-- An instruction of an extension that is present. -/
theorem yieldsX_needExt {e : Ext} {s : State} {k : Outcome} {r : Reg} {v : Word} (he : State.has s e = true)
    (h : yieldsX k s r v) : yieldsX (needExt e s k) s r v := by
  rwa [needExt_pos he]

/-- An integer operate of an extension that is present. -/
theorem exists_yieldsX_extOp {e : Ext} {s : State} (he : State.has s e = true) (f : Word → Word → Word) (ra : Reg)
    (o : Operand) (rc : Reg) {p : Word → Prop} (h : p (f (State.x s ra) (State.rbv s o))) :
    ∃ v, yieldsX (needExt e s (intOp f ra o rc s)) s rc v ∧ p v :=
  ⟨_, yieldsX_needExt he (yieldsX_intOp f ra o rc s), h⟩

/-- An integer operate of one operand, of an extension that is present. -/
theorem yieldsX_extOp1 {e : Ext} {s : State} (he : State.has s e = true) (f : Word → Word) (o : Operand) (rc : Reg) :
    yieldsX (needExt e s (intOp1 f o rc s)) s rc (f (State.rbv s o)) :=
  yieldsX_needExt he (yieldsX_finishX s rc _)

/-- An integer operate of one operand, of an extension that is present, of which something is known about the result. -/
theorem exists_yieldsX_extOp1 {e : Ext} {s : State} (he : State.has s e = true) (f : Word → Word) (o : Operand) (rc : Reg)
    {p : Word → Prop} (h : p (f (State.rbv s o))) : ∃ v, yieldsX (needExt e s (intOp1 f o rc s)) s rc v ∧ p v :=
  ⟨_, yieldsX_extOp1 he f o rc, h⟩

/-- A conditional move whose condition holds (R431). -/
theorem yieldsX_cmov {c : Word → Bool} {ra : Reg} {s : State} (h : c (State.x s ra) = true) (o : Operand) (rc : Reg) :
    yieldsX (cmov c ra o rc s) s rc (State.rbv s o) := by
  rw [cmov, if_pos h]
  exact yieldsX_finishX s rc _

/-- A conditional move whose condition fails changes only the pc (R431). -/
theorem cmov_of_not {c : Word → Bool} {ra : Reg} {s : State} (h : ¬ c (State.x s ra) = true) (o : Operand) (rc : Reg) :
    cmov c ra o rc s = .next (State.advance s) := by
  rw [cmov, if_neg h]

/-- An instruction completed by writing `v` to integer register `r`, and recorded an integer overflow for `r` exactly if `ovf`
(R493, 60_exceptions.md R821); nothing else changed but the pc. -/
def yieldsV (out : Outcome) (s : State) (r : Reg) (v : Word) (ovf : Prop) : Prop :=
  ∃ t, out = .next t ∧ wroteX s t r v ∧ t.cpu.pc = s.cpu.pc + 4
    ∧ (ovf → t.cpu.pend = ⟨true, s.cpu.pend.sum ||| 0x40, s.cpu.pend.mask ||| (1 <<< r.toNat)⟩)
    ∧ (¬ ovf → t.cpu.pend = s.cpu.pend)
    ∧ t = { s with cpu := { s.cpu with regs := t.cpu.regs, pc := t.cpu.pc, pend := t.cpu.pend } } ∧ sameBytes s t

/-- The /V template: what it writes is the wrapped exact value, and it traps iff the exact value does not fit. -/
theorem yieldsV_intOpV {exact : Word → Word → Int} {wrap : Int → Word} {overflows : Int → Bool} {ra : Reg} {o : Operand}
    {s : State} {v : Word} {ovf : Prop} (hv : wrap (exact (State.x s ra) (State.rbv s o)) = v)
    (hovf : overflows (exact (State.x s ra) (State.rbv s o)) = true ↔ ovf) (rc : Reg) :
    yieldsV (intOpV exact wrap overflows ra o rc s) s rc v ovf := by
  subst hv
  rw [← hovf]
  have hwrote := wroteX_finishX s rc (wrap (exact (State.x s ra) (State.rbv s o)))
  unfold intOpV
  dsimp only
  split
  next htrap =>
    exact ⟨_, rfl, hwrote, rfl, fun _ => rfl, fun hno => absurd htrap hno, rfl, sameBytes_of_eq rfl rfl⟩
  next hfits =>
    exact ⟨_, rfl, hwrote, rfl, fun hyes => absurd hyes hfits, fun _ => rfl, rfl, sameBytes_of_eq rfl rfl⟩

end Sys2Proof.Machine

/-! PROOFS. Integer arithmetic, compare, logic, shifts, conditional moves and multiply (40_integer.md R401 to R444, R468 to
R472). -/

namespace Sys2Proof.Machine

/-! Addition and subtraction. -/

/-- An integer operate with a longword result. -/
theorem yieldsX_longOp (f : Word → Word → Word) (ra : Reg) (o : Operand) (rc : Reg) (s : State) :
    yieldsX (intOp (fun a b => sext32 (f a b)) ra o rc s) s rc
      (((f (State.x s ra) (State.rbv s o)).extractLsb' 0 32).signExtend 64) :=
  sext32_eq (f (State.x s ra) (State.rbv s o)) ▸ yieldsX_intOp (fun a b => sext32 (f a b)) ra o rc s

/-- Settles O17: by the templates of the quadword and the longword operates. -/
theorem integerAddSubtract : Obligations.IntegerAddSubtract := fun s ra rc o =>
  ⟨yieldsX_longOp (fun a b => a + b) ra o rc s, yieldsX_intOp (fun a b => a + b) ra o rc s,
    yieldsX_longOp (fun a b => a - b) ra o rc s, yieldsX_intOp (fun a b => a - b) ra o rc s,
    yieldsX_longOp (fun a b => (a <<< 2) + b) ra o rc s, yieldsX_longOp (fun a b => (a <<< 3) + b) ra o rc s,
    yieldsX_intOp (fun a b => (a <<< 2) + b) ra o rc s, yieldsX_intOp (fun a b => (a <<< 3) + b) ra o rc s,
    yieldsX_longOp (fun a b => (a <<< 2) - b) ra o rc s, yieldsX_longOp (fun a b => (a <<< 3) - b) ra o rc s,
    yieldsX_intOp (fun a b => (a <<< 2) - b) ra o rc s, yieldsX_intOp (fun a b => (a <<< 3) - b) ra o rc s⟩

/-! The compares. -/

theorem ofBool_decide (p : Prop) [Decidable p] : ofBool (decide p) = if p then 1 else 0 := by
  by_cases h : p
  · rw [if_pos h, decide_eq_true h]
    rfl
  · rw [if_neg h, decide_eq_false h]
    rfl

/-- A compare of the operands (R417 to R421). -/
theorem yieldsX_compare (p : Word → Word → Prop) [∀ a b, Decidable (p a b)] (ra : Reg) (o : Operand) (rc : Reg)
    (s : State) :
    yieldsX (intOp (fun a b => ofBool (decide (p a b))) ra o rc s) s rc
      (if p (State.x s ra) (State.rbv s o) then 1 else 0) :=
  ofBool_decide (p (State.x s ra) (State.rbv s o)) ▸ yieldsX_intOp (fun a b => ofBool (decide (p a b))) ra o rc s

/-- The bits of CMPBGE's result (R422). -/
theorem getLsbD_cmpBytesGe (a b : Word) (k : Nat) : (cmpBytesGe a b).getLsbD k
    = (decide (k < 8) && decide ((byteAt b k).toNat ≤ (byteAt a k).toNat)) := by
  rw [cmpBytesGe, BitVec.getLsbD_setWidth]
  by_cases hk : k < 8
  · interval_cases k <;> simp only [BitVec.getLsbD_append, BitVec.getLsbD_ofBool] <;> rfl
  · rw [BitVec.getLsbD_of_ge _ _ (by omega), decide_eq_false hk, Bool.and_false, Bool.false_and]

/-- Settles O18: by the template of the compares; CMPBGE by the bits of its result. -/
theorem integerCompare : Obligations.IntegerCompare := fun s ra rc o =>
  ⟨yieldsX_compare (fun a b => a = b) ra o rc s, yieldsX_compare (fun a b => a.toInt < b.toInt) ra o rc s,
    yieldsX_compare (fun a b => a.toInt ≤ b.toInt) ra o rc s, yieldsX_compare (fun a b => a.toNat < b.toNat) ra o rc s,
    yieldsX_compare (fun a b => a.toNat ≤ b.toNat) ra o rc s,
    exists_yieldsX_intOp cmpBytesGe ra o rc s fun k _ => getLsbD_cmpBytesGe _ _ k⟩

/-! Overflow. The bits kept of an exact sum, difference or product are those of the wrapped operation. -/

theorem ofInt_toInt_sub {n : Nat} (x y : BitVec n) : BitVec.ofInt n (x.toInt - y.toInt) = x - y := by
  rw [Int.sub_eq_add_neg, BitVec.ofInt_add, BitVec.ofInt_neg, BitVec.ofInt_toInt, BitVec.ofInt_toInt, BitVec.sub_eq_add_neg]

theorem ofInt_toInt_add {n : Nat} (x y : BitVec n) : BitVec.ofInt n (x.toInt + y.toInt) = x + y := by
  rw [BitVec.ofInt_add, BitVec.ofInt_toInt, BitVec.ofInt_toInt]

theorem ofInt_toInt_mul {n : Nat} (x y : BitVec n) : BitVec.ofInt n (x.toInt * y.toInt) = x * y := by
  rw [BitVec.ofInt_mul, BitVec.ofInt_toInt, BitVec.ofInt_toInt]

theorem setWidth_sub_low {n : Nat} (hn : n ≤ 64) (a b : Word) : (a - b).setWidth n = a.setWidth n - b.setWidth n := by
  rw [BitVec.sub_eq_add_neg, BitVec.setWidth_add _ _ hn, BitVec.setWidth_neg_of_le hn, ← BitVec.sub_eq_add_neg]

theorem wrap32_eq {n : Int} {v : Word} (h : BitVec.ofInt 32 n = v.setWidth 32) : wrap32 n = sext32 v := by
  rw [wrap32, h, sext32]

theorem overflows32_iff (n : Int) : overflows32 n = true ↔ n < -2 ^ 31 ∨ 2 ^ 31 ≤ n := by
  simp only [overflows32, Bool.or_eq_true, decide_eq_true_eq]
  omega

theorem overflows64_iff (n : Int) : overflows64 n = true ↔ n < -2 ^ 63 ∨ 2 ^ 63 ≤ n := by
  simp only [overflows64, Bool.or_eq_true, decide_eq_true_eq]
  omega

/-- A quadword /V instruction: its exact value wraps to `v`. -/
theorem yieldsV_quadOp {exact : Word → Word → Int} {ra : Reg} {o : Operand} {s : State} {v : Word}
    (h : BitVec.ofInt 64 (exact (State.x s ra) (State.rbv s o)) = v) (rc : Reg) :
    yieldsV (intOpV exact wrap64 overflows64 ra o rc s) s rc v
      (exact (State.x s ra) (State.rbv s o) < -2 ^ 63 ∨ 2 ^ 63 ≤ exact (State.x s ra) (State.rbv s o)) :=
  yieldsV_intOpV h (overflows64_iff _) rc

/-- A longword /V instruction: its exact value, of the low longwords, wraps to the low longword of `v`. -/
theorem yieldsV_longOp {exact : BitVec 32 → BitVec 32 → Int} {ra : Reg} {o : Operand} {s : State} {v : Word}
    (h : BitVec.ofInt 32 (exact ((State.x s ra).setWidth 32) ((State.rbv s o).setWidth 32)) = v.setWidth 32) (rc : Reg) :
    yieldsV (intOpV (fun a b => exact (a.setWidth 32) (b.setWidth 32)) wrap32 overflows32 ra o rc s) s rc
      ((v.extractLsb' 0 32).signExtend 64)
      (exact ((State.x s ra).extractLsb' 0 32) ((State.rbv s o).extractLsb' 0 32) < -2 ^ 31
        ∨ 2 ^ 31 ≤ exact ((State.x s ra).extractLsb' 0 32) ((State.rbv s o).extractLsb' 0 32)) := by
  simp only [← BitVec.setWidth_eq_extractLsb' (by decide : 32 ≤ 64)]
  exact yieldsV_intOpV (wrap32_eq h) (overflows32_iff _) rc

/-- Settles O19: by the templates of the /V instructions, with the wrapped value of each exact result. -/
theorem integerOverflowTraps : Obligations.IntegerOverflowTraps := fun s ra rc o =>
  ⟨yieldsV_longOp (exact := fun x y => x.toInt + y.toInt)
      ((ofInt_toInt_add _ _).trans (BitVec.setWidth_add _ _ (by decide)).symm) rc,
    yieldsV_quadOp (exact := fun a b => a.toInt + b.toInt) (ofInt_toInt_add _ _) rc,
    yieldsV_longOp (exact := fun x y => x.toInt - y.toInt)
      ((ofInt_toInt_sub _ _).trans (setWidth_sub_low (by decide) _ _).symm) rc,
    yieldsV_quadOp (exact := fun a b => a.toInt - b.toInt) (ofInt_toInt_sub _ _) rc,
    yieldsV_longOp (exact := fun x y => x.toInt * y.toInt)
      ((ofInt_toInt_mul _ _).trans (BitVec.setWidth_mul _ _ (by decide)).symm) rc,
    yieldsV_quadOp (exact := fun a b => a.toInt * b.toInt) (ofInt_toInt_mul _ _) rc⟩

/-! Logic and shifts. -/

/-- A shift count is taken modulo 64 (R442). -/
theorem shiftCount_eq (b : Word) : (b.extractLsb' 0 6).toNat = b.toNat % 64 := by
  rw [BitVec.extractLsb'_toNat, Nat.shiftRight_zero]

theorem getLsbD_not_of_lt {k : Nat} (hk : k < 64) (b : Word) : (~~~b).getLsbD k = !b.getLsbD k := by
  rw [BitVec.getLsbD_not, decide_eq_true hk, Bool.true_and]

theorem getLsbD_xor_not {k : Nat} (hk : k < 64) (a b : Word) : (a ^^^ ~~~b).getLsbD k = (a.getLsbD k == b.getLsbD k) := by
  rw [BitVec.getLsbD_xor, getLsbD_not_of_lt hk]
  cases a.getLsbD k <;> cases b.getLsbD k <;> rfl

theorem getLsbD_sll {k : Nat} (hk : k < 64) (a : Word) (n : Nat) :
    (a <<< n).getLsbD k = (decide (n ≤ k) && a.getLsbD (k - n)) := by
  rw [BitVec.getLsbD_shiftLeft, decide_eq_true hk, Bool.true_and, ← decide_not, decide_eq_decide.2 not_lt]

theorem getLsbD_srl (a : Word) (n k : Nat) : (a >>> n).getLsbD k = (decide (k + n < 64) && a.getLsbD (k + n)) := by
  rw [BitVec.getLsbD_ushiftRight, Nat.add_comm n]
  by_cases hin : k + n < 64
  · rw [decide_eq_true hin, Bool.true_and]
  · rw [decide_eq_false hin, Bool.false_and, BitVec.getLsbD_of_ge _ _ (not_lt.1 hin)]

theorem getLsbD_sra {k : Nat} (hk : k < 64) (a : Word) (n : Nat) :
    (a.sshiftRight n).getLsbD k = if k + n < 64 then a.getLsbD (k + n) else a.getLsbD 63 := by
  rw [BitVec.getLsbD_sshiftRight, decide_eq_false (not_le.2 hk), Nat.add_comm n, Bool.not_false, Bool.true_and,
    BitVec.msb_eq_getLsbD_last]

/-- Settles O20: each operation by the law of its bits. -/
theorem logicalAndShifts : Obligations.LogicalAndShifts := fun s ra rc o => by
  dsimp only
  rw [← shiftCount_eq]
  exact ⟨exists_yieldsX_intOp (fun a b => a &&& b) ra o rc s fun k _ => BitVec.getLsbD_and,
    exists_yieldsX_intOp (fun a b => a &&& ~~~b) ra o rc s fun k hk => getLsbD_not_of_lt hk _ ▸ BitVec.getLsbD_and,
    exists_yieldsX_intOp (fun a b => a ||| b) ra o rc s fun k _ => BitVec.getLsbD_or,
    exists_yieldsX_intOp (fun a b => a ||| ~~~b) ra o rc s fun k hk => getLsbD_not_of_lt hk _ ▸ BitVec.getLsbD_or,
    exists_yieldsX_intOp (fun a b => a ^^^ b) ra o rc s fun k _ => BitVec.getLsbD_xor,
    exists_yieldsX_intOp (fun a b => a ^^^ ~~~b) ra o rc s fun k hk => getLsbD_xor_not hk _ _,
    exists_yieldsX_intOp (fun a b => a <<< (b.extractLsb' 0 6).toNat) ra o rc s fun k hk => getLsbD_sll hk _ _,
    exists_yieldsX_intOp (fun a b => a >>> (b.extractLsb' 0 6).toNat) ra o rc s fun k _ => getLsbD_srl _ _ k,
    exists_yieldsX_intOp (fun a b => a.sshiftRight (b.extractLsb' 0 6).toNat) ra o rc s fun k hk => getLsbD_sra hk _ _⟩

/-! The conditional moves. -/

theorem ZeroTest.holds_iff (t : ZeroTest) (v : Word) : ZeroTest.holds t v = true ↔ (match t with
    | .eq => v = 0
    | .ne => v ≠ 0
    | .lt => v.toInt < 0
    | .ge => 0 ≤ v.toInt
    | .le => v.toInt ≤ 0
    | .gt => 0 < v.toInt
    | .lbs => v.getLsbD 0 = true
    | .lbc => v.getLsbD 0 = false) := by
  cases t with
  | eq => exact beq_iff_eq
  | ne => exact bne_iff_ne
  | lt | ge | le | gt => exact decide_eq_true_iff
  | lbs => exact Iff.rfl
  | lbc => exact Bool.not_eq_true' _ ▸ Iff.rfl

/-- Both outcomes of a conditional move (R431 to R438). -/
theorem cmov_moves {c : Word → Bool} {ra : Reg} {s : State} {cond : Prop} (h : c (State.x s ra) = true ↔ cond) (o : Operand)
    (rc : Reg) : (cond → yieldsX (cmov c ra o rc s) s rc (State.rbv s o))
      ∧ (¬ cond → cmov c ra o rc s = .next { s with cpu := { s.cpu with pc := s.cpu.pc + 4 } }) :=
  ⟨fun hc => yieldsX_cmov (h.2 hc) o rc, fun hc => cmov_of_not (mt h.1 hc) o rc⟩

/-- Settles O21: each move by its test against zero. -/
theorem conditionalMoves : Obligations.ConditionalMoves := fun _ _ rc o =>
  ⟨cmov_moves (ZeroTest.holds_iff .eq _) o rc, cmov_moves (ZeroTest.holds_iff .ne _) o rc,
    cmov_moves (ZeroTest.holds_iff .lt _) o rc, cmov_moves (ZeroTest.holds_iff .ge _) o rc,
    cmov_moves (ZeroTest.holds_iff .le _) o rc, cmov_moves (ZeroTest.holds_iff .gt _) o rc,
    cmov_moves (ZeroTest.holds_iff .lbs _) o rc, cmov_moves (ZeroTest.holds_iff .lbc _) o rc⟩

/-! Multiplication. -/

/-- The high quadword of an unsigned product (R472). -/
theorem toNat_umulh (a b : Word) : (BitVec.ofNat 64 (a.toNat * b.toNat / 2 ^ 64)).toNat = a.toNat * b.toNat / 2 ^ 64 := by
  have hlt : a.toNat * b.toNat < 2 ^ 64 * 2 ^ 64 := Nat.mul_lt_mul'' a.isLt b.isLt
  rw [BitVec.toNat_ofNat, Nat.mod_eq_of_lt (Nat.div_lt_of_lt_mul hlt)]

/-- Settles O24: MULL on the low longwords; MULQ and UMULH are the remainder and the quotient of the product by 2^64. -/
theorem integerMultiply : Obligations.IntegerMultiply := fun s ra rc o => by
  have low := yieldsX_intOp (fun a b => a * b) ra o rc s
  have high := yieldsX_intOp (fun a b => BitVec.ofNat 64 (a.toNat * b.toNat / 2 ^ 64)) ra o rc s
  refine ⟨?mull, _, _, low, high, ?product⟩
  case mull =>
    rw [← BitVec.setWidth_eq_extractLsb' (by decide), ← BitVec.setWidth_eq_extractLsb' (by decide),
      ← BitVec.setWidth_mul _ _ (by decide : 32 ≤ 64)]
    exact yieldsX_intOp (fun a b => sext32 (a * b)) ra o rc s
  case product =>
    rw [toNat_umulh, BitVec.toNat_mul]
    exact Nat.div_add_mod' _ _

end Sys2Proof.Machine

/-! PROOFS. Lanes (40_integer.md R441, R445 to R467): the lanes of a word that is made of lanes, of a shifted word and of a masked
one; from them the ZAP, MSK, EXT and INS families. -/

namespace Sys2Proof.Machine

/-! Words made of lanes. -/

/-- The lowest lane of an append. -/
theorem lane_append_zero {m n : Nat} {x : BitVec m} {y : BitVec n} : (x ++ y).extractLsb' (n * 0) n = y :=
  BitVec.extractLsb'_append_eq_right

/-- A higher lane of an append. -/
theorem lane_append_succ {m n i : Nat} {x : BitVec m} {y z : BitVec n} (h : x.extractLsb' (n * i) n = z) :
    (x ++ y).extractLsb' (n * (i + 1)) n = z := by
  rw [BitVec.extractLsb'_append_eq_of_le (by rw [Nat.mul_succ]; omega), Nat.mul_succ, Nat.add_sub_cancel, h]

theorem byteAt_ofByteLanes (f : Nat → Byte) {k : Nat} (hk : k < 8) : byteAt (ofByteLanes f) k = f k := by
  unfold byteAt ofByteLanes
  obtain hlower | rfl := Nat.lt_succ_iff_lt_or_eq.1 hk
  · interval_cases k
    all_goals repeat apply lane_append_succ
    all_goals exact lane_append_zero
  · iterate 7 apply lane_append_succ
    exact BitVec.extractLsb'_eq_self

theorem wordAt_ofWordLanes (f : Nat → BitVec 16) {k : Nat} (hk : k < 4) : wordAt (ofWordLanes f) k = f k := by
  unfold wordAt ofWordLanes
  obtain hlower | rfl := Nat.lt_succ_iff_lt_or_eq.1 hk
  · interval_cases k
    all_goals repeat apply lane_append_succ
    all_goals exact lane_append_zero
  · iterate 3 apply lane_append_succ
    exact BitVec.extractLsb'_eq_self

/-! Bytes of shifted words. -/

theorem getLsbD_byteAt (v : Word) (i j : Nat) : (byteAt v i).getLsbD j = (decide (j < 8) && v.getLsbD (8 * i + j)) :=
  BitVec.getLsbD_extractLsb' _ _ _ _

/-- A byte is what its bits are. -/
theorem byteAt_eq {v : Word} {i : Nat} {x : Byte} (h : ∀ j < 8, v.getLsbD (8 * i + j) = x.getLsbD j) : byteAt v i = x :=
  BitVec.eq_of_getLsbD_eq fun j hj => by rw [getLsbD_byteAt, decide_eq_true hj, Bool.true_and, h j hj]

/-- Above the eight bytes there is nothing. -/
theorem byteAt_of_ge (v : Word) {i : Nat} (hi : 8 ≤ i) : byteAt v i = 0 :=
  byteAt_eq fun j _ => (BitVec.getLsbD_of_ge _ _ (by omega)).trans BitVec.getLsbD_zero.symm

theorem byteAt_ushiftRight (v : Word) (n k : Nat) : byteAt (v >>> (8 * n)) k = byteAt v (k + n) :=
  byteAt_eq fun j hj => by
    rw [BitVec.getLsbD_ushiftRight, getLsbD_byteAt, decide_eq_true hj, Bool.true_and]
    congr 1
    omega

theorem byteAt_shiftLeft_of_le (v : Word) {n k : Nat} (hn : n ≤ k) (hk : k < 8) : byteAt (v <<< (8 * n)) k = byteAt v (k - n) :=
  byteAt_eq fun j hj => by
    rw [getLsbD_sll (by omega), getLsbD_byteAt, decide_eq_true hj, decide_eq_true (by omega), Bool.true_and, Bool.true_and]
    congr 1
    omega

theorem byteAt_shiftLeft_of_lt (v : Word) {n k : Nat} (hn : k < n) (hk : k < 8) : byteAt (v <<< (8 * n)) k = 0 :=
  byteAt_eq fun j hj => by
    rw [getLsbD_sll (by omega), decide_eq_false (by omega), Bool.false_and]
    exact BitVec.getLsbD_zero.symm

/-- The bytes of a word, one by one. -/
def bytesAre (f : Nat → Byte) (v : Word) : Prop := ∀ k < 8, byteAt v k = f k

/-! Byte masks (R441). -/

/-- The number of bytes of an element. -/
def Width.bytes : Width → Nat
  | .byte => 1
  | .word => 2
  | .long => 4
  | .quad => 8

theorem Width.bytes_le (w : Width) : w.bytes ≤ 8 := by cases w <;> decide

theorem getLsbD_mask (w : Width) (k : Nat) : (Width.mask w).getLsbD k = decide (k < w.bytes) := by
  by_cases hk : k < 8
  · revert k
    cases w <;> decide
  · rw [BitVec.getLsbD_of_ge _ _ (not_lt.1 hk), decide_eq_false fun h => hk (h.trans_le w.bytes_le)]

theorem byteOff_eq (b : Word) : byteOff b = b.toNat % 8 := by
  rw [byteOff, BitVec.extractLsb'_toNat, Nat.shiftRight_zero]

theorem byteOff_lt (b : Word) : byteOff b < 8 := (b.extractLsb' 0 3).isLt

/-- `bm` covers the bytes of the element, from the offset up, in two quadwords. -/
theorem getLsbD_byteMask (w : Width) (b : Word) {k : Nat} (hk : k < 16) :
    (byteMask w b).getLsbD k = true ↔ byteOff b ≤ k ∧ k < byteOff b + w.bytes := by
  simp only [byteMask, BitVec.getLsbD_shiftLeft, BitVec.getLsbD_setWidth, getLsbD_mask, Bool.and_eq_true,
    Bool.not_eq_true', decide_eq_true_eq, decide_eq_false_iff_not]
  omega

theorem getLsbD_maskLow (w : Width) (b : Word) {k : Nat} (hk : k < 8) :
    (maskLow w b).getLsbD k = true ↔ byteOff b ≤ k ∧ k < byteOff b + w.bytes := by
  rw [maskLow, BitVec.getLsbD_extractLsb', decide_eq_true hk, Bool.true_and, Nat.zero_add,
    getLsbD_byteMask w b (by omega)]

theorem getLsbD_maskHigh (w : Width) (b : Word) {k : Nat} (hk : k < 8) :
    (maskHigh w b).getLsbD k = true ↔ k + 8 < byteOff b + w.bytes := by
  have hoff := byteOff_lt b
  rw [maskHigh, BitVec.getLsbD_extractLsb', decide_eq_true hk, Bool.true_and, getLsbD_byteMask w b (by omega)]
  omega

theorem byteAt_byteZap (v : Word) (m : BitVec 8) {k : Nat} (hk : k < 8) :
    byteAt (byteZap v m) k = if m.getLsbD k then 0 else byteAt v k :=
  byteAt_ofByteLanes _ hk

theorem byteAt_byteZapnot (v : Word) (m : BitVec 8) {k : Nat} (hk : k < 8) :
    byteAt (byteZapnot v m) k = if m.getLsbD k then byteAt v k else 0 :=
  byteAt_ofByteLanes _ hk

/-! ZAP, ZAPNOT and the MSK family (R445 to R453). -/

/-- Byte `k` of `v` is 0 where `p` holds and that of `a` elsewhere. -/
def clearedBytes (a : Word) (p : Nat → Prop) (v : Word) : Prop :=
  ∀ k < 8, (p k → byteAt v k = 0) ∧ (¬ p k → byteAt v k = byteAt a k)

theorem clearedBytes_byteZap {a : Word} {m : BitVec 8} {p : Nat → Prop} (h : ∀ k < 8, m.getLsbD k = true ↔ p k) :
    clearedBytes a p (byteZap a m) := fun k hk => by
  rw [← h k hk, byteAt_byteZap a m hk]
  exact ⟨fun hset => if_pos hset, fun hclear => if_neg hclear⟩

theorem clearedBytes_byteZapnot {a : Word} {m : BitVec 8} {p : Nat → Prop} (h : ∀ k < 8, m.getLsbD k = false ↔ p k) :
    clearedBytes a p (byteZapnot a m) := fun k hk => by
  rw [← h k hk, byteAt_byteZapnot a m hk, Bool.not_eq_false]
  exact ⟨fun hclear => if_neg (Bool.eq_false_iff.1 hclear), fun hset => if_pos hset⟩

theorem clearedBytes_mskLow (w : Width) (a b : Word) :
    clearedBytes a (fun k => byteOff b ≤ k ∧ k < byteOff b + w.bytes) (mskLow w a b) :=
  clearedBytes_byteZap fun _ hk => getLsbD_maskLow w b hk

theorem clearedBytes_mskHigh (w : Width) (a b : Word) :
    clearedBytes a (fun k => k + 8 < byteOff b + w.bytes) (mskHigh w a b) :=
  clearedBytes_byteZap fun _ hk => getLsbD_maskHigh w b hk

theorem getLsbD_setWidth_byte (b : Word) {k : Nat} (hk : k < 8) : (b.setWidth 8).getLsbD k = b.getLsbD k := by
  rw [BitVec.getLsbD_setWidth, decide_eq_true hk, Bool.true_and]

theorem clearedBytes_zap (a b : Word) : clearedBytes a (fun k => b.getLsbD k = true) (byteZap a (b.setWidth 8)) :=
  clearedBytes_byteZap fun k hk => by rw [getLsbD_setWidth_byte b hk]

theorem clearedBytes_zapnot (a b : Word) :
    clearedBytes a (fun k => b.getLsbD k = false) (byteZapnot a (b.setWidth 8)) :=
  clearedBytes_byteZapnot fun k hk => by rw [getLsbD_setWidth_byte b hk]

/-- Settles O22: each instruction clears the bytes that its mask names. -/
theorem zapAndMaskBytes : Obligations.ZapAndMaskBytes := fun s ra rc o => by
  dsimp only
  rw [← byteOff_eq]
  have zap := exists_yieldsX_intOp (fun a b => byteZap a (b.setWidth 8)) ra o rc s (clearedBytes_zap _ _)
  have zapnot := exists_yieldsX_intOp (fun a b => byteZapnot a (b.setWidth 8)) ra o rc s (clearedBytes_zapnot _ _)
  have low (w : Width) := exists_yieldsX_intOp (mskLow w) ra o rc s (clearedBytes_mskLow w _ _)
  have high (w : Width) := exists_yieldsX_intOp (mskHigh w) ra o rc s (clearedBytes_mskHigh w _ _)
  exact ⟨zap, zapnot, low .byte, low .word, low .long, low .quad, high .word, high .long, high .quad⟩

/-! The EXT and INS families (R454 to R467). -/

theorem hloc_of_zero {b : Word} (h : byteOff b = 0) : hloc b = 0 := by rw [hloc, h]

theorem hloc_of_ne_zero {b : Word} (h : byteOff b ≠ 0) : hloc b = 8 * (8 - byteOff b) := by
  have hoff := byteOff_lt b
  rw [hloc]
  omega

theorem bytesAre_extLow (w : Width) (a b : Word) : bytesAre (fun k =>
    if k < w.bytes ∧ k + byteOff b < 8 then byteAt a (k + byteOff b) else 0) (extLow w a b) := fun k hk => by
  beta_reduce
  rw [extLow, byteAt_byteZapnot _ _ hk, getLsbD_mask, byteAt_ushiftRight]
  by_cases hin : k + byteOff b < 8
  · simp only [hin, and_true, decide_eq_true_eq]
  · rw [byteAt_of_ge a (not_lt.1 hin), ite_self, ite_self]

/-- A byte of the shifted operand of the high extracts. -/
theorem byteAt_shiftLeft_hloc (a b : Word) {k : Nat} (hk : k < 8) : byteAt (a <<< hloc b) k
    = if byteOff b = 0 then byteAt a k else if 8 ≤ k + byteOff b then byteAt a (k + byteOff b - 8) else 0 := by
  have hoff := byteOff_lt b
  by_cases hzero : byteOff b = 0
  · rw [if_pos hzero, hloc_of_zero hzero, BitVec.shiftLeft_zero]
  · rw [if_neg hzero, hloc_of_ne_zero hzero]
    split
    next hin =>
      rw [byteAt_shiftLeft_of_le a (by omega) hk]
      congr 1
      omega
    next hout => exact byteAt_shiftLeft_of_lt a (by omega) hk

theorem bytesAre_extHigh (w : Width) (a b : Word) : bytesAre (fun k =>
    if k < w.bytes then
        (if byteOff b = 0 then byteAt a k else if 8 ≤ k + byteOff b then byteAt a (k + byteOff b - 8) else 0)
      else 0) (extHigh w a b) := fun k hk => by
  rw [extHigh, byteAt_byteZapnot _ _ hk, getLsbD_mask, byteAt_shiftLeft_hloc a b hk]
  simp only [decide_eq_true_eq]

theorem bytesAre_insLow (w : Width) (a b : Word) : bytesAre (fun k =>
    if byteOff b ≤ k ∧ k < byteOff b + w.bytes then byteAt a (k - byteOff b) else 0) (insLow w a b) := fun k hk => by
  simp only [insLow, byteAt_byteZapnot _ _ hk, getLsbD_maskLow w b hk]
  split
  next hin => exact byteAt_shiftLeft_of_le a hin.1 hk
  next => rfl

/-- The high inserts take bytes only at an offset that is not 0. -/
theorem bytesAre_insHigh (w : Width) (a b : Word) : bytesAre (fun k =>
    if k + 8 < byteOff b + w.bytes then byteAt a (k + 8 - byteOff b) else 0) (insHigh w a b) := fun k hk => by
  simp only [insHigh, byteAt_byteZapnot _ _ hk, getLsbD_maskHigh w b hk]
  split
  next hin =>
    have hw := w.bytes_le
    have hoff := byteOff_lt b
    rw [hloc_of_ne_zero (by omega), byteAt_ushiftRight, Nat.add_sub_assoc hoff.le k]
  next => rfl

/-- Settles O23: the bytes of the four shapes, for each width. -/
theorem extractAndInsertBytes : Obligations.ExtractAndInsertBytes := fun s ra rc o => by
  dsimp only
  rw [← byteOff_eq]
  have extl (w : Width) := exists_yieldsX_intOp (extLow w) ra o rc s (bytesAre_extLow w _ _)
  have exth (w : Width) := exists_yieldsX_intOp (extHigh w) ra o rc s (bytesAre_extHigh w _ _)
  have insl (w : Width) := exists_yieldsX_intOp (insLow w) ra o rc s (bytesAre_insLow w _ _)
  have insh (w : Width) := exists_yieldsX_intOp (insHigh w) ra o rc s (bytesAre_insHigh w _ _)
  exact ⟨extl .byte, extl .word, extl .long, extl .quad, exth .word, exth .long, exth .quad,
    insl .byte, insl .word, insl .long, insl .quad, insh .word, insh .long, insh .quad⟩

end Sys2Proof.Machine

/-! PROOFS. The extensions BWX, CIX and MVI (40_integer.md R475 to R492), with the extension present. -/

namespace Sys2Proof.Machine

/-! Counts of bits (R477 to R479). -/

theorem toNat_popCount (b : Word) :
    (popCount b).toNat = (Finset.univ.filter fun k : Fin 64 => b.getLsbD k = true).card := by
  have hcount : (List.range 64).countP (fun i => b.getLsbD i)
      = (Finset.univ.filter fun k : Fin 64 => b.getLsbD k = true).card :=
    calc (List.range 64).countP (fun i => b.getLsbD i)
        = Nat.count (fun i => b.getLsbD i = true) 64 := by simp only [Nat.count, Bool.decide_eq_true]
      _ = ∑ i ∈ Finset.range 64, if b.getLsbD i = true then 1 else 0 := by
          rw [Nat.count_eq_card_filter_range, Finset.card_filter]
      _ = _ := by rw [Finset.sum_range, ← Finset.card_filter]
  have hle : (List.range 64).countP (fun i => b.getLsbD i) ≤ 64 := List.countP_le_length.trans_eq List.length_range
  rw [popCount, BitVec.toNat_ofNat, Nat.mod_eq_of_lt (by omega), hcount]

/-- The length of the longest run of places, from 0 up to at most 64, of which `p` holds. -/
def runLength (p : Nat → Bool) : Nat := ((List.range 64).takeWhile p).length

theorem runLength_eq_findIdx (p : Nat → Bool) : runLength p = (List.range 64).findIdx fun i => !p i := by
  have hle : (List.range 64).findIdx (fun i => !p i) ≤ (List.range 64).length := List.findIdx_le_length
  rw [runLength, List.takeWhile_eq_take_findIdx_not, List.length_take, Nat.min_eq_left hle]

theorem runLength_le (p : Nat → Bool) : runLength p ≤ 64 := by
  rw [runLength_eq_findIdx]
  exact List.findIdx_le_length.trans_eq List.length_range

theorem of_lt_runLength {p : Nat → Bool} {k : Nat} (h : k < runLength p) : p k = true := by
  rw [runLength_eq_findIdx] at h
  simpa using List.not_of_lt_findIdx h

theorem not_at_runLength {p : Nat → Bool} (h : runLength p < 64) : p (runLength p) = false := by
  rw [runLength_eq_findIdx] at h ⊢
  have hlt : (List.range 64).findIdx (fun i => !p i) < (List.range 64).length := h.trans_eq List.length_range.symm
  simpa using List.findIdx_getElem (w := hlt)

/-- What a count of zeros says of the bits, in the order `place` in which it runs through them. -/
theorem count_zeros (b : Word) (place : Nat → Nat) {v : Word}
    (hv : v = BitVec.ofNat 64 (runLength fun i => !b.getLsbD (place i))) :
    v.toNat ≤ 64 ∧ (∀ k < v.toNat, b.getLsbD (place k) = false) ∧ (v.toNat < 64 → b.getLsbD (place v.toNat) = true) := by
  have hle := runLength_le fun i => !b.getLsbD (place i)
  rw [hv, BitVec.toNat_ofNat, Nat.mod_eq_of_lt (by omega)]
  exact ⟨hle, fun k hk => (Bool.not_eq_true' _).mp (of_lt_runLength hk),
    fun h => (Bool.not_eq_false' _).mp (not_at_runLength h)⟩

/-- Settles O25: the sign extensions by the template, the counts by their laws. -/
theorem signExtensionAndCounts : Obligations.SignExtensionAndCounts := fun s o rc => by
  refine ⟨fun hbwx => ?_, fun hcix => ?_⟩
  · rw [← BitVec.setWidth_eq_extractLsb' (by decide), ← BitVec.setWidth_eq_extractLsb' (by decide)]
    exact ⟨yieldsX_extOp1 hbwx (fun b => (b.setWidth 8).signExtend 64) o rc,
      yieldsX_extOp1 hbwx (fun b => (b.setWidth 16).signExtend 64) o rc⟩
  · exact ⟨exists_yieldsX_extOp1 hcix popCount o rc (toNat_popCount _),
      exists_yieldsX_extOp1 hcix leadingZeros o rc (count_zeros _ (fun i => 63 - i) rfl),
      exists_yieldsX_extOp1 hcix trailingZeros o rc (count_zeros _ id rfl)⟩

/-! Minima and maxima of lanes (R481 to R488). -/

theorem minS_eq {n : Nat} (x y : BitVec n) : minS x y = BitVec.ofInt n (min x.toInt y.toInt) := by
  rw [min_def, apply_ite (BitVec.ofInt n), BitVec.ofInt_toInt, BitVec.ofInt_toInt, minS]

theorem maxS_eq {n : Nat} (x y : BitVec n) : maxS x y = BitVec.ofInt n (max x.toInt y.toInt) := by
  rw [max_def, apply_ite (BitVec.ofInt n), BitVec.ofInt_toInt, BitVec.ofInt_toInt, maxS]

theorem minU_eq {n : Nat} (x y : BitVec n) : minU x y = BitVec.ofNat n (min x.toNat y.toNat) := by
  rw [min_def, apply_ite (BitVec.ofNat n), BitVec.ofNat_toNat, BitVec.setWidth_eq, BitVec.ofNat_toNat, BitVec.setWidth_eq, minU]

theorem maxU_eq {n : Nat} (x y : BitVec n) : maxU x y = BitVec.ofNat n (max x.toNat y.toNat) := by
  rw [max_def, apply_ite (BitVec.ofNat n), BitVec.ofNat_toNat, BitVec.setWidth_eq, BitVec.ofNat_toNat, BitVec.setWidth_eq, maxU]

/-- An instruction on byte lanes, whose operation `f` is `g`. -/
theorem exists_yieldsX_byteLanes {f g : Byte → Byte → Byte} (h : ∀ x y, f x y = g x y) {s : State}
    (hmvi : State.has s .mvi = true) (ra : Reg) (o : Operand) (rc : Reg) :
    ∃ v, yieldsX (needExt .mvi s (intOp (byteLanes f) ra o rc s)) s rc v
      ∧ ∀ k < 8, byteAt v k = g (byteAt (State.x s ra) k) (byteAt (State.rbv s o) k) :=
  exists_yieldsX_extOp hmvi (byteLanes f) ra o rc (p := bytesAre fun k => g (byteAt (State.x s ra) k) (byteAt (State.rbv s o) k))
    fun _ hk => (byteAt_ofByteLanes _ hk).trans (h _ _)

/-- An instruction on word lanes, whose operation `f` is `g`. -/
theorem exists_yieldsX_wordLanes {f g : BitVec 16 → BitVec 16 → BitVec 16} (h : ∀ x y, f x y = g x y) {s : State}
    (hmvi : State.has s .mvi = true) (ra : Reg) (o : Operand) (rc : Reg) :
    ∃ v, yieldsX (needExt .mvi s (intOp (wordLanes f) ra o rc s)) s rc v
      ∧ ∀ k < 4, wordAt v k = g (wordAt (State.x s ra) k) (wordAt (State.rbv s o) k) :=
  ⟨_, yieldsX_needExt hmvi (yieldsX_intOp (wordLanes f) ra o rc s), fun _ hk => (wordAt_ofWordLanes _ hk).trans (h _ _)⟩

/-! Pixel error (R480). -/

/-- The absolute difference of byte `k` of two words. -/
def byteDistance (a b : Word) (k : Nat) : Nat := (((byteAt a k).toNat : Int) - (byteAt b k).toNat).natAbs

theorem byteDistance_eq (a b : Word) (k : Nat) : byteDistance a b k
    = ((byteAt a k).toNat - (byteAt b k).toNat) + ((byteAt b k).toNat - (byteAt a k).toNat) := by
  rw [byteDistance]
  omega

theorem byteDistance_lt (a b : Word) (k : Nat) : byteDistance a b k < 256 := by
  have ha := (byteAt a k).isLt
  have hb := (byteAt b k).isLt
  rw [byteDistance_eq]
  omega

theorem foldl_add_range (f : Nat → Nat) (m : Nat) : (List.range m).foldl (fun n i => n + f i) 0 = ∑ k : Fin m, f k := by
  induction m with
  | zero => rfl
  | succ m ih =>
    rw [List.range_succ, List.foldl_append, ih, Fin.sum_univ_castSucc]
    rfl

theorem pixelError_eq (a b : Word) : pixelError a b = BitVec.ofNat 64 (∑ k : Fin 8, byteDistance a b k) := by
  rw [← foldl_add_range]
  simp only [pixelError, byteDistance_eq, Nat.add_assoc]

theorem toNat_pixelError (a b : Word) : (pixelError a b).toNat = ∑ k : Fin 8, byteDistance a b k := by
  have hle : ∑ k : Fin 8, byteDistance a b k ≤ 8 * 255 :=
    Finset.sum_le_card_nsmul _ _ 255 fun k _ => Nat.le_of_lt_succ (byteDistance_lt a b k)
  rw [pixelError_eq, BitVec.toNat_ofNat, Nat.mod_eq_of_lt (by omega)]

/-! Packing and unpacking (R489 to R492). -/

/-- The bytes of a word lane. -/
theorem extract_wordAt (v : Word) (i : Nat) {j : Nat} (hj : j < 2) :
    (wordAt v i).extractLsb' (8 * j) 8 = byteAt v (2 * i + j) := by
  refine (byteAt_eq fun l hl => ?_).symm
  simp only [wordAt, BitVec.getLsbD_extractLsb', decide_eq_true hl, Bool.true_and]
  rw [decide_eq_true (by omega), Bool.true_and]
  congr 1
  omega

/-- The bytes of a zero-extended byte. -/
theorem extract_setWidth_byte (x : Byte) {n : Nat} (hn : 8 ≤ n) (j : Nat) :
    (x.setWidth n).extractLsb' (8 * j) 8 = if j = 0 then x else 0 := by
  refine BitVec.eq_of_getLsbD_eq fun l hl => ?_
  rw [BitVec.getLsbD_extractLsb', BitVec.getLsbD_setWidth, decide_eq_true hl, Bool.true_and]
  split
  next hzero => rw [hzero, decide_eq_true (by omega), Bool.true_and, Nat.mul_zero, Nat.zero_add]
  next hpos =>
    rw [BitVec.getLsbD_of_ge x _ (by omega), Bool.and_false]
    exact BitVec.getLsbD_zero.symm

theorem bytesAre_packWords (v : Word) : bytesAre (fun k => if k < 4 then byteAt v (2 * k) else 0) (packWords v) :=
  fun k hk => by
    rw [packWords, byteAt_ofByteLanes _ hk, BitVec.setWidth_eq_extractLsb' (by decide)]
    exact if_congr Iff.rfl (extract_wordAt v k (j := 0) (by decide)) rfl

theorem bytesAre_packLongs (v : Word) : bytesAre (fun k => if k < 2 then byteAt v (4 * k) else 0) (packLongs v) :=
  fun k hk => by
    rw [packLongs, byteAt_ofByteLanes _ hk]
    interval_cases k <;> rfl

theorem bytesAre_unpackWords (v : Word) :
    bytesAre (fun k => if k % 2 = 0 then byteAt v (k / 2) else 0) (unpackWords v) := fun k hk => by
  have hlane := extract_wordAt (unpackWords v) (k / 2) (Nat.mod_lt k (by decide : 0 < 2))
  rw [Nat.div_add_mod, unpackWords, wordAt_ofWordLanes _ (by omega), extract_setWidth_byte _ (by decide)] at hlane
  exact hlane.symm

theorem bytesAre_unpackLongs (v : Word) :
    bytesAre (fun k => if k % 4 = 0 then byteAt v (k / 4) else 0) (unpackLongs v) := fun k hk => by
  beta_reduce
  obtain hlow | hhigh := Nat.lt_or_ge k 4
  · have hbyte : byteAt (unpackLongs v) k = ((byteAt v 0).setWidth 32).extractLsb' (8 * k) 8 :=
      BitVec.extractLsb'_append_eq_of_add_le (by omega)
    rw [hbyte, extract_setWidth_byte _ (by decide), Nat.mod_eq_of_lt hlow, Nat.div_eq_of_lt hlow]
  · have hbyte : byteAt (unpackLongs v) k = ((byteAt v 1).setWidth 32).extractLsb' (8 * (k - 4)) 8 :=
      (BitVec.extractLsb'_append_eq_of_le (by omega)).trans (by rw [Nat.mul_sub])
    have hmod : k % 4 = k - 4 := by omega
    have hdiv : k / 4 = 1 := by omega
    rw [hbyte, extract_setWidth_byte _ (by decide), hmod, hdiv]

/-- Settles O26: the lanes of each instruction by the laws above. -/
theorem mviLanes : Obligations.MviLanes := fun _ ra rc o hmvi =>
  ⟨exists_yieldsX_extOp hmvi pixelError ra o rc (toNat_pixelError _ _),
    exists_yieldsX_byteLanes minS_eq hmvi ra o rc, exists_yieldsX_wordLanes minS_eq hmvi ra o rc,
    exists_yieldsX_byteLanes minU_eq hmvi ra o rc, exists_yieldsX_wordLanes minU_eq hmvi ra o rc,
    exists_yieldsX_byteLanes maxU_eq hmvi ra o rc, exists_yieldsX_wordLanes maxU_eq hmvi ra o rc,
    exists_yieldsX_byteLanes maxS_eq hmvi ra o rc, exists_yieldsX_wordLanes maxS_eq hmvi ra o rc,
    exists_yieldsX_extOp1 hmvi packWords o rc (bytesAre_packWords _),
    exists_yieldsX_extOp1 hmvi packLongs o rc (bytesAre_packLongs _),
    exists_yieldsX_extOp1 hmvi unpackWords o rc (bytesAre_unpackWords _),
    exists_yieldsX_extOp1 hmvi unpackLongs o rc (bytesAre_unpackLongs _)⟩

end Sys2Proof.Machine

/-! PROOFS. LDA, LDAH and the aligned loads and stores (41_loadstore.md R500 to R507, R510 to R514, R517 to R524). An aligned access
is one translation and one physical access; the integer and the floating instructions differ only in how they end. -/

namespace Sys2Proof.Machine

/-! LDA and LDAH (R501, R502). -/

theorem mul_65536_eq_shiftLeft (v : Word) : v * 65536 = v <<< 16 := (BitVec.shiftLeft_eq_mul_twoPow v 16).symm

/-- Settles O28: both end by writing the address; the words are those of the encoder, and those of the examples are run. -/
theorem loadAddress : Obligations.LoadAddress := by
  intro s ra rb d
  refine ⟨yieldsX_finishX s ra _, ?_, Encoding.decodeOfEncode (.lda ra rb d) rfl, Encoding.decodeOfEncode (.ldah ra rb d) rfl,
    rfl, rfl⟩
  rw [← mul_65536_eq_shiftLeft]
  exact yieldsX_finishX s ra _

/-! An aligned `MemRead` and `MemWrite` (20_memory.md R160). -/

section Aligned
variable {s u : State} {n : Nat} {a : Access} {va v pa : Word}

theorem place_of_aligned (h : State.translate s a va = .ok pa u) (hal : va.toNat % n = 0) :
    State.place n a va s = .ok (.whole pa.toNat) u := by
  rw [State.place, h]
  exact if_pos (aligned_iff.2 hal)

theorem memRead_of_aligned (h : State.translate s a va = .ok pa u) (hal : va.toNat % n = 0) :
    State.memRead n a va s = State.physRead n u pa.toNat := by
  rw [State.memRead, place_of_aligned h hal]
  rfl

theorem memWrite_of_aligned (h : State.translate s a va = .ok pa u) (hal : va.toNat % n = 0) :
    State.memWrite n a va v s = State.physWrite n v u pa.toNat := by
  rw [State.memWrite, place_of_aligned h hal]
  rfl

end Aligned

/-! The instructions of one byte and the unaligned quadwords, as accesses. -/

section Instructions
variable {s : State} {ra rb : Reg} {d : BitVec 16}

theorem loadsBy_ldbu (h : State.has s .bwx = true) : loadsBy (.ldbu ra rb d) s 1 ⟨.read, ra, 0x0A⟩ (State.ea s rb d)
    fun v w => State.finishX w ra v := needExt_pos h _
theorem loadsBy_ldqU : loadsBy (.ldqU ra rb d) s 8 ⟨.read, ra, 0x0B⟩ (State.ea s rb d &&& ~~~7)
    fun v w => State.finishX w ra v := rfl
theorem storesBy_stb (h : State.has s .bwx = true) :
    storesBy (.stb ra rb d) s 1 ⟨.write, ra, 0x0E⟩ (State.ea s rb d) (State.x s ra) := needExt_pos h _
theorem storesBy_stqU :
    storesBy (.stqU ra rb d) s 8 ⟨.write, ra, 0x0F⟩ (State.ea s rb d &&& ~~~7) (State.x s ra) := rfl

end Instructions

/-! Loads. -/

namespace loadsBy

variable {i : Instr} {s u w : State} {n : Nat} {a : Access} {va pa : Word} {fin : Word → State → State} {e : Exc}

theorem translate_exc (hi : loadsBy i s n a va fin) (h : State.translate s a va = .exc e w) :
    exec i s = .next (State.take w e) := hi.exc (memRead_of_place_exc (place_of_translate_exc h))

/-- RAM whose back-end reports an error (60_exceptions.md R842). -/
theorem aligned_ram_error (hi : loadsBy i s n a va fin) (h : State.translate s a va = .ok pa u) (hal : va.toNat % n = 0)
    (hram : State.route s pa.toNat = .ram) (herr : State.ramErrs .data u pa.toNat n = true) :
    exec i s = .next (State.take (State.ramErred .data u pa.toNat n) (.mchk 3)) :=
  hi.exc ((memRead_of_aligned h hal).trans (physRead_of_ram_error (((translate_ok h).route _).trans hram) herr))

/-- RAM: the load ends with the bytes that loads read, in a state with at most another data TLB, other caches and draws
(20_memory.md R171, R261). -/
theorem aligned_ram (hi : loadsBy i s n a va fin) (hk : a.kind ≠ .fetch) (h : State.translate s a va = .ok pa u)
    (hal : va.toNat % n = 0) (hram : State.route s pa.toNat = .ram) (herr : State.ramErrs .data u pa.toNat n = false) :
    ∃ w, exec i s = .next (fin (ofBytes ((List.range n).map fun k => State.loadByte s (pa.toNat + k))) w)
      ∧ Kept s w ∧ sameBytes s w
      ∧ State.noCaches w = State.noCaches { s with cpu := { s.cpu with dtb := u.cpu.dtb } } := by
  have honly := translate_ok h
  obtain ⟨w, hread, hw⟩ := physRead_of_ram ((honly.route _).trans hram) herr
  rw [loadBytes_of_sameBytes honly.loadByte] at hread
  exact ⟨w, hi.ok ((memRead_of_aligned h hal).trans hread), (quiet_of_translate h).kept.trans (Kept.of_noCaches hw),
    fun b => (loadByte_of_noCaches hw b).trans (honly.loadByte b), hw.trans (honly.noCaches_data hk)⟩

/-- Outside RAM: the load ends with what the read there answers. -/
theorem aligned_outside (hi : loadsBy i s n a va fin) (h : State.translate s a va = .ok pa u) (hal : va.toNat % n = 0)
    {ends : Word → State → State → Prop} (hends : ∀ v w, Kept s w → ends v w (fin v w)) :
    readsOutside (exec i s) u pa.toNat n ends := by
  have hmem := memRead_of_aligned h hal
  refine readsOutside_of_physRead (fun e w hr => hi.exc (hmem.trans hr)) fun v w hr => ?_
  have hquiet := quiet_physRead n u pa.toNat
  rw [hr] at hquiet
  exact ⟨_, hi.ok (hmem.trans hr), hends v w ((quiet_of_translate h).trans hquiet).kept⟩

end loadsBy

/-- Settles O29: each instruction is a load by one `MemRead`, which ends in an integer register. -/
theorem integerLoads : Obligations.IntegerLoads := by
  intro s u ra rb d pa ea loads
  have hloads : ∀ (i : Instr) (n : Nat) (op : BitVec 6) (va : Word) (ext : Word → Word),
      loadsBy i s n ⟨.read, ra, op⟩ va (fun v w => State.finishX w ra (ext v)) → loads i n op va ext := by
    refine fun i n op va ext hi => ⟨fun e w => hi.translate_exc, fun h hal => ⟨hi.aligned_ram_error h hal, fun hram herr => ?_,
      hi.aligned_outside h hal fun v w hw => ⟨wroteX_of_kept hw ra _, finishX_eq_of_kept hw ra _⟩⟩⟩
    obtain ⟨w, hexec, hkept, hbytes, hnc⟩ := hi.aligned_ram nofun h hal hram herr
    exact ⟨_, hexec, wroteX_of_kept hkept ra _, congrArg (· + 4) hkept.pc, hbytes, noCaches_finishX hnc ra _⟩
  refine ⟨fun hbwx => hloads (.ldbu ra rb d) 1 0x0A ea id (loadsBy_ldbu hbwx),
    fun hbwx => hloads (.ldwu ra rb d) 2 0x0C ea id (loadsBy_ldwu hbwx),
    hloads (.ldl ra rb d) 4 0x28 ea (fun v => (v.extractLsb' 0 32).signExtend 64) ?_,
    hloads (.ldq ra rb d) 8 0x29 ea id loadsBy_ldq, hloads (.ldqU ra rb d) 8 0x0B (ea &&& ~~~7) id loadsBy_ldqU⟩
  simp only [← sext32_eq]
  exact loadsBy_ldl

/-- Settles O30: the same loads, which end in a floating register. -/
theorem floatLoads : Obligations.FloatLoads := by
  intro s u fa rb d pa hfen ea loads
  have hloads : ∀ (i : Instr) (n : Nat) (op : BitVec 6) (conv : Word → Word),
      loadsBy i s n ⟨.read, fa, op⟩ ea (fun v w => State.finishF w fa (conv v)) → loads i n op conv := by
    refine fun i n op conv hi => ⟨fun e w => hi.translate_exc, fun h hal => ⟨hi.aligned_ram_error h hal, fun hram herr => ?_,
      hi.aligned_outside h hal fun v w hw => ⟨wroteF_of_kept hw fa _, finishF_eq_of_kept hw fa _⟩⟩⟩
    obtain ⟨w, hexec, hkept, hbytes, hnc⟩ := hi.aligned_ram nofun h hal hram herr
    exact ⟨_, hexec, wroteF_of_kept hkept fa _, congrArg (· + 4) hkept.pc, hbytes, noCaches_finishF hnc fa _⟩
  exact ⟨hloads (.ldf fa rb d) 4 0x20 fMemToReg (loadsBy_ldf hfen), hloads (.ldg fa rb d) 8 0x21 gMemToReg (loadsBy_ldg hfen),
    hloads (.lds fa rb d) 4 0x22 sMemToReg (loadsBy_lds hfen), hloads (.ldt fa rb d) 8 0x23 id (loadsBy_ldt hfen)⟩

/-! Stores. -/

namespace storesBy

variable {i : Instr} {s u w : State} {n : Nat} {a : Access} {va v pa : Word} {e : Exc}

theorem translate_exc (hi : storesBy i s n a va v) (h : State.translate s a va = .exc e w) :
    exec i s = .next (State.take w e) := hi.trans (store_of_exc (memWrite_of_place_exc (place_of_translate_exc h)))

/-- RAM: the store enters the store buffer (20_memory.md R170, R171). -/
theorem aligned_ram (hi : storesBy i s n a va v) (hk : a.kind ≠ .fetch) (h : State.translate s a va = .ok pa u)
    (hal : va.toNat % n = 0) (hram : State.route s pa.toNat = .ram) :
    ∃ t, exec i s = .next t
      ∧ (∀ k < n, State.loadByte t (pa.toNat + k) = v.extractLsb' (8 * k) 8)
      ∧ (∀ b, b < pa.toNat ∨ pa.toNat + n ≤ b → State.loadByte t b = State.loadByte s b)
      ∧ t.cpu.pc = s.cpu.pc + 4
      ∧ State.noCaches t = State.noCaches
        { s with cpu := { s.cpu with pc := s.cpu.pc + 4, dtb := u.cpu.dtb, sb := t.cpu.sb } }
      ∧ t.cpu.sb = s.cpu.sb ++ [.store pa.toNat (bytesOf n v)] := by
  have honly := translate_ok h
  have hwrite := (memWrite_of_aligned h hal).trans (physWrite_of_ram (v := v) ((honly.route _).trans hram))
  obtain ⟨hin, hout⟩ := loadByte_bufferStore_bytesOf u pa.toNat n v
  exact ⟨_, hi.trans (store_of_ok hwrite), hin, fun b hb => (hout b hb).trans (honly.loadByte b), congrArg (· + 4) honly.pc,
    noCaches_advance_buffer (honly.noCaches_data hk) [.store pa.toNat (bytesOf n v)], congrArg (· ++ _) honly.sb⟩

/-- Outside RAM: the store ends as the write there does. -/
theorem aligned_outside (hi : storesBy i s n a va v) (h : State.translate s a va = .ok pa u) (hal : va.toNat % n = 0) :
    writesOutside (exec i s) u pa.toNat n v passes := by
  have hmem := memWrite_of_aligned (v := v) h hal
  exact writesOutside_of_physWrite (fun _ e w hw => hi.trans (store_of_exc (hmem.trans hw)))
    fun _ w hw => ⟨_, hi.trans (store_of_ok (hmem.trans hw)), rfl⟩

end storesBy

/-- Settles O31: each instruction is a store of Ra by one `MemWrite`. -/
theorem integerStores : Obligations.IntegerStores := by
  intro s u ra rb d pa ea stores
  have hstores : ∀ (i : Instr) (n : Nat) (op : BitVec 6) (va : Word),
      storesBy i s n ⟨.write, ra, op⟩ va (State.x s ra) → stores i n op va := fun i n op va hi =>
    ⟨fun e w => hi.translate_exc, fun h hal => ⟨hi.aligned_ram nofun h hal, hi.aligned_outside h hal⟩⟩
  exact ⟨fun hbwx => hstores (.stb ra rb d) 1 0x0E ea (storesBy_stb hbwx),
    fun hbwx => hstores (.stw ra rb d) 2 0x0D ea (storesBy_stw hbwx), hstores (.stl ra rb d) 4 0x2C ea storesBy_stl,
    hstores (.stq ra rb d) 8 0x2D ea storesBy_stq, hstores (.stqU ra rb d) 8 0x0F (ea &&& ~~~7) storesBy_stqU⟩

/-- Settles O32: each instruction is a store of the memory form of Fa. -/
theorem floatStores : Obligations.FloatStores := by
  intro s u fa rb d pa hfen ea stores
  have hstores : ∀ (i : Instr) (n : Nat) (op : BitVec 6) (v : Word),
      storesBy i s n ⟨.write, fa, op⟩ ea v → stores i n op v := fun i n op v hi =>
    ⟨fun e w => hi.translate_exc, fun h hal => ⟨hi.aligned_ram nofun h hal, hi.aligned_outside h hal⟩⟩
  exact ⟨hstores (.stf fa rb d) 4 0x24 (fRegToMem (State.f s fa)) (storesBy_stf hfen),
    hstores (.stg fa rb d) 8 0x25 (gRegToMem (State.f s fa)) (storesBy_stg hfen),
    hstores (.sts fa rb d) 4 0x26 (sRegToMem (State.f s fa)) (storesBy_sts hfen),
    hstores (.stt fa rb d) 8 0x27 (State.f s fa) (storesBy_stt hfen)⟩

end Sys2Proof.Machine

/-! PROOFS. Control (42_control.md): the pc stays a multiple of 4 (R572), and the branches, jumps and floating conditional moves by
the condition they test (R550 to R570; 43_float.md R677 to R682). -/

namespace Sys2Proof.Machine

/-! Multiples of 4 among the words. -/

section Multiples

variable {a b m : Word}

theorem add_toNat_mod_four (ha : a.toNat % 4 = 0) (hb : b.toNat % 4 = 0) : (a + b).toNat % 4 = 0 := by
  rw [BitVec.toNat_add]
  omega

theorem mul_toNat_mod_four (ha : a.toNat % 4 = 0) (b : Word) : (a * b).toNat % 4 = 0 := by
  have hdvd : 4 ∣ a.toNat * b.toNat := (Nat.dvd_of_mod_eq_zero ha).mul_right _
  rw [BitVec.toNat_mul]
  omega

theorem and_toNat_mod_four (a : Word) (hm : m.toNat % 4 = 0) : (a &&& m).toNat % 4 = 0 := by
  rw [BitVec.toNat_and, Nat.and_mod_two_pow (n := 2), show m.toNat % 2 ^ 2 = 0 from hm, Nat.and_zero]

/-- A word whose bits lie in a mask that has not the two low bits. -/
theorem toNat_mod_four_of_maskedBy (hm : m.toNat % 4 = 0) (h : maskedBy m a = true) : a.toNat % 4 = 0 := by
  have hself : a &&& m = a := BitVec.eq_of_getLsbD_eq fun k _ => by
    have hbit := maskedBy_iff.1 h k
    rw [BitVec.getLsbD_and]
    cases hk : a.getLsbD k with
    | false => rfl
    | true => exact hbit hk
  exact hself ▸ and_toNat_mod_four a hm

end Multiples

/-! Where the pc can go: the PAL entries (44_misc_pal.md R723) and the targets of branches and jumps (R550, R567). -/

section Targets

variable {base : Word}

theorem palEntryExc_mod_four (hbase : base.toNat % 4 = 0) (scheme : PalScheme) (c : ExcClass) :
    (palEntryExc scheme base c).toNat % 4 = 0 := by
  cases scheme with
  | linear => exact add_toNat_mod_four hbase (mul_toNat_mod_four rfl _)
  | openEv6 => exact add_toNat_mod_four hbase (by cases c <;> rfl)

theorem palEntryCall_mod_four (hbase : base.toNat % 4 = 0) (scheme : PalScheme) (fn : BitVec 26) :
    (palEntryCall scheme base fn).toNat % 4 = 0 := by
  cases scheme with
  | linear => exact add_toNat_mod_four hbase (mul_toNat_mod_four rfl _)
  | openEv6 =>
    have hregion : (if palPrivileged fn then 0x2000 else 0x3000 : Word).toNat % 4 = 0 := by split <;> rfl
    exact add_toNat_mod_four (add_toNat_mod_four hbase hregion) (mul_toNat_mod_four rfl _)

theorem branchTarget_mod_four {s : State} (hpc : s.cpu.pc.toNat % 4 = 0) (d : BitVec 21) :
    (State.branchTarget s d).toNat % 4 = 0 :=
  add_toNat_mod_four (add_toNat_mod_four hpc rfl) (mul_toNat_mod_four rfl _)

theorem jumpTarget_mod_four (s : State) (rb : Reg) : (State.jumpTarget s rb).toNat % 4 = 0 :=
  and_toNat_mod_four _ (by decide)

end Targets

/-! The pc after an exception and after an instruction. -/

/-- The pc after the entry of an exception class (60_exceptions.md R801, R830). -/
theorem pc_enterExc (s : State) (c : ExcClass) :
    (State.enterExc s c).cpu.pc = palEntryExc s.cfg.palScheme s.cpu.palBase c := rfl

/-- No processor register's write reaches the pc (44_misc_pal.md R751). -/
theorem pc_writeIpr (s : State) (r : Ipr) (v : Word) : (State.writeIpr s r v).cpu.pc = s.cpu.pc := by
  cases r with
  | ipir =>
    simp only [State.writeIpr, State.sendIpi, State.mapCpus]
    split <;> rfl
  | tbia | tbiap | tbis | tbisi | tbisd | tbiar =>
    obtain ⟨b, d, h⟩ := tbi_eq s.cpu _
    exact (congrArg Cpu.pc h :)
  | palBase =>
    simp only [State.writeIpr]
    split <;> rfl
  | _ => rfl

/-- A taken exception goes to an entry point, or halts with the pc as it was. -/
theorem pc_mod_four_of_took {s t : State} (hpc : s.cpu.pc.toNat % 4 = 0) (hbase : s.cpu.palBase.toNat % 4 = 0)
    (h : Took s t) : t.cpu.pc.toNat % 4 = 0 := by
  cases h with
  | halt => exact hpc
  | arith | mchk | fault | enter => exact palEntryExc_mod_four hbase _ _

/-- Every instruction but HW_REI advances the pc, branches, jumps or enters PAL. -/
theorem pc_mod_four_of_did {i : Instr} {s t : State} (hi : i ≠ .hwRei) (hpc : s.cpu.pc.toNat % 4 = 0)
    (hbase : s.cpu.palBase.toNat % 4 = 0) (h : Did i s t) : t.cpu.pc.toNat % 4 = 0 := by
  cases h with
  | exc hq e =>
    exact pc_mod_four_of_took (hq.kept.pc.symm ▸ hpc) (hq.kept.palBase.symm ▸ hbase) (take_took _ e)
  | arith => exact palEntryExc_mod_four hbase _ _
  | call fn => exact palEntryCall_mod_four hbase _ fn
  | plain hk | intReg hk | fpReg hk => exact add_toNat_mod_four (hk.pc.symm ▸ hpc) rfl
  | mtpr ra _ _ _ r =>
    have hwrite := (pc_writeIpr (State.drainAll s) r (State.x s ra)).trans (kept_drainAll s).pc
    exact add_toNat_mod_four (hwrite.symm ▸ hpc) rfl
  | branch d | link _ d => exact branchTarget_mod_four hpc d
  | jump _ rb => exact jumpTarget_mod_four s rb
  | overflow | fpOp | fpTrap | mtFpcr | flag => exact add_toNat_mod_four hpc rfl
  | rei he => exact absurd he hi

/-- A fetch at a pc that is no multiple of 4 (60_exceptions.md R812). -/
theorem fetchWord_of_misaligned {s : State} (h : s.cpu.pc.toNat % 4 ≠ 0) :
    State.fetchWord s = .exc (.mmFault Access.fetch .acv s.cpu.pc) s := by
  rw [State.fetchWord, aligned_eq_false_iff.2 h]
  rfl

/-- Settles O11: by the cases of `Did` the pc goes to a sum of multiples of 4 or to a masked word. -/
theorem pcStaysAligned : Obligations.PcStaysAligned :=
  ⟨fun _ _ _ hi hpc hbase h => pc_mod_four_of_did hi hpc (toNat_mod_four_of_maskedBy (by decide) hbase) (exec_did h),
    fun _ => fetchWord_of_misaligned⟩

/-! Links and branches. -/

/-- BR, BSR and the jumps (R551, R567): the link, the target and the frame. -/
theorem links_to {o : Outcome} {s : State} {r : Reg} {link target : Word}
    (h : o = .next (State.setPc (State.setX s r link) target)) :
    ∃ t, o = .next t ∧ wroteX s t r link ∧ t.cpu.pc = target ∧ onlyX s t :=
  ⟨_, h, wroteX_finishX s r link, rfl, rfl, sameBytes_of_eq rfl rfl⟩

/-- Both outcomes of a conditional branch (R553 to R566). -/
theorem branchIf_branches {taken : Bool} {cond : Prop} (h : taken = true ↔ cond) (d : BitVec 21) (s : State) :
    (cond → branchIf taken d s = .next { s with cpu := { s.cpu with pc := s.cpu.pc + 4 + 4 * d.signExtend 64 } })
      ∧ (¬ cond → branchIf taken d s = .next { s with cpu := { s.cpu with pc := s.cpu.pc + 4 } }) :=
  ⟨fun hc => congrArg _ (if_pos (h.2 hc)), fun hc => congrArg _ (if_neg (mt h.1 hc))⟩

/-- Settles O39: the six that link are one write and one target; each conditional branch by its test against zero. -/
theorem branchesAndJumps : Obligations.BranchesAndJumps :=
  ⟨fun _ _ _ _ _ => ⟨links_to rfl, links_to rfl, links_to rfl, links_to rfl, links_to rfl, links_to rfl⟩,
    fun s _ d =>
      have branch (z : ZeroTest) (v : Word) := branchIf_branches (ZeroTest.holds_iff z v) d s
      ⟨branch .eq _, branch .ne _, branch .lt _, branch .le _, branch .gt _, branch .ge _, branch .lbc _, branch .lbs _⟩⟩

/-! The comparison of a T register with zero (R561). -/

/-- Either zero. -/
def fpIsZero (r : Word) : Prop := r.extractLsb' 0 63 = 0

/-- A NaN of either sign, quiet or signaling. -/
def fpIsNan (r : Word) : Prop := r.extractLsb' 52 11 = 0x7FF ∧ r.extractLsb' 0 52 ≠ 0

theorem fpIsNan_iff {r : Word} : fpIsNan r ↔ fpExp r = 0x7FF ∧ fpFrac r ≠ 0 :=
  and_congr BitVec.toNat_inj.symm (not_congr BitVec.toNat_inj.symm)

theorem fpIsZero_iff {r : Word} : fpIsZero r ↔ fpExp r = 0 ∧ fpFrac r = 0 := by
  have hsplit : (r.extractLsb' 0 63).toNat = fpExp r * 2 ^ 52 + fpFrac r := by
    simp only [fpExp, fpFrac, BitVec.extractLsb'_toNat, Nat.shiftRight_eq_div_pow]
    omega
  rw [fpIsZero, ← BitVec.toNat_inj, hsplit, BitVec.ofNat_eq_ofNat, BitVec.toNat_zero]
  omega

theorem not_fpIsNan_of_fpIsZero {r : Word} (h : fpIsZero r) : ¬ fpIsNan r := fun hn =>
  (fpIsNan_iff.1 hn).2 (fpIsZero_iff.1 h).2

/-- A number compared with +0.0: its significand tells a zero, its sign the rest. -/
theorem compareNum_zero (neg : Bool) (m : Nat) (e : Int) :
    compareNum neg m e false 0 0 = if m = 0 then .eq else if neg then .lt else .gt := by
  unfold compareNum
  by_cases hm : m = 0
  · cases neg <;> simp [hm, signedInt]
  · have hpos : 0 < ((m * 2 ^ (e - min e 0).toNat : Nat) : Int) := by positivity
    cases neg with
    | false => simpa [hm, signedInt, compare_gt_iff_gt] using hpos
    | true => simpa [hm, signedInt, compare_lt_iff_lt] using hpos

/-! The comparison with +0.0 by the bits of the register (R561). -/

section Compare

variable {r : Word}

theorem compare_zero_of_nan (h : fpIsNan r) : FVal.compare (Fmt.value .t false r) (.num false 0 0) = none := by
  obtain ⟨hexp, hfrac⟩ := fpIsNan_iff.1 h
  simp [Fmt.value, fpSpecial, FVal.compare, hexp, hfrac]

theorem compare_zero_of_zero (h : fpIsZero r) : FVal.compare (Fmt.value .t false r) (.num false 0 0) = some .eq := by
  obtain ⟨hexp, hfrac⟩ := fpIsZero_iff.1 h
  simp [Fmt.value, FVal.compare, compareNum_zero, hexp, hfrac]

/-- An infinity, a normal number or a denormal: the sign decides. -/
theorem compare_zero_of_nonzero (hnan : ¬ fpIsNan r) (hzero : ¬ fpIsZero r) :
    FVal.compare (Fmt.value .t false r) (.num false 0 0) = some (if r.getLsbD 63 then .lt else .gt) := by
  rw [fpIsNan_iff] at hnan
  rw [fpIsZero_iff] at hzero
  by_cases hmax : fpExp r = 0x7FF
  · have hfrac : fpFrac r = 0 := by simpa [hmax] using hnan
    simp [Fmt.value, fpSpecial, FVal.compare, fpSign, hmax, hfrac]
  · by_cases hmin : fpExp r = 0
    · have hfrac : fpFrac r ≠ 0 := by simpa [hmin] using hzero
      simp [Fmt.value, FVal.compare, compareNum_zero, fpSign, hmin, hfrac]
    · simp [Fmt.value, FVal.compare, compareNum_zero, fpSign, hmax, hmin]

end Compare

/-- The six tests of the floating branches and conditional moves (R561 to R566). -/
theorem fpZeroTest_iff (t : ZeroTest) (r : Word) : fpZeroTest t r = true ↔ (match t with
    | .eq => fpIsZero r
    | .ne => ¬ fpIsZero r
    | .lt => r.getLsbD 63 = true ∧ ¬ fpIsZero r ∧ ¬ fpIsNan r
    | .le => fpIsZero r ∨ (r.getLsbD 63 = true ∧ ¬ fpIsNan r)
    | .gt => ¬ r.getLsbD 63 = true ∧ ¬ fpIsZero r ∧ ¬ fpIsNan r
    | .ge => fpIsZero r ∨ (¬ r.getLsbD 63 = true ∧ ¬ fpIsNan r)
    | .lbs | .lbc => False) := by
  unfold fpZeroTest
  by_cases hnan : fpIsNan r
  · have hzero : ¬ fpIsZero r := fun h => not_fpIsNan_of_fpIsZero h hnan
    rw [compare_zero_of_nan hnan]
    cases t <;> simp [hnan, hzero]
  · by_cases hzero : fpIsZero r
    · rw [compare_zero_of_zero hzero]
      cases t <;> simp [hzero]
    · rw [compare_zero_of_nonzero hnan hzero]
      cases hneg : r.getLsbD 63 <;> cases t <;> simp [hnan, hzero]

/-! The floating branches and conditional moves. -/

/-- The end of an instruction writes its floating register. -/
theorem yieldsF_finishF (s : State) (r : Reg) (v : Word) : yieldsF (.next (State.finishF s r v)) s r v :=
  ⟨_, rfl, wroteF_of_kept (Kept.refl s) r v, rfl, rfl, sameBytes_of_eq rfl rfl⟩

section Conditional

variable {s : State} {z : ZeroTest} {fa : Reg} {cond : Prop}

/-- Both outcomes of a floating conditional move with PS.FEN = 1 (43_float.md R677 to R682). -/
theorem fcmov_moves (hfen : State.fen s = true) (h : fpZeroTest z (State.f s fa) = true ↔ cond) (fb fc : Reg) :
    (cond → yieldsF (fcmov z fa fb fc s) s fc (State.f s fb))
      ∧ (¬ cond → fcmov z fa fb fc s = .next { s with cpu := { s.cpu with pc := s.cpu.pc + 4 } }) := by
  rw [fcmov, needFen_pos hfen]
  refine ⟨fun hc => ?_, fun hc => ?_⟩
  · rw [if_pos (h.2 hc)]
    exact yieldsF_finishF s fc _
  · rw [if_neg (mt h.1 hc)]
    rfl

/-- A floating branch and the conditional move of the same test. -/
theorem branches_and_moves {b m : Instr} {d : BitVec 21} {fb fc : Reg} (hfen : State.fen s = true)
    (h : fpZeroTest z (State.f s fa) = true ↔ cond)
    (hb : exec b s = needFen s (branchIf (fpZeroTest z (State.f s fa)) d s)) (hm : exec m s = fcmov z fa fb fc s) :
    (cond → exec b s = .next { s with cpu := { s.cpu with pc := s.cpu.pc + 4 + 4 * d.signExtend 64 } }
        ∧ yieldsF (exec m s) s fc (State.f s fb))
      ∧ (¬ cond → exec b s = .next { s with cpu := { s.cpu with pc := s.cpu.pc + 4 } }
        ∧ exec m s = .next { s with cpu := { s.cpu with pc := s.cpu.pc + 4 } }) := by
  obtain ⟨hmoves, hstays⟩ := fcmov_moves hfen h fb fc
  obtain ⟨hjumps, hfalls⟩ := branchIf_branches h d s
  rw [hb, hm, needFen_pos hfen]
  exact ⟨fun hc => ⟨hjumps hc, hmoves hc⟩, fun hc => ⟨hfalls hc, hstays hc⟩⟩

end Conditional

/-- Settles O40: each pair by its comparison with zero. -/
theorem floatBranchesAndMoves : Obligations.FloatBranchesAndMoves := fun s fa _ _ _ hfen =>
  have test (z : ZeroTest) := fpZeroTest_iff z (State.f s fa)
  ⟨branches_and_moves hfen (test .eq) rfl rfl, branches_and_moves hfen (test .ne) rfl rfl,
    branches_and_moves hfen (test .lt) rfl rfl, branches_and_moves hfen (test .le) rfl rfl,
    branches_and_moves hfen (test .gt) rfl rfl, branches_and_moves hfen (test .ge) rfl rfl⟩

end Sys2Proof.Machine


/-! PROOFS. The checks that come before an instruction's meaning (60_exceptions.md R814, R815, 44_misc_pal.md R761, 43_float.md
R611), and which raised conditions trap (43_float.md R606). -/

namespace Sys2Proof.Machine

/-- Every floating instruction checks its extension, then PS.FEN, before anything else. -/
theorem exec_of_fen_off {i : Instr} {s : State} (hi : i.isFloat = true) (hfen : State.fen s = false)
    (hext : ∀ e, i.extension = some e → State.has s e = true) : exec i s = .next (State.take s .fen) := by
  cases i with
  | ftoit | ftois | itofs | itoff | itoft | sqrtf | sqrtg | sqrts | sqrtt =>
    exact (needExt_pos (hext .fix rfl) _).trans (needFen_neg hfen _)
  | ldf | ldg | lds | ldt | stf | stg | sts | stt | adds | subs | muls | divs | addt | subt | mult | divt | cmptun | cmpteq
  | cmptlt | cmptle | cvtts | cvttq | cvtqs | cvtqt | cvtst | addf | subf | mulf | divf | cvtdg | addg | subg | mulg | divg
  | cmpgeq | cmpglt | cmpgle | cvtgf | cvtgd | cvtgq | cvtqf | cvtqg | cvtlq | cpys | cpysn | cpyse | mtFpcr | mfFpcr
  | fcmoveq | fcmovne | fcmovlt | fcmovge | fcmovle | fcmovgt | cvtql | fbeq | fblt | fble | fbne | fbge | fbgt =>
    exact needFen_neg hfen _
  | _ => cases hi

/-- Settles O56: the mode is the first thing the five privileged instructions test, `exec_of_fen_off` says it of PS.FEN. -/
theorem privilegedAndDisabled : Obligations.PrivilegedAndDisabled := by
  refine ⟨fun s ra rb index quad d hpal => ?_, fun i s => exec_of_fen_off⟩
  simp only [List.forall_mem_cons]
  exact ⟨needPal_neg hpal _, needPal_neg hpal _, needPal_neg hpal _, needPal_neg hpal _, needPal_neg hpal _,
    fun _ h => absurd h List.not_mem_nil⟩

theorem trapHasS_eq (tr : Trap) : trapHasS tr = tr.bits.getLsbD 2 := by cases tr <;> rfl

/-- The enabled conditions by the bits of the qualifier: /U (or /V), /I. -/
theorem getLsbD_trapEnables (tr : Trap) {k : Nat} (hk : k < 6) : (trapEnables tr).getLsbD k
    = (decide (k < 3) || (decide (k = 3 ∨ k = 5) && tr.bits.getLsbD 0) || (decide (k = 4) && tr.bits.getLsbD 1)) := by
  interval_cases k <;> cases tr <;> rfl

/-- The FPCR bit that disables each condition; IOV has none (10_state.md R60). -/
theorem getLsbD_disables (f : Word) : ∀ k < 6, (Fpcr.disables f).getLsbD k = (match k with
    | 0 => f.getLsbD 49
    | 1 => f.getLsbD 50
    | 2 => f.getLsbD 51
    | 3 => f.getLsbD 61
    | 4 => f.getLsbD 62
    | _ => false) := by
  intro k hk
  have hwhen (b : Bool) (c : Conds) : (Conds.when b c).getLsbD k = (b && c.getLsbD k) := by
    cases b <;> simp [Conds.when, Conds.none]
  simp only [Fpcr.disables, BitVec.getLsbD_or, hwhen]
  interval_cases k <;> simp [Conds.inv, Conds.dze, Conds.ovf, Conds.unf, Conds.ine]

theorem getLsbD_trapping (tr : Trap) (f : Word) (raised always : Conds) {k : Nat} (hk : k < 6) :
    (trapping tr f raised always).getLsbD k = (raised.getLsbD k && (trapEnables tr).getLsbD k
      && (always.getLsbD k || !(trapHasS tr && (Fpcr.disables f).getLsbD k))) := by
  have hall : (0x3F#6).getLsbD k = true := by interval_cases k <;> rfl
  simp only [trapping, BitVec.getLsbD_and, BitVec.getLsbD_or]
  cases trapHasS tr with
  | false => simp [hall]
  | true => simp [hk]

/-- EXC_SUM: SWC in bit 0, the conditions above it (10_state.md R67). -/
theorem getLsbD_excSumOf (tr : Trap) (c : Conds) (k : Nat) :
    (excSumOf tr c).getLsbD k = if k = 0 then trapHasS tr else c.getLsbD (k - 1) := by
  have hhigh : c.getLsbD (k - 1) = true → k - 1 < 6 := BitVec.lt_of_getLsbD
  simp only [excSumOf, BitVec.getLsbD_or, BitVec.getLsbD_shiftLeft, BitVec.getLsbD_setWidth]
  cases k with
  | zero => cases trapHasS tr <;> rfl
  | succ k =>
    have hswc : (ofBool (trapHasS tr)).getLsbD (k + 1) = false := by simp [ofBool]
    cases hc : c.getLsbD k with
    | false => simp [hswc, hc]
    | true =>
      have hlt := hhigh hc
      simp [hc, show k + 1 < 64 by omega, show k < 64 by omega]

/-- Settles O44: the bits of `trapping` and of `excSumOf`. -/
theorem trappingConditions : Obligations.TrappingConditions := by
  intro tr f raised always
  refine ⟨fun k hk => ?_, ?_, fun k hk => ?_, fun k hk => ?_⟩
  · rw [getLsbD_trapping _ _ _ _ hk, getLsbD_trapEnables tr hk, trapHasS_eq]
    exact congrArg (fun b => _ && _ && (_ || !(_ && b))) (getLsbD_disables f k hk)
  · rw [getLsbD_excSumOf, if_pos rfl, trapHasS_eq]
  · rw [getLsbD_excSumOf, if_neg (Nat.succ_ne_zero k), Nat.add_sub_cancel]
  · rw [getLsbD_excSumOf, if_neg (by omega)]
    exact BitVec.getLsbD_of_ge _ _ (by omega)

end Sys2Proof.Machine

/-! PROOFS. The register and memory forms of the floating formats (43_float.md R600 to R603), by the numbers their fields hold. -/

namespace Sys2Proof.Machine

/-! Fields as numbers. -/

theorem toNat_append_add {m n : Nat} (x : BitVec m) (y : BitVec n) : (x ++ y).toNat = x.toNat * 2 ^ n + y.toNat := by
  rw [BitVec.toNat_append, ← Nat.shiftLeft_add_eq_or_of_lt y.isLt, Nat.shiftLeft_eq]

theorem toNat_field (r : Word) (k n : Nat) : (r.extractLsb' k n).toNat = r.toNat / 2 ^ k % 2 ^ n := by
  rw [BitVec.extractLsb'_toNat, Nat.shiftRight_eq_div_pow]

theorem field_eq_iff (r : Word) (k : Nat) {n : Nat} (v : BitVec n) :
    r.extractLsb' k n = v ↔ r.toNat / 2 ^ k % 2 ^ n = v.toNat := by
  rw [← BitVec.toNat_inj, toNat_field]

theorem fpExp_eq (r : Word) : fpExp r = r.toNat / 2 ^ 52 % 2 ^ 11 := toNat_field r 52 11

theorem fpFrac_eq (r : Word) : fpFrac r = r.toNat % 2 ^ 52 := by
  rw [fpFrac, toNat_field, Nat.pow_zero, Nat.div_one]

theorem fpFrac23_eq (r : Word) : fpFrac23 r = r.toNat / 2 ^ 29 % 2 ^ 23 := toNat_field r 29 23

theorem getLsbD_eq_decide {n : Nat} (v : BitVec n) (k : Nat) : v.getLsbD k = decide (v.toNat / 2 ^ k % 2 = 1) :=
  Nat.testBit_eq_decide_div_mod_eq

theorem fpSign_eq (r : Word) : fpSign r = decide (r.toNat / 2 ^ 63 = 1) := by
  have hlt := r.isLt
  rw [fpSign, getLsbD_eq_decide, Nat.mod_eq_of_lt (by omega)]

/-- The numbers a valid S register holds (43_float.md R602). -/
theorem valid_s_iff (r : Word) : Fmt.valid .s r = true ↔ r.toNat % 2 ^ 29 = 0
    ∧ (fpExp r = 0 ∨ fpExp r = 0x7FF ∨ 0x381 ≤ fpExp r ∧ fpExp r ≤ 0x47E) := by
  simp [Fmt.valid, field_eq_iff, or_assoc]

/-- The numbers a valid F register holds (43_float.md R603). -/
theorem valid_f_iff (r : Word) : Fmt.valid .f r = true ↔ r.toNat % 2 ^ 29 = 0
    ∧ (fpExp r = 0 ∨ 897 ≤ fpExp r ∧ fpExp r ≤ 1151) := by
  simp [Fmt.valid, field_eq_iff]

/-! The memory conversions as numbers (R601). -/

/-- The 8-bit exponent of S as 11 bits (R600). -/
def widenS (e : Nat) : Nat := if e = 0xFF then 0x7FF else if e = 0 then 0 else e + 896

/-- The 8-bit exponent of F as 11 bits (R600). -/
def widenF (e : Nat) : Nat := if e = 0 then 0 else e + 896

theorem toNat_widenS (e : BitVec 8) :
    (if e = 0xFF then 0x7FF else if e = 0 then 0 else e.setWidth 11 + 896 : BitVec 11).toNat = widenS e.toNat := by
  have hmax : e = 0xFF ↔ e.toNat = 0xFF := BitVec.toNat_inj.symm
  have hzero : e = 0 ↔ e.toNat = 0 := BitVec.toNat_inj.symm
  have hlt := e.isLt
  simp only [widenS, hmax, hzero]
  split_ifs
  · rfl
  · rfl
  · simp
    omega

theorem toNat_widenF (e : BitVec 8) :
    (if e = 0 then 0 else e.setWidth 11 + 896 : BitVec 11).toNat = widenF e.toNat := by
  have hzero : e = 0 ↔ e.toNat = 0 := BitVec.toNat_inj.symm
  have hlt := e.isLt
  simp only [widenF, hzero]
  split_ifs
  · rfl
  · simp
    omega

theorem toNat_sMemToReg (v : Word) : (sMemToReg v).toNat = v.toNat / 2 ^ 31 % 2 * 2 ^ 63
    + widenS (v.toNat / 2 ^ 23 % 2 ^ 8) * 2 ^ 52 + v.toNat % 2 ^ 23 * 2 ^ 29 := by
  simp only [sMemToReg, toNat_append_add, toNat_widenS, toNat_field]
  simp
  omega

theorem toNat_fMemToReg (v : Word) : (fMemToReg v).toNat = v.toNat / 2 ^ 15 % 2 * 2 ^ 63
    + widenF (v.toNat / 2 ^ 7 % 2 ^ 8) * 2 ^ 52 + v.toNat % 2 ^ 7 * 2 ^ 45 + v.toNat / 2 ^ 16 % 2 ^ 16 * 2 ^ 29 := by
  simp only [fMemToReg, toNat_append_add, toNat_widenF, toNat_field]
  simp
  omega

/-- The bits 10 and 6 to 0 of an 11-bit exponent: the exponent in memory (R601). -/
def narrow (e : Nat) : Nat := e / 2 ^ 10 * 2 ^ 7 + e % 2 ^ 7

theorem toNat_sRegToMem (r : Word) : (sRegToMem r).toNat = r.toNat / 2 ^ 63 * 2 ^ 31
    + narrow (r.toNat / 2 ^ 52 % 2 ^ 11) * 2 ^ 23 + r.toNat / 2 ^ 29 % 2 ^ 23 := by
  have hlt := r.isLt
  have htop : r.toNat / 2 ^ 52 % 2 ^ 11 / 2 ^ 10 = r.toNat / 2 ^ 62 % 2 := by omega
  have hlow : r.toNat / 2 ^ 52 % 2 ^ 11 % 2 ^ 7 = r.toNat / 2 ^ 52 % 2 ^ 7 := by omega
  simp only [sRegToMem, BitVec.toNat_setWidth, toNat_append_add, toNat_field, narrow, htop, hlow]
  rw [Nat.mod_eq_of_lt (by omega)]
  omega

theorem toNat_fRegToMem (r : Word) : (fRegToMem r).toNat = r.toNat / 2 ^ 29 % 2 ^ 16 * 2 ^ 16
    + r.toNat / 2 ^ 63 * 2 ^ 15 + narrow (r.toNat / 2 ^ 52 % 2 ^ 11) * 2 ^ 7 + r.toNat / 2 ^ 45 % 2 ^ 7 := by
  have hlt := r.isLt
  have htop : r.toNat / 2 ^ 52 % 2 ^ 11 / 2 ^ 10 = r.toNat / 2 ^ 62 % 2 := by omega
  have hlow : r.toNat / 2 ^ 52 % 2 ^ 11 % 2 ^ 7 = r.toNat / 2 ^ 52 % 2 ^ 7 := by omega
  simp only [fRegToMem, BitVec.toNat_setWidth, toNat_append_add, toNat_field, narrow, htop, hlow]
  rw [Nat.mod_eq_of_lt (by omega)]
  omega

theorem widenS_spec {e : Nat} (he : e < 2 ^ 8) : narrow (widenS e) = e ∧ widenS e < 2 ^ 11
    ∧ (widenS e = 0 ∨ widenS e = 0x7FF ∨ 0x381 ≤ widenS e ∧ widenS e ≤ 0x47E) := by
  unfold narrow widenS
  split_ifs <;> omega

theorem widenF_spec {e : Nat} (he : e < 2 ^ 8) : narrow (widenF e) = e ∧ widenF e < 2 ^ 11
    ∧ (widenF e = 0 ∨ 897 ≤ widenF e ∧ widenF e ≤ 1151) := by
  unfold narrow widenF
  split_ifs <;> omega

theorem narrow_spec {e : Nat} (he : e < 2 ^ 11) : narrow e < 2 ^ 8
    ∧ ((e = 0 ∨ e = 0x7FF ∨ 0x381 ≤ e ∧ e ≤ 0x47E) → widenS (narrow e) = e)
    ∧ ((e = 0 ∨ 897 ≤ e ∧ e ≤ 1151) → widenF (narrow e) = e) := by
  unfold narrow widenS widenF
  refine ⟨by omega, fun h => ?_, fun h => ?_⟩ <;> split_ifs <;> omega

/-! The fields of what a load gives. -/

theorem fields_sMemToReg (v : Word) : (sMemToReg v).toNat / 2 ^ 63 = v.toNat / 2 ^ 31 % 2
    ∧ (sMemToReg v).toNat / 2 ^ 52 % 2 ^ 11 = widenS (v.toNat / 2 ^ 23 % 2 ^ 8)
    ∧ (sMemToReg v).toNat / 2 ^ 29 % 2 ^ 23 = v.toNat % 2 ^ 23 ∧ (sMemToReg v).toNat % 2 ^ 29 = 0 := by
  have hwiden := (widenS_spec (Nat.mod_lt (v.toNat / 2 ^ 23) (by decide : 0 < 2 ^ 8))).2.1
  rw [toNat_sMemToReg]
  omega

/-- The fields of a register put together from a sign, an exponent and the two parts of an F fraction. -/
theorem digits_of_register {s e h l : Nat} (he : e < 2 ^ 11) (hh : h < 2 ^ 7) (hl : l < 2 ^ 16) :
    (s * 2 ^ 63 + e * 2 ^ 52 + h * 2 ^ 45 + l * 2 ^ 29) / 2 ^ 63 = s
    ∧ (s * 2 ^ 63 + e * 2 ^ 52 + h * 2 ^ 45 + l * 2 ^ 29) / 2 ^ 52 % 2 ^ 11 = e
    ∧ (s * 2 ^ 63 + e * 2 ^ 52 + h * 2 ^ 45 + l * 2 ^ 29) / 2 ^ 45 % 2 ^ 7 = h
    ∧ (s * 2 ^ 63 + e * 2 ^ 52 + h * 2 ^ 45 + l * 2 ^ 29) / 2 ^ 29 % 2 ^ 16 = l
    ∧ (s * 2 ^ 63 + e * 2 ^ 52 + h * 2 ^ 45 + l * 2 ^ 29) % 2 ^ 29 = 0 := by
  omega

theorem fields_fMemToReg (v : Word) : (fMemToReg v).toNat / 2 ^ 63 = v.toNat / 2 ^ 15 % 2
    ∧ (fMemToReg v).toNat / 2 ^ 52 % 2 ^ 11 = widenF (v.toNat / 2 ^ 7 % 2 ^ 8)
    ∧ (fMemToReg v).toNat / 2 ^ 45 % 2 ^ 7 = v.toNat % 2 ^ 7
    ∧ (fMemToReg v).toNat / 2 ^ 29 % 2 ^ 16 = v.toNat / 2 ^ 16 % 2 ^ 16 ∧ (fMemToReg v).toNat % 2 ^ 29 = 0 := by
  have hwiden := (widenF_spec (Nat.mod_lt (v.toNat / 2 ^ 7) (by decide : 0 < 2 ^ 8))).2.1
  rw [toNat_fMemToReg]
  exact digits_of_register hwiden (Nat.mod_lt _ (by decide)) (Nat.mod_lt _ (by decide))

theorem fields_sRegToMem (r : Word) : (sRegToMem r).toNat / 2 ^ 31 % 2 = r.toNat / 2 ^ 63
    ∧ (sRegToMem r).toNat / 2 ^ 23 % 2 ^ 8 = narrow (r.toNat / 2 ^ 52 % 2 ^ 11)
    ∧ (sRegToMem r).toNat % 2 ^ 23 = r.toNat / 2 ^ 29 % 2 ^ 23 := by
  have hlt := r.isLt
  have hnarrow := (narrow_spec (Nat.mod_lt (r.toNat / 2 ^ 52) (by decide : 0 < 2 ^ 11))).1
  rw [toNat_sRegToMem]
  omega

/-- The fields of a longword put together from the parts of an F number in memory. -/
theorem digits_of_longword {s e h l : Nat} (hs : s < 2) (he : e < 2 ^ 8) (hh : h < 2 ^ 7) (hl : l < 2 ^ 16) :
    (l * 2 ^ 16 + s * 2 ^ 15 + e * 2 ^ 7 + h) / 2 ^ 15 % 2 = s
    ∧ (l * 2 ^ 16 + s * 2 ^ 15 + e * 2 ^ 7 + h) / 2 ^ 7 % 2 ^ 8 = e
    ∧ (l * 2 ^ 16 + s * 2 ^ 15 + e * 2 ^ 7 + h) % 2 ^ 7 = h
    ∧ (l * 2 ^ 16 + s * 2 ^ 15 + e * 2 ^ 7 + h) / 2 ^ 16 % 2 ^ 16 = l := by
  omega

theorem fields_fRegToMem (r : Word) : (fRegToMem r).toNat / 2 ^ 15 % 2 = r.toNat / 2 ^ 63
    ∧ (fRegToMem r).toNat / 2 ^ 7 % 2 ^ 8 = narrow (r.toNat / 2 ^ 52 % 2 ^ 11)
    ∧ (fRegToMem r).toNat % 2 ^ 7 = r.toNat / 2 ^ 45 % 2 ^ 7
    ∧ (fRegToMem r).toNat / 2 ^ 16 % 2 ^ 16 = r.toNat / 2 ^ 29 % 2 ^ 16 := by
  have hlt := r.isLt
  have hnarrow := (narrow_spec (Nat.mod_lt (r.toNat / 2 ^ 52) (by decide : 0 < 2 ^ 11))).1
  rw [toNat_fRegToMem]
  exact digits_of_longword (by omega) hnarrow (Nat.mod_lt _ (by decide)) (Nat.mod_lt _ (by decide))

/-! Round trips and bits. -/

theorem toNat_setWidth_long (m : BitVec 32) : (m.setWidth 64).toNat = m.toNat :=
  BitVec.toNat_setWidth_of_le (by decide)

theorem sRegToMem_sMemToReg (m : BitVec 32) : sRegToMem (sMemToReg (m.setWidth 64)) = m.setWidth 64 := by
  have hlt := m.isLt
  obtain ⟨hsign, hexp, hfrac, -⟩ := fields_sMemToReg (m.setWidth 64)
  have hnarrow := (widenS_spec (Nat.mod_lt (m.toNat / 2 ^ 23) (by decide : 0 < 2 ^ 8))).1
  rw [← BitVec.toNat_inj, toNat_sRegToMem, hsign, hexp, hfrac, toNat_setWidth_long, hnarrow]
  omega

theorem fRegToMem_fMemToReg (m : BitVec 32) : fRegToMem (fMemToReg (m.setWidth 64)) = m.setWidth 64 := by
  have hlt := m.isLt
  obtain ⟨hsign, hexp, hhigh, hlow, -⟩ := fields_fMemToReg (m.setWidth 64)
  have hnarrow := (widenF_spec (Nat.mod_lt (m.toNat / 2 ^ 7) (by decide : 0 < 2 ^ 8))).1
  rw [← BitVec.toNat_inj, toNat_fRegToMem, hsign, hexp, hhigh, hlow, toNat_setWidth_long, hnarrow]
  omega

theorem sMemToReg_sRegToMem {r : Word} (h : Fmt.valid .s r = true) : sMemToReg (sRegToMem r) = r := by
  have hlt := r.isLt
  rw [valid_s_iff, fpExp_eq] at h
  obtain ⟨hzeros, hvalid⟩ := h
  obtain ⟨hsign, hexp, hfrac⟩ := fields_sRegToMem r
  have hwiden := (narrow_spec (Nat.mod_lt (r.toNat / 2 ^ 52) (by decide : 0 < 2 ^ 11))).2.1 hvalid
  rw [← BitVec.toNat_inj, toNat_sMemToReg, hsign, hexp, hfrac, hwiden]
  omega

theorem fMemToReg_fRegToMem {r : Word} (h : Fmt.valid .f r = true) : fMemToReg (fRegToMem r) = r := by
  rw [valid_f_iff, fpExp_eq] at h
  obtain ⟨hzeros, hvalid⟩ := h
  obtain ⟨hsign, hexp, hhigh, hlow⟩ := fields_fRegToMem r
  have hwiden := (narrow_spec (Nat.mod_lt (r.toNat / 2 ^ 52) (by decide : 0 < 2 ^ 11))).2.2 hvalid
  have hfrac : r.toNat / 2 ^ 29 = r.toNat / 2 ^ 45 * 2 ^ 16 + r.toNat / 2 ^ 29 % 2 ^ 16 := by omega
  have hexps : r.toNat / 2 ^ 45 = r.toNat / 2 ^ 52 * 2 ^ 7 + r.toNat / 2 ^ 45 % 2 ^ 7 := by omega
  have htop : r.toNat / 2 ^ 52 = r.toNat / 2 ^ 63 * 2 ^ 11 + r.toNat / 2 ^ 52 % 2 ^ 11 := by omega
  rw [← BitVec.toNat_inj, toNat_fMemToReg, hsign, hexp, hhigh, hlow, hwiden]
  omega

theorem valid_sMemToReg (v : Word) : Fmt.valid .s (sMemToReg v) = true := by
  obtain ⟨-, hexp, -, hzeros⟩ := fields_sMemToReg v
  rw [valid_s_iff, fpExp_eq, hexp]
  exact ⟨hzeros, (widenS_spec (Nat.mod_lt _ (by decide))).2.2⟩

theorem valid_fMemToReg (v : Word) : Fmt.valid .f (fMemToReg v) = true := by
  obtain ⟨-, hexp, -, -, hzeros⟩ := fields_fMemToReg v
  rw [valid_f_iff, fpExp_eq, hexp]
  exact ⟨hzeros, (widenF_spec (Nat.mod_lt _ (by decide))).2.2⟩

/-- A word is what its four 16-bit lanes are. -/
theorem eq_of_wordAt {v w : Word} (h : ∀ j < 4, wordAt v j = wordAt w j) : v = w := by
  refine BitVec.eq_of_getLsbD_eq fun k hk => ?_
  have hbit := congrArg (fun x => x.getLsbD (k % 16)) (h (k / 16) (by omega))
  simpa [wordAt, Nat.mod_lt, Nat.div_add_mod] using hbit

theorem gMemToReg_eq (v : Word) : gMemToReg v = ofWordLanes fun j => wordAt v (3 - j) := by
  simp only [gMemToReg, ofWordLanes, wordAt, Nat.sub_self, Nat.reduceSub, Nat.reduceMul, Nat.sub_zero]

/-- The word swap of G, word by word. -/
theorem wordAt_gMemToReg (v : Word) {j : Nat} (hj : j < 4) : wordAt (gMemToReg v) j = wordAt v (3 - j) := by
  rw [gMemToReg_eq, wordAt_ofWordLanes _ hj]

/-- The word swap is its own inverse. -/
theorem gMemToReg_gMemToReg (v : Word) : gMemToReg (gMemToReg v) = v :=
  eq_of_wordAt fun j hj => by
    rw [wordAt_gMemToReg _ hj, wordAt_gMemToReg _ (by omega), show 3 - (3 - j) = j by omega]

theorem getLsbD_sRegToMem (r : Word) {k : Nat} (hk : k < 64) :
    (sRegToMem r).getLsbD k = (decide (k < 32) && r.getLsbD (if k < 30 then k + 29 else k + 32)) := by
  simp only [sRegToMem, BitVec.getLsbD_setWidth, BitVec.getLsbD_append, BitVec.getLsbD_extractLsb']
  split_ifs <;> grind

theorem getLsbD_fRegToMem (r : Word) {k : Nat} (hk : k < 64) : (fRegToMem r).getLsbD k
    = (decide (k < 32) && r.getLsbD (if k < 14 then k + 45 else if k < 16 then k + 48 else k + 13)) := by
  simp only [fRegToMem, BitVec.getLsbD_setWidth, BitVec.getLsbD_append, BitVec.getLsbD_extractLsb']
  split_ifs <;> grind

/-- Settles O48: the conversions by their fields, the word swap by its lanes. -/
theorem floatMemoryForms : Obligations.FloatMemoryForms := by
  refine ⟨fun m => ⟨sRegToMem_sMemToReg m, fRegToMem_fMemToReg m⟩, fun m => ⟨gMemToReg_gMemToReg m, gMemToReg_gMemToReg m⟩,
    fun r => sMemToReg_sRegToMem, fun r => fMemToReg_fRegToMem, fun m => ⟨valid_sMemToReg _, valid_fMemToReg _⟩,
    fun m => ?_, fun m => ?_, fun v j hj => ⟨wordAt_gMemToReg v hj, wordAt_gMemToReg v hj⟩,
    fun r => ⟨fun k => getLsbD_sRegToMem r, fun k => getLsbD_fRegToMem r⟩⟩
  · obtain ⟨hsign, hexp, hfrac, hzeros⟩ := fields_sMemToReg (m.setWidth 64)
    rw [toNat_setWidth_long] at hsign hexp hfrac
    simp only [getLsbD_eq_decide, ← BitVec.toNat_inj, BitVec.extractLsb'_toNat, Nat.shiftRight_eq_div_pow]
    exact ⟨by rw [hsign, Nat.mod_mod], hexp, by simpa using hfrac, by simpa using hzeros⟩
  · obtain ⟨hsign, hexp, hhigh, hlow, hzeros⟩ := fields_fMemToReg (m.setWidth 64)
    rw [toNat_setWidth_long] at hsign hexp hhigh hlow
    simp only [getLsbD_eq_decide, ← BitVec.toNat_inj, BitVec.extractLsb'_toNat, Nat.shiftRight_eq_div_pow]
    exact ⟨by rw [hsign, Nat.mod_mod], hexp, by simpa using hhigh, hlow, by simpa using hzeros⟩

end Sys2Proof.Machine

/-! PROOFS. The instructions that move bits between and within floating registers, and the FPCR moves (43_float.md R660 to R662,
R667 to R676). -/

namespace Sys2Proof.Machine

theorem toNat_low_long (v : Word) : ((v.setWidth 32).setWidth 64).toNat = v.toNat % 2 ^ 32 := by
  rw [toNat_setWidth_long, BitVec.toNat_setWidth]

/-- ITOFS reads the low longword only. -/
theorem sMemToReg_low (v : Word) : sMemToReg ((v.setWidth 32).setWidth 64) = sMemToReg v := by
  rw [← BitVec.toNat_inj, toNat_sMemToReg, toNat_sMemToReg, toNat_low_long,
    show v.toNat % 2 ^ 32 / 2 ^ 23 % 2 ^ 8 = v.toNat / 2 ^ 23 % 2 ^ 8 by omega]
  omega

/-- ITOFF reads the low longword only. -/
theorem fMemToReg_low (v : Word) : fMemToReg ((v.setWidth 32).setWidth 64) = fMemToReg v := by
  rw [← BitVec.toNat_inj, toNat_fMemToReg, toNat_fMemToReg, toNat_low_long,
    show v.toNat % 2 ^ 32 / 2 ^ 7 % 2 ^ 8 = v.toNat / 2 ^ 7 % 2 ^ 8 by omega,
    show v.toNat % 2 ^ 32 / 2 ^ 16 % 2 ^ 16 = v.toNat / 2 ^ 16 % 2 ^ 16 by omega]
  omega

/-- A floating instruction that writes a value, with PS.FEN = 1. -/
theorem yieldsF_needFen {s : State} (hfen : State.fen s = true) (r : Reg) (v : Word) :
    yieldsF (needFen s (.next (State.finishF s r v))) s r v := by
  rw [needFen_pos hfen]
  exact yieldsF_finishF s r v

theorem yieldsF_needExt {e : Ext} {s : State} {k : Outcome} {r : Reg} {v : Word} (he : State.has s e = true)
    (h : yieldsF k s r v) : yieldsF (needExt e s k) s r v := by
  rwa [needExt_pos he]

theorem yieldsX_needFen {s : State} (hfen : State.fen s = true) (r : Reg) (v : Word) :
    yieldsX (needFen s (.next (State.finishX s r v))) s r v := by
  rw [needFen_pos hfen]
  exact yieldsX_finishX s r v

/-- The FPCR is read with its stored bits below bit 63 (10_state.md R61). -/
theorem getLsbD_fpcrValue (f : Word) {k : Nat} (hk : k < 64) :
    (Fpcr.value f).getLsbD k = (f.getLsbD k || (k == 63 && decide (f.extractLsb' 52 6 ≠ 0))) := by
  rw [Fpcr.value, BitVec.getLsbD_or, getLsbD_ofBool_shiftLeft _ _ hk]

/-- A field that is not zero has a bit. -/
theorem extract_ne_zero_iff {n : Nat} (v : BitVec n) (start len : Nat) :
    v.extractLsb' start len ≠ 0 ↔ ∃ k, start ≤ k ∧ k < start + len ∧ v.getLsbD k = true := by
  constructor
  · intro h
    by_contra hno
    refine h (BitVec.eq_of_getLsbD_eq fun j hj => ?_)
    have hbit : v.getLsbD (start + j) = false :=
      Bool.eq_false_iff.2 fun hset => hno ⟨start + j, by omega, by omega, hset⟩
    simp [hbit]
  · rintro ⟨k, hge, hlt, hset⟩ hzero
    have hbit := congrArg (fun x => x.getLsbD (k - start)) hzero
    simp [hge, hset, show k - start < len by omega] at hbit

/-- The stored bits of the FPCR: 62:48. -/
theorem getLsbD_fpcrMask {k : Nat} (hk : k < 64) : fpcrMask.getLsbD k = decide (48 ≤ k ∧ k ≤ 62) := by
  rw [show fpcrMask = (BitVec.allOnes 15).setWidth 64 <<< 48 from rfl, Bool.eq_iff_iff]
  simp only [BitVec.getLsbD_shiftLeft, BitVec.getLsbD_setWidth, BitVec.getLsbD_allOnes, Bool.and_eq_true,
    Bool.not_eq_true', decide_eq_true_eq, decide_eq_false_iff_not]
  omega

/-- Settles O41: each instruction writes one value, MT_FPCR the masked register. -/
theorem floatMovesAndFpcr : Obligations.FloatMovesAndFpcr := by
  refine ⟨fun s fa fb fc hfen => ⟨yieldsF_needFen hfen _ _, yieldsF_needFen hfen _ _, yieldsF_needFen hfen _ _,
    yieldsF_needFen hfen _ _, fun hfix => ⟨?_, ?_, ?_, ?_, ?_⟩⟩, fun s fa fb fc hfen => ⟨?_, ?_⟩⟩
  · exact yieldsF_needExt hfix (yieldsF_needFen hfen _ _)
  · rw [sMemToReg_low]
    exact yieldsF_needExt hfix (yieldsF_needFen hfen _ _)
  · rw [fMemToReg_low]
    exact yieldsF_needExt hfix (yieldsF_needFen hfen _ _)
  · exact yieldsX_needExt hfix (yieldsX_needFen hfen _ _)
  · exact yieldsX_needExt hfix (yieldsX_needFen hfen _ _)
  · refine ⟨State.f s fa &&& fpcrMask, needFen_pos hfen _, fun k hk => ?_⟩
    rw [BitVec.getLsbD_and, getLsbD_fpcrMask hk, Bool.and_comm]
  · refine ⟨Fpcr.value s.cpu.fpcr, yieldsF_needFen hfen _ _, fun k hk => ?_, fun hmask => ?_⟩
    · rw [getLsbD_fpcrValue _ (by omega), beq_false_of_ne (by omega), Bool.false_and, Bool.or_false]
    · have htop : s.cpu.fpcr.getLsbD 63 = false := by
        rw [Bool.eq_false_iff]
        exact fun h => absurd (maskedBy_iff.1 hmask 63 h) (by decide)
      rw [getLsbD_fpcrValue _ (by decide), htop, Bool.false_or, beq_self_eq_true, Bool.true_and,
        decide_eq_true_eq, extract_ne_zero_iff]
      exact exists_congr fun k => and_congr_right fun _ => and_congr_left fun _ => Nat.lt_succ_iff

end Sys2Proof.Machine

/-! PROOFS. The value of a register and the register of a value (43_float.md R600, R602, R603), format by format. -/

namespace Sys2Proof.Machine

/-! Registers put together. -/

theorem toNat_packFp (neg : Bool) {e f : Nat} (he : e < 2 ^ 11) (hf : f < 2 ^ 52) :
    (packFp neg e f).toNat = neg.toNat * 2 ^ 63 + e * 2 ^ 52 + f := by
  rw [packFp, toNat_append_add, toNat_append_add, BitVec.toNat_ofNat, BitVec.toNat_ofNat, BitVec.toNat_ofBool,
    Nat.mod_eq_of_lt he, Nat.mod_eq_of_lt hf]
  omega

theorem toNat_fpSign (r : Word) : (fpSign r).toNat = r.toNat / 2 ^ 63 := by
  have hlt := r.isLt
  rw [fpSign_eq]
  by_cases h : r.toNat / 2 ^ 63 = 1
  · rw [decide_eq_true h, h, Bool.toNat_true]
  · rw [decide_eq_false h, Bool.toNat_false]
    omega

theorem fields_packFp (neg : Bool) {e f : Nat} (he : e < 2 ^ 11) (hf : f < 2 ^ 52) :
    fpSign (packFp neg e f) = neg ∧ fpExp (packFp neg e f) = e ∧ fpFrac (packFp neg e f) = f
      ∧ fpFrac23 (packFp neg e f) = f / 2 ^ 29 := by
  rw [fpSign_eq, fpExp_eq, fpFrac_eq, fpFrac23_eq, toNat_packFp neg he hf]
  cases neg <;> simp <;> omega

/-- A register is put together from its fields. -/
theorem packFp_fields (r : Word) : packFp (fpSign r) (fpExp r) (fpFrac r) = r := by
  have hlt := r.isLt
  have hexp : fpExp r < 2 ^ 11 := BitVec.isLt _
  have hfrac : fpFrac r < 2 ^ 52 := BitVec.isLt _
  rw [← BitVec.toNat_inj, toNat_packFp _ hexp hfrac, toNat_fpSign, fpExp_eq, fpFrac_eq]
  omega

/-- The fraction of a register whose low 29 bits are zero. -/
theorem fpFrac_of_low_zero {r : Word} (h : r.toNat % 2 ^ 29 = 0) : fpFrac r = fpFrac23 r * 2 ^ 29 := by
  rw [fpFrac_eq, fpFrac23_eq]
  omega

/-! The D register (R600), which is only produced and read by conversions. -/

/-- [62:55]: the exponent of a D register. -/
def dExp (r : Word) : Nat := (r.extractLsb' 55 8).toNat

/-- [54:0]: the fraction of a D register. -/
def dFrac (r : Word) : Nat := (r.extractLsb' 0 55).toNat

theorem dExp_eq (r : Word) : dExp r = r.toNat / 2 ^ 55 % 2 ^ 8 := toNat_field r 55 8

theorem dFrac_eq (r : Word) : dFrac r = r.toNat % 2 ^ 55 := by
  rw [dFrac, toNat_field, Nat.pow_zero, Nat.div_one]

theorem value_d (dnz : Bool) (r : Word) : Fmt.value .d dnz r
    = if dExp r = 0 then (if fpSign r then .reserved else .num false 0 0)
      else .num (fpSign r) (2 ^ 55 + dFrac r) ((dExp r : Int) - 184) := rfl

theorem toNat_packD (neg : Bool) {e : Nat} (he : e < 2 ^ 8) (n : Nat) :
    (BitVec.ofBool neg ++ BitVec.ofNat 8 e ++ BitVec.ofNat 55 n : Word).toNat = neg.toNat * 2 ^ 63 + e * 2 ^ 55 + n % 2 ^ 55 := by
  rw [toNat_append_add, toNat_append_add, BitVec.toNat_ofNat, BitVec.toNat_ofNat, BitVec.toNat_ofBool, Nat.mod_eq_of_lt he]
  omega

theorem fields_packD (neg : Bool) {e : Nat} (he : e < 2 ^ 8) (n : Nat) :
    fpSign (BitVec.ofBool neg ++ BitVec.ofNat 8 e ++ BitVec.ofNat 55 n) = neg
      ∧ dExp (BitVec.ofBool neg ++ BitVec.ofNat 8 e ++ BitVec.ofNat 55 n) = e
      ∧ dFrac (BitVec.ofBool neg ++ BitVec.ofNat 8 e ++ BitVec.ofNat 55 n) = n % 2 ^ 55 := by
  rw [fpSign_eq, dExp_eq, dFrac_eq, toNat_packD neg he]
  cases neg <;> simp <;> omega

/-! The register of a value. -/

/-- A register that the format holds and whose value is the number given, with its sign (a VAX zero has none). -/
structure Fmt.Holds (fm : Fmt) (r : Word) (neg : Bool) (m : Nat) (e : Int) : Prop where
  valid : Fmt.valid fm r = true
  value : Fmt.value fm false r = .num neg m e
  sign : fpSign r = neg
  finite : Fmt.vax fm = false → fpExp r ≠ 0x7FF

/-- A normal number of the format: `n` has its precision and the exponent is in range (R600). -/
structure Fmt.Normal (fm : Fmt) (n : Nat) (q : Int) : Prop where
  le : 2 ^ (Fmt.prec fm - 1) ≤ n
  lt : n < 2 ^ Fmt.prec fm
  min : Fmt.eMin fm ≤ q + Fmt.prec fm - 1
  max : q + Fmt.prec fm - 1 ≤ Fmt.eMax fm

/-- The fields of an S or F register that is put together. -/
theorem fields_packFp23 (neg : Bool) {e : Nat} (he : e < 2 ^ 11) (n : Nat) :
    fpSign (packFp neg e (n % 2 ^ 23 * 2 ^ 29)) = neg ∧ fpExp (packFp neg e (n % 2 ^ 23 * 2 ^ 29)) = e
      ∧ fpFrac23 (packFp neg e (n % 2 ^ 23 * 2 ^ 29)) = n % 2 ^ 23
      ∧ (packFp neg e (n % 2 ^ 23 * 2 ^ 29)).toNat % 2 ^ 29 = 0 := by
  have hfrac : n % 2 ^ 23 * 2 ^ 29 < 2 ^ 52 := by omega
  obtain ⟨hs, he', -, hf⟩ := fields_packFp neg he hfrac
  refine ⟨hs, he', by rw [hf, Nat.mul_div_cancel _ (by decide)], ?_⟩
  rw [toNat_packFp neg he hfrac]
  omega

/-- The register that is packed for a normal number holds it. -/
theorem holds_packNormal {fm : Fmt} {n : Nat} {q : Int} (h : Fmt.Normal fm n q) (neg : Bool) :
    Fmt.Holds fm (Fmt.packNormal fm neg n q) neg n q := by
  obtain ⟨hle, hlt, hmin, hmax⟩ := h
  cases fm with
  | t =>
    simp only [Fmt.prec, Fmt.eMin, Fmt.eMax] at hle hlt hmin hmax
    obtain ⟨hs, he, hf, -⟩ := fields_packFp neg (e := (q + 1075).toNat) (f := n % 2 ^ 52) (by omega) (by omega)
    refine ⟨rfl, ?_, hs, fun _ => by rw [Fmt.packNormal, he]; omega⟩
    simp only [Fmt.value, Fmt.packNormal, hs, he, hf]
    rw [if_neg (by omega), if_neg (by omega)]
    congr 1 <;> omega
  | g =>
    simp only [Fmt.prec, Fmt.eMin, Fmt.eMax] at hle hlt hmin hmax
    obtain ⟨hs, he, hf, -⟩ := fields_packFp neg (e := (q + 1077).toNat) (f := n % 2 ^ 52) (by omega) (by omega)
    refine ⟨rfl, ?_, hs, fun hvax => absurd hvax (by decide)⟩
    simp only [Fmt.value, Fmt.packNormal, hs, he, hf]
    rw [if_neg (by omega)]
    congr 1 <;> omega
  | s =>
    simp only [Fmt.prec, Fmt.eMin, Fmt.eMax] at hle hlt hmin hmax
    obtain ⟨hs, he, hf, hlow⟩ := fields_packFp23 neg (e := (q + 1046).toNat) (by omega) n
    refine ⟨(valid_s_iff _).2 ⟨hlow, by rw [Fmt.packNormal, he]; omega⟩, ?_, hs, fun _ => by rw [Fmt.packNormal, he]; omega⟩
    simp only [Fmt.value, Fmt.packNormal, hs, he, hf]
    rw [if_neg (by omega), if_neg (by omega)]
    congr 1 <;> omega
  | f =>
    simp only [Fmt.prec, Fmt.eMin, Fmt.eMax] at hle hlt hmin hmax
    obtain ⟨hs, he, hf, hlow⟩ := fields_packFp23 neg (e := (q + 1048).toNat) (by omega) n
    refine ⟨(valid_f_iff _).2 ⟨hlow, by rw [Fmt.packNormal, he]; omega⟩, ?_, hs, fun hvax => absurd hvax (by decide)⟩
    simp only [Fmt.value, Fmt.packNormal, hs, he, hf]
    rw [if_neg (by omega)]
    congr 1 <;> omega
  | d =>
    simp only [Fmt.prec, Fmt.eMin, Fmt.eMax] at hle hlt hmin hmax
    obtain ⟨hs, he, hf⟩ := fields_packD neg (e := (q + 184).toNat) (by omega) n
    refine ⟨rfl, ?_, hs, fun hvax => absurd hvax (by decide)⟩
    simp only [value_d, Fmt.packNormal, hs, he, hf]
    rw [if_neg (by omega)]
    congr 1 <;> omega

/-- A multiple of the least denormal of an IEEE format, up to the least normal number (R600, R602). -/
structure Fmt.Tiny (fm : Fmt) (n : Nat) : Prop where
  ieee : Fmt.vax fm = false
  le : n ≤ 2 ^ (Fmt.prec fm - 1)

theorem holds_packTiny {fm : Fmt} {n : Nat} (h : Fmt.Tiny fm n) (neg : Bool) :
    Fmt.Holds fm (Fmt.packTiny fm neg n) neg n (Fmt.eMin fm - Fmt.prec fm + 1) := by
  obtain ⟨hieee, hle⟩ := h
  cases fm with
  | t =>
    simp only [Fmt.prec] at hle
    obtain ⟨hs, he, hf, -⟩ := fields_packFp neg (e := n / 2 ^ 52) (f := n % 2 ^ 52) (by omega) (by omega)
    refine ⟨rfl, ?_, hs, fun _ => by rw [Fmt.packTiny, he]; omega⟩
    simp only [Fmt.value, Fmt.packTiny, hs, he, hf, Fmt.prec, Fmt.eMin, Bool.false_eq_true, ↓reduceIte]
    rw [if_neg (by omega)]
    split <;> congr 1 <;> omega
  | s =>
    simp only [Fmt.prec] at hle
    rw [Fmt.packTiny]
    split
    next hden =>
      have hfields := fields_packFp23 neg (e := 0) (by decide) n
      rw [Nat.mod_eq_of_lt (by omega : n < 2 ^ 23)] at hfields
      obtain ⟨hs, he, hf, hlow⟩ := hfields
      refine ⟨(valid_s_iff _).2 ⟨hlow, .inl he⟩, ?_, hs, fun _ => by rw [he]; decide⟩
      simp only [Fmt.value, hs, he, hf, Fmt.prec, Fmt.eMin]
      rfl
    next hnorm =>
      obtain ⟨hs, he, hf, hlow⟩ := fields_packFp23 neg (e := 0x381) (by decide) n
      refine ⟨(valid_s_iff _).2 ⟨hlow, by rw [he]; decide⟩, ?_, hs, fun _ => by rw [he]; decide⟩
      simp only [Fmt.value, hs, he, hf, Fmt.prec, Fmt.eMin]
      rw [if_neg (by decide), if_neg (by decide)]
      congr 1
      omega
  | f | g | d => cases hieee

/-! The value of a register. -/

/-- What a finite value of a valid register is: a normal number, a multiple of the least denormal, or a VAX zero; and packing
it gives the register back. -/
inductive Fmt.Reads (fm : Fmt) (r : Word) (m : Nat) (e : Int) : Prop
  | normal (h : Fmt.Normal fm m e) (pack : Fmt.packNormal fm (fpSign r) m e = r)
  | tiny (h : Fmt.Tiny fm m) (lt : m < 2 ^ (Fmt.prec fm - 1)) (unit : e = Fmt.eMin fm - Fmt.prec fm + 1)
      (pack : Fmt.packTiny fm (fpSign r) m = r)
  | vaxZero (h : Fmt.vax fm = true) (zero : m = 0)

theorem reads_of_value {fm : Fmt} {r : Word} {neg : Bool} {m : Nat} {e : Int} (hvalid : Fmt.valid fm r = true)
    (h : Fmt.value fm false r = .num neg m e) : Fmt.Reads fm r m e ∧ (m ≠ 0 → neg = fpSign r) := by
  have hexp : fpExp r < 2 ^ 11 := BitVec.isLt _
  have hfrac : fpFrac r < 2 ^ 52 := BitVec.isLt _
  have hfrac23 : fpFrac23 r < 2 ^ 23 := BitVec.isLt _
  have hfields := packFp_fields r
  cases fm with
  | t =>
    simp only [Fmt.value, fpSpecial, Bool.false_eq_true, ↓reduceIte] at h
    split_ifs at h with hmax hinf hmin
    · cases h
      refine ⟨.tiny ⟨rfl, hfrac.le⟩ hfrac rfl ?_, fun _ => rfl⟩
      rwa [Fmt.packTiny, Nat.div_eq_of_lt hfrac, Nat.mod_eq_of_lt hfrac, ← hmin]
    · cases h
      refine ⟨.normal ⟨?_, ?_, ?_, ?_⟩ ?_, fun _ => rfl⟩
      all_goals simp only [Fmt.prec, Fmt.eMin, Fmt.eMax, Fmt.packNormal]
      any_goals omega
      rwa [Nat.add_mod_left, Nat.mod_eq_of_lt hfrac, show ((fpExp r : Int) - 1075 + 1075).toNat = fpExp r by omega]
  | g =>
    simp only [Fmt.value] at h
    split_ifs at h with hmin hneg
    · cases h
      exact ⟨.vaxZero rfl rfl, fun h => absurd rfl h⟩
    · cases h
      refine ⟨.normal ⟨?_, ?_, ?_, ?_⟩ ?_, fun _ => rfl⟩
      all_goals simp only [Fmt.prec, Fmt.eMin, Fmt.eMax, Fmt.packNormal]
      any_goals omega
      rwa [Nat.add_mod_left, Nat.mod_eq_of_lt hfrac, show ((fpExp r : Int) - 1077 + 1077).toNat = fpExp r by omega]
  | s =>
    obtain ⟨hlow, hrange⟩ := (valid_s_iff r).1 hvalid
    rw [fpFrac_of_low_zero hlow] at hfields
    simp only [Fmt.value, fpSpecial, Bool.false_eq_true, ↓reduceIte] at h
    split_ifs at h with hmax hinf hmin
    · cases h
      refine ⟨.tiny ⟨rfl, hfrac23.le⟩ hfrac23 rfl ?_, fun _ => rfl⟩
      rwa [Fmt.packTiny, if_pos (Nat.div_eq_of_lt hfrac23), ← hmin]
    · cases h
      refine ⟨.normal ⟨?_, ?_, ?_, ?_⟩ ?_, fun _ => rfl⟩
      all_goals simp only [Fmt.prec, Fmt.eMin, Fmt.eMax, Fmt.packNormal]
      any_goals omega
      rwa [Nat.add_mod_left, Nat.mod_eq_of_lt hfrac23, show ((fpExp r : Int) - 1046 + 1046).toNat = fpExp r by omega]
  | f =>
    obtain ⟨hlow, hrange⟩ := (valid_f_iff r).1 hvalid
    rw [fpFrac_of_low_zero hlow] at hfields
    simp only [Fmt.value] at h
    split_ifs at h with hmin hneg
    · cases h
      exact ⟨.vaxZero rfl rfl, fun h => absurd rfl h⟩
    · cases h
      refine ⟨.normal ⟨?_, ?_, ?_, ?_⟩ ?_, fun _ => rfl⟩
      all_goals simp only [Fmt.prec, Fmt.eMin, Fmt.eMax, Fmt.packNormal]
      any_goals omega
      rwa [Nat.add_mod_left, Nat.mod_eq_of_lt hfrac23, show ((fpExp r : Int) - 1048 + 1048).toNat = fpExp r by omega]
  | d =>
    have hexpd : dExp r < 2 ^ 8 := BitVec.isLt _
    have hfracd : dFrac r < 2 ^ 55 := BitVec.isLt _
    rw [value_d] at h
    split_ifs at h with hmin hneg
    · cases h
      exact ⟨.vaxZero rfl rfl, fun h => absurd rfl h⟩
    · cases h
      refine ⟨.normal ⟨?_, ?_, ?_, ?_⟩ ?_, fun _ => rfl⟩
      all_goals simp only [Fmt.prec, Fmt.eMin, Fmt.eMax, Fmt.packNormal]
      any_goals omega
      rw [show ((dExp r : Int) - 184 + 184).toNat = dExp r by omega, ← BitVec.toNat_inj, toNat_packD _ hexpd, toNat_fpSign, dExp_eq, dFrac_eq]
      omega

end Sys2Proof.Machine

/-! PROOFS. The exact value of a register as a rational number (43_float.md R602, R603). -/

namespace Sys2Proof.Machine

theorem exactValue_zero (neg : Bool) (e : Int) : exactValue neg 0 e = 0 := by simp [exactValue]

/-- A finer unit: the same value. -/
theorem exactValue_shift (neg : Bool) (m j : Nat) (e : Int) : exactValue neg (m * 2 ^ j) e = exactValue neg m (e + j) := by
  simp only [exactValue]
  rw [zpow_add₀ two_ne_zero, zpow_natCast]
  push_cast
  ring

/-- The formula of a normal number: `1.f` at an exponent is a significand at a lower one. -/
theorem significand_eq (f p : Nat) (E : Int) :
    (1 + (f : ℚ) / 2 ^ p) * 2 ^ E = ((2 ^ p + f : Nat) : ℚ) * 2 ^ (E - p) := by
  rw [zpow_sub₀ two_ne_zero, zpow_natCast]
  push_cast
  field_simp

/-- The formula of a VAX number: `0.1f`. -/
theorem half_significand_eq (f p : Nat) (E : Int) :
    (1 / 2 + (f : ℚ) / 2 ^ (p + 1)) * 2 ^ E = ((2 ^ p + f : Nat) : ℚ) * 2 ^ (E - (p + 1)) := by
  have hhalf : (1 / 2 + (f : ℚ) / 2 ^ (p + 1)) = (1 + (f : ℚ) / 2 ^ p) / 2 := by
    rw [pow_succ]
    field_simp
  rw [hhalf, show E = E - 1 + 1 by ring, zpow_add₀ two_ne_zero, zpow_one, div_mul_eq_mul_div, ← mul_assoc,
    mul_div_cancel_right₀ _ two_ne_zero, significand_eq]
  congr 2
  ring

/-- The value of a T register, an infinity taken as 2^1024. -/
theorem regValue_t (r : Word) : regValue .t r = if fpExp r = 0 then exactValue (fpSign r) (fpFrac r) (-1074)
    else exactValue (fpSign r) (2 ^ 52 + fpFrac r) ((fpExp r : Int) - 1075) := by
  have hcast : ((fpExp r : Int) = 0) = (fpExp r = 0) := by simp
  have hnormal := significand_eq (fpFrac r) 52 (fpExp r - 1023)
  have hunit : (2 : ℚ) ^ (-1022 : Int) = 2 ^ 52 * 2 ^ (-1074 : Int) := by
    rw [← zpow_natCast, ← zpow_add₀ two_ne_zero]
    norm_num
  rw [show (fpExp r : Int) - 1023 - (52 : Nat) = fpExp r - 1075 by ring] at hnormal
  change (if (fpExp r : Int) = 0 then (if fpSign r then (-1 : ℚ) else 1) * ((fpFrac r : ℚ) / 2 ^ 52) * 2 ^ (-1022 : Int)
    else (if fpSign r then (-1 : ℚ) else 1) * (1 + (fpFrac r : ℚ) / 2 ^ 52) * 2 ^ ((fpExp r : Int) - 1023)) = _
  simp only [hcast, exactValue]
  generalize (if fpSign r = true then (-1 : ℚ) else 1) = sign
  split
  · rw [hunit]
    ring
  · rw [mul_assoc, hnormal, mul_assoc]

/-- The value of a G register; an F register holds a G number. -/
theorem regValue_g (r : Word) : regValue .g r = if fpExp r = 0 then 0
    else exactValue (fpSign r) (2 ^ 52 + fpFrac r) ((fpExp r : Int) - 1077) := by
  have hcast : ((fpExp r : Int) = 0) = (fpExp r = 0) := by simp
  have hnormal := half_significand_eq (fpFrac r) 52 (fpExp r - 1024)
  rw [show (fpExp r : Int) - 1024 - ((52 : Nat) + 1) = fpExp r - 1077 by ring] at hnormal
  change (if (fpExp r : Int) = 0 then 0
    else (if fpSign r then (-1 : ℚ) else 1) * (1 / 2 + (fpFrac r : ℚ) / 2 ^ 53) * 2 ^ ((fpExp r : Int) - 1024)) = _
  simp only [hcast, exactValue]
  generalize (if fpSign r = true then (-1 : ℚ) else 1) = sign
  rw [mul_assoc, hnormal, mul_assoc]

theorem regValue_d (r : Word) : regValue .d r = if dExp r = 0 then 0
    else exactValue (fpSign r) (2 ^ 55 + dFrac r) ((dExp r : Int) - 184) := by
  have hcast : ((dExp r : Int) = 0) = (dExp r = 0) := by simp
  have hnormal := half_significand_eq (dFrac r) 55 (dExp r - 128)
  rw [show (dExp r : Int) - 128 - ((55 : Nat) + 1) = dExp r - 184 by ring] at hnormal
  change (if (dExp r : Int) = 0 then 0
    else (if fpSign r then (-1 : ℚ) else 1) * (1 / 2 + (dFrac r : ℚ) / 2 ^ 56) * 2 ^ ((dExp r : Int) - 128)) = _
  simp only [hcast, exactValue]
  generalize (if fpSign r = true then (-1 : ℚ) else 1) = sign
  rw [mul_assoc, hnormal, mul_assoc]

/-- The 8-bit exponent of a valid S register. -/
theorem narrow_of_valid_s {e : Nat} (he : e = 0 ∨ 0x381 ≤ e ∧ e ≤ 0x47E) :
    (narrow e = 0 ↔ e = 0) ∧ (e ≠ 0 → narrow e + 896 = e) := by
  unfold narrow
  omega

/-- The value of a finite S register, by the binary32 value of its memory form. -/
theorem regValue_s {r : Word} (hvalid : Fmt.valid .s r = true) (hfinite : fpExp r ≠ 0x7FF) : regValue .s r
    = if fpExp r = 0 then exactValue (fpSign r) (fpFrac23 r) (-149)
      else exactValue (fpSign r) (2 ^ 23 + fpFrac23 r) ((fpExp r : Int) - 1046) := by
  obtain ⟨-, hrange⟩ := (valid_s_iff r).1 hvalid
  obtain ⟨hzero, hbias⟩ := narrow_of_valid_s (e := fpExp r) (by omega)
  obtain ⟨-, hexp, hfrac⟩ := fields_sRegToMem r
  rw [← toNat_field, ← fpExp_eq] at hexp
  rw [← Nat.div_one ((sRegToMem r).toNat), ← Nat.pow_zero 2, ← toNat_field, ← fpFrac23_eq] at hfrac
  have hcast : ((narrow (fpExp r) : Int) = 0) = (fpExp r = 0) := by simp [hzero]
  have hnormal := significand_eq (fpFrac23 r) 23 (narrow (fpExp r) - 127)
  have hunit : (2 : ℚ) ^ (-126 : Int) = 2 ^ 23 * 2 ^ (-149 : Int) := by
    rw [← zpow_natCast, ← zpow_add₀ two_ne_zero]
    norm_num
  simp only [regValue, hexp, hfrac, hcast, exactValue, show r.getLsbD 63 = fpSign r from rfl]
  generalize (if fpSign r = true then (-1 : ℚ) else 1) = sign
  split
  · rw [hunit]
    ring
  next hne =>
    rw [mul_assoc, hnormal, mul_assoc,
      show (narrow (fpExp r) : Int) - 127 - (23 : Nat) = fpExp r - 1046 by have := hbias hne; omega]

/-- An F register holds the G number of its fields. -/
theorem regValue_f {r : Word} (hvalid : Fmt.valid .f r = true) : regValue .f r = if fpExp r = 0 then 0
    else exactValue (fpSign r) (2 ^ 23 + fpFrac23 r) ((fpExp r : Int) - 1048) := by
  rw [show regValue .f r = regValue .g r from rfl, regValue_g, fpFrac_of_low_zero ((valid_f_iff r).1 hvalid).1,
    show 2 ^ 52 + fpFrac23 r * 2 ^ 29 = (2 ^ 23 + fpFrac23 r) * 2 ^ 29 by ring, exactValue_shift]
  congr 2
  ring

/-- A finite value of a valid register is what the formulas of R602 and R603 give. -/
theorem regValue_eq {fm : Fmt} {r : Word} {neg : Bool} {m : Nat} {e : Int} (hvalid : Fmt.valid fm r = true)
    (h : Fmt.value fm false r = .num neg m e) : regValue fm r = exactValue neg m e := by
  cases fm with
  | t =>
    rw [regValue_t]
    simp only [Fmt.value, fpSpecial, Bool.false_eq_true, ↓reduceIte] at h
    split_ifs at h ⊢ <;> cases h <;> rfl
  | s =>
    simp only [Fmt.value, fpSpecial, Bool.false_eq_true, ↓reduceIte] at h
    by_cases hmax : fpExp r = 0x7FF
    · rw [if_pos hmax] at h
      split_ifs at h
    · rw [if_neg hmax] at h
      rw [regValue_s hvalid hmax]
      split_ifs at h ⊢ <;> cases h <;> rfl
  | g =>
    rw [regValue_g]
    simp only [Fmt.value] at h
    split_ifs at h ⊢ <;> cases h <;> simp [exactValue_zero]
  | f =>
    rw [regValue_f hvalid]
    simp only [Fmt.value] at h
    split_ifs at h ⊢ <;> cases h <;> simp [exactValue_zero]
  | d =>
    rw [regValue_d]
    rw [value_d] at h
    split_ifs at h ⊢ <;> cases h <;> simp [exactValue_zero]

theorem Fmt.Holds.regValue_eq {fm : Fmt} {r : Word} {neg : Bool} {m : Nat} {e : Int} (h : Fmt.Holds fm r neg m e) :
    regValue fm r = exactValue neg m e := Machine.regValue_eq h.valid h.value

end Sys2Proof.Machine

/-! PROOFS. Rounding (43_float.md R604, R605, R607, R609, R610, R612). `roundNear` is the rounding of a real number to an integer;
the model's rounding of `m` units of 2^e to a multiple of 2^q is that of the quotient, so it depends on the value only. -/

namespace Sys2Proof.Machine

/-! The rounding of an integer number of units. -/

theorem roundAt_of_le (mode : RMode) (neg : Bool) (m : Nat) {e q : Int} (h : q ≤ e) :
    roundAt mode neg m e q = (m * 2 ^ (e - q).toNat, false) := if_pos h

theorem roundAt_finer (mode : RMode) (neg : Bool) (m k : Nat) (e : Int) :
    roundAt mode neg m e (e - k) = (m * 2 ^ k, false) := by
  rw [roundAt_of_le _ _ _ (by omega), show (e - (e - k)).toNat = k by omega]

theorem roundAt_coarser (mode : RMode) (neg : Bool) (m : Nat) {k : Nat} (hk : 0 < k) (e : Int) :
    roundAt mode neg m e (e + k) = (if roundsUp mode neg (m / 2 ^ k) (m % 2 ^ k) k then m / 2 ^ k + 1 else m / 2 ^ k,
      decide (m % 2 ^ k ≠ 0)) := by
  rw [roundAt, if_neg (by omega), show (e + k - e).toNat = k by omega]

theorem roundsUp_zero (mode : RMode) (neg : Bool) (q k : Nat) : roundsUp mode neg q 0 k = false := by
  cases mode <;> simp [roundsUp, (Nat.two_pow_pos k).ne]

/-! The rounding of a real number. -/

/-- Whether the magnitude `x`, of which the integer `n` is the part that is kept, is increased (R604, R612). -/
noncomputable def roundsUpReal (mode : RMode) (neg : Bool) (n : Nat) (x : ℝ) : Bool :=
  match mode with
  | .chop => false
  | .minus => neg && decide ((n : ℝ) < x)
  | .plus => !neg && decide ((n : ℝ) < x)
  | .even => decide (n + 1 / 2 < x) || (decide (x = n + 1 / 2) && decide (n % 2 = 1))
  | .away => decide (n + 1 / 2 ≤ x)

/-- A nonnegative real number rounded to an integer, and whether that is inexact. -/
noncomputable def roundNear (mode : RMode) (neg : Bool) (x : ℝ) : Nat × Bool :=
  (if roundsUpReal mode neg ⌊x⌋₊ x then ⌊x⌋₊ + 1 else ⌊x⌋₊, decide ((⌊x⌋₊ : ℝ) ≠ x))

theorem roundsUp_eq_real (mode : RMode) (neg : Bool) (n rem : Nat) {k : Nat} (hk : 0 < k) :
    roundsUp mode neg n rem k = roundsUpReal mode neg n (n + rem / 2 ^ k) := by
  have hpow : (0 : ℝ) < 2 ^ k := by positivity
  have hpos : 0 < rem ↔ (n : ℝ) < n + rem / 2 ^ k := by
    rw [lt_add_iff_pos_right, div_pos_iff_of_pos_right hpow, Nat.cast_pos]
  have hlt : 2 ^ k < 2 * rem ↔ (n : ℝ) + 1 / 2 < n + rem / 2 ^ k := by
    rw [add_lt_add_iff_left, div_lt_div_iff₀ two_pos hpow, one_mul, mul_comm (rem : ℝ)]
    exact_mod_cast Iff.rfl
  have hle : 2 ^ k ≤ 2 * rem ↔ (n : ℝ) + 1 / 2 ≤ n + rem / 2 ^ k := by
    rw [add_le_add_iff_left, div_le_div_iff₀ two_pos hpow, one_mul, mul_comm (rem : ℝ)]
    exact_mod_cast Iff.rfl
  have heq : 2 * rem = 2 ^ k ↔ (n : ℝ) + rem / 2 ^ k = n + 1 / 2 := by
    rw [add_right_inj, div_eq_div_iff hpow.ne' two_ne_zero, one_mul, mul_comm (rem : ℝ)]
    exact_mod_cast Iff.rfl
  cases mode <;> simp only [roundsUp, roundsUpReal, decide_eq_true hk, Bool.and_true, hpos, hlt, hle, heq]

/-- The model's rounding is that of the number of coarser units. -/
theorem roundAt_eq_roundNear (mode : RMode) (neg : Bool) (m : Nat) (e q : Int) :
    roundAt mode neg m e q = roundNear mode neg (m * 2 ^ (e - q)) := by
  by_cases h : q ≤ e
  · have hvalue : (m : ℝ) * 2 ^ (e - q) = ((m * 2 ^ (e - q).toNat : Nat) : ℝ) := by
      obtain ⟨j, rfl⟩ : ∃ j : Nat, e = q + j := ⟨(e - q).toNat, by omega⟩
      rw [add_sub_cancel_left, zpow_natCast, Int.toNat_natCast]
      push_cast
      rfl
    have hup (n : Nat) : roundsUpReal mode neg n n = false := by
      cases mode <;> simp [roundsUpReal]
    rw [roundAt_of_le _ _ _ h, hvalue, roundNear, Nat.floor_natCast, hup]
    simp
  · obtain ⟨k, rfl⟩ : ∃ k : Nat, q = e + k := ⟨(q - e).toNat, by omega⟩
    have hk : 0 < k := by omega
    have hvalue : (m : ℝ) * 2 ^ (e - (e + k)) = ((m / 2 ^ k : Nat) : ℝ) + ((m % 2 ^ k : Nat) : ℝ) / 2 ^ k := by
      have hdiv : (m : ℝ) = ((m / 2 ^ k : Nat) : ℝ) * 2 ^ k + ((m % 2 ^ k : Nat) : ℝ) := by
        exact_mod_cast (Nat.div_add_mod' m (2 ^ k)).symm
      rw [show e - (e + k) = -(k : Int) by ring, zpow_neg, zpow_natCast]
      field_simp
      linarith
    have hfloor : ⌊((m / 2 ^ k : Nat) : ℝ) + ((m % 2 ^ k : Nat) : ℝ) / 2 ^ k⌋₊ = m / 2 ^ k := by
      rw [Nat.floor_eq_iff (by positivity)]
      refine ⟨le_add_of_nonneg_right (by positivity), ?_⟩
      rw [add_lt_add_iff_left, div_lt_one (by positivity)]
      exact_mod_cast Nat.mod_lt m (by positivity)
    rw [roundAt_coarser _ _ _ hk, roundNear, hvalue, hfloor, roundsUp_eq_real _ _ _ _ hk]
    simp

theorem roundsUpReal_self (mode : RMode) (neg : Bool) (n : Nat) : roundsUpReal mode neg n n = false := by
  cases mode <;> simp [roundsUpReal]

theorem roundNear_natCast (mode : RMode) (neg : Bool) (n : Nat) : roundNear mode neg n = (n, false) := by
  rw [roundNear, Nat.floor_natCast, roundsUpReal_self]
  simp

/-- The rounding of a number between two integers lies between them. -/
theorem roundNear_mem (mode : RMode) (neg : Bool) {x : ℝ} {lo hi : Nat} (hlo : (lo : ℝ) ≤ x) (hhi : x ≤ hi) :
    lo ≤ (roundNear mode neg x).1 ∧ (roundNear mode neg x).1 ≤ hi := by
  obtain heq | hlt := hhi.eq_or_lt
  · rw [heq, roundNear_natCast]
    exact ⟨by exact_mod_cast heq ▸ hlo, le_rfl⟩
  · have hle : lo ≤ ⌊x⌋₊ := Nat.le_floor hlo
    have hfloor : ⌊x⌋₊ < hi := (Nat.floor_lt ((Nat.cast_nonneg lo).trans hlo)).2 hlt
    rw [roundNear]
    split_ifs <;> omega

/-! A number has the precision of the format when it is rounded with an unbounded exponent (R605). -/

/-- The magnitude of a nonzero number. -/
theorem magnitude {m : Nat} (hm : m ≠ 0) (e : Int) :
    (2 : ℝ) ^ (e + Nat.log2 m) ≤ m * 2 ^ e ∧ (m : ℝ) * 2 ^ e < 2 ^ (e + Nat.log2 m + 1) := by
  have hpos : (0 : ℝ) < 2 ^ e := by positivity
  have hle : ((2 : ℝ) ^ Nat.log2 m) ≤ m := by exact_mod_cast Nat.log2_self_le hm
  have hlt : (m : ℝ) < 2 ^ (Nat.log2 m + 1) := by exact_mod_cast Nat.lt_log2_self
  rw [add_assoc, zpow_add₀ two_ne_zero, zpow_add₀ two_ne_zero, zpow_natCast, mul_comm, mul_comm (2 ^ e : ℝ)]
  exact ⟨mul_le_mul_of_nonneg_right hle hpos.le, by exact_mod_cast mul_lt_mul_of_pos_right hlt hpos⟩

theorem prec_pos (fm : Fmt) : 1 < Fmt.prec fm := by cases fm <;> decide

/-- The unit of the format's precision at a magnitude. -/
def Fmt.ulp (fm : Fmt) (m : Nat) (e : Int) : Int := e + Nat.log2 m + 1 - Fmt.prec fm

theorem roundAt_ulp_mem (fm : Fmt) (mode : RMode) (neg : Bool) {m : Nat} (hm : m ≠ 0) (e : Int) :
    2 ^ (Fmt.prec fm - 1) ≤ (roundAt mode neg m e (Fmt.ulp fm m e)).1
      ∧ (roundAt mode neg m e (Fmt.ulp fm m e)).1 ≤ 2 ^ Fmt.prec fm := by
  have hprec := prec_pos fm
  obtain ⟨hle, hlt⟩ := magnitude hm (e - Fmt.ulp fm m e)
  rw [show e - Fmt.ulp fm m e + Nat.log2 m = (Fmt.prec fm - 1 : Nat) by unfold Fmt.ulp; omega, zpow_natCast] at hle
  rw [show e - Fmt.ulp fm m e + Nat.log2 m + 1 = (Fmt.prec fm : Nat) by unfold Fmt.ulp; omega, zpow_natCast] at hlt
  rw [roundAt_eq_roundNear]
  exact roundNear_mem mode neg (by exact_mod_cast hle) (by exact_mod_cast hlt.le)

/-- A significand of full precision with its exponent. -/
def Fmt.Full (fm : Fmt) (n : Nat) : Prop := 2 ^ (Fmt.prec fm - 1) ≤ n ∧ n < 2 ^ Fmt.prec fm

/-- The rounding with an unbounded exponent: a significand of full precision, whose value is that of the rounding to the
precision of the magnitude. -/
theorem roundFree_spec (fm : Fmt) (mode : RMode) (neg : Bool) {m : Nat} (hm : m ≠ 0) (e : Int) :
    ∃ n q, Fmt.roundFree fm mode neg m e = (n, q, (roundAt mode neg m e (Fmt.ulp fm m e)).2) ∧ Fmt.Full fm n
      ∧ (n : ℚ) * 2 ^ q = ((roundAt mode neg m e (Fmt.ulp fm m e)).1 : ℚ) * 2 ^ Fmt.ulp fm m e
      ∧ e + Nat.log2 m ≤ q + Fmt.prec fm - 1 := by
  have hprec := prec_pos fm
  obtain ⟨hle, hle'⟩ := roundAt_ulp_mem fm mode neg hm e
  rw [Fmt.roundFree, show e + (Nat.log2 m + 1 : Nat) - Fmt.prec fm = Fmt.ulp fm m e by unfold Fmt.ulp; omega]
  dsimp only
  split
  next hcarry =>
    refine ⟨_, _, rfl, ⟨le_rfl, Nat.pow_lt_pow_right (by decide) (by omega)⟩, ?_, by unfold Fmt.ulp; omega⟩
    rw [hcarry, zpow_add₀ two_ne_zero]
    have hpow : (2 : ℚ) ^ Fmt.prec fm = 2 ^ (Fmt.prec fm - 1) * 2 := by rw [← pow_succ, Nat.sub_add_cancel hprec.le]
    push_cast
    rw [hpow]
    ring
  next hfits =>
    exact ⟨_, _, rfl, ⟨hle, lt_of_le_of_ne hle' hfits⟩, rfl, by unfold Fmt.ulp; omega⟩

/-- The exponent of a significand of full precision, by the powers of two around its value. -/
theorem Fmt.Full.bounds {fm : Fmt} {n : Nat} (h : Fmt.Full fm n) (q : Int) :
    (2 : ℚ) ^ (q + Fmt.prec fm - 1) ≤ n * 2 ^ q ∧ (n : ℚ) * 2 ^ q < 2 ^ (q + Fmt.prec fm) := by
  have hprec := prec_pos fm
  obtain ⟨hle, hlt⟩ := h
  have hpos : (0 : ℚ) < 2 ^ q := by positivity
  rw [show q + Fmt.prec fm - 1 = (Fmt.prec fm - 1 : Nat) + q by omega, add_comm q, zpow_add₀ two_ne_zero,
    zpow_add₀ two_ne_zero, zpow_natCast, zpow_natCast]
  exact ⟨mul_le_mul_of_nonneg_right (by exact_mod_cast hle) hpos.le, mul_lt_mul_of_pos_right (by exact_mod_cast hlt) hpos⟩

/-- A significand of full precision is at or above a power of two exactly if its exponent is. -/
theorem Fmt.Full.le_iff {fm : Fmt} {n : Nat} (h : Fmt.Full fm n) (q E : Int) :
    (2 : ℚ) ^ E ≤ n * 2 ^ q ↔ E ≤ q + Fmt.prec fm - 1 := by
  obtain ⟨hle, hlt⟩ := h.bounds q
  constructor
  · intro hE
    have := (zpow_lt_zpow_iff_right₀ (one_lt_two : (1 : ℚ) < 2)).1 (hE.trans_lt hlt)
    omega
  · exact fun hE => (zpow_le_zpow_right₀ one_le_two hE).trans hle

end Sys2Proof.Machine

/-! PROOFS. Rounding to a format (43_float.md R604, R605, R607, R609, R610; log 13 to 15): the three results of a nonzero value, by
the significand and exponent that its rounding with an unbounded exponent has. -/

namespace Sys2Proof.Machine

section Round

variable {fm : Fmt} {k : FpCtl} {neg : Bool} {m n : Nat} {e q : Int} {inexact : Bool}

theorem round_zero (fm : Fmt) (k : FpCtl) (neg : Bool) (e : Int) :
    Fmt.round fm k neg 0 e = .exact (if Fmt.vax fm then 0 else fpZero neg) := if_pos rfl

theorem round_of_overflow (hm : m ≠ 0) (hfree : Fmt.roundFree fm k.mode neg m e = (n, q, inexact))
    (htop : Fmt.eMax fm < q + Fmt.prec fm - 1) : Fmt.round fm k neg m e
      = if Fmt.vax fm then ⟨k.free.vaxUnstated, Conds.ovf, Conds.ovf⟩
        else .raising (Fmt.overflow fm k.mode neg) (Conds.ovf ||| Conds.ine) := by
  rw [Fmt.round, if_neg hm, Fmt.roundVax, Fmt.roundIeee, hfree]
  dsimp only
  rw [if_pos htop, if_pos htop]

theorem round_of_normal (hm : m ≠ 0) (hfree : Fmt.roundFree fm k.mode neg m e = (n, q, inexact))
    (hmax : q + Fmt.prec fm - 1 ≤ Fmt.eMax fm) (hmin : Fmt.eMin fm ≤ q + Fmt.prec fm - 1) : Fmt.round fm k neg m e
      = .raising (Fmt.packNormal fm neg n q) (Conds.when (inexact && !Fmt.vax fm) Conds.ine) := by
  rw [Fmt.round, if_neg hm, Fmt.roundVax, Fmt.roundIeee, hfree]
  dsimp only
  rw [if_neg hmax.not_gt, if_neg hmax.not_gt, if_neg hmin.not_gt, if_neg hmin.not_gt]
  cases Fmt.vax fm <;> cases inexact <;> rfl

theorem round_of_underflow (hm : m ≠ 0) (hfree : Fmt.roundFree fm k.mode neg m e = (n, q, inexact))
    (hmax : q + Fmt.prec fm - 1 ≤ Fmt.eMax fm) (hmin : q + Fmt.prec fm - 1 < Fmt.eMin fm) : Fmt.round fm k neg m e
      = if Fmt.vax fm then .raising 0 Conds.unf
        else if k.tinyToZero then .raising (fpZero neg) (Conds.unf ||| Conds.ine)
        else .raising (Fmt.packTiny fm neg (roundAt k.mode neg m e (Fmt.eMin fm - Fmt.prec fm + 1)).1)
          (Conds.when (roundAt k.mode neg m e (Fmt.eMin fm - Fmt.prec fm + 1)).2 (Conds.unf ||| Conds.ine)) := by
  rw [Fmt.round, if_neg hm, Fmt.roundVax, Fmt.roundIeee, hfree]
  dsimp only
  rw [if_neg hmax.not_gt, if_neg hmax.not_gt, if_pos hmin, if_pos hmin]

theorem eMin_le_eMax (fm : Fmt) : Fmt.eMin fm ≤ Fmt.eMax fm := by cases fm <;> decide

/-- A value below the least normal number is at most that many least denormals. -/
theorem roundAt_unit_le (fm : Fmt) (mode : RMode) (neg : Bool) (hm : m ≠ 0) (h : e + Nat.log2 m < Fmt.eMin fm) :
    (roundAt mode neg m e (Fmt.eMin fm - Fmt.prec fm + 1)).1 ≤ 2 ^ (Fmt.prec fm - 1) := by
  have hprec := prec_pos fm
  obtain ⟨-, hlt⟩ := magnitude hm (e - (Fmt.eMin fm - Fmt.prec fm + 1))
  rw [roundAt_eq_roundNear]
  refine (roundNear_mem mode neg (lo := 0) (by simp; positivity) (hlt.le.trans ?_)).2
  rw [Nat.cast_pow, Nat.cast_ofNat, ← zpow_natCast]
  exact zpow_le_zpow_right₀ one_le_two (by omega)

/-- Whether an overflow of an IEEE format delivers the infinity (R607), and not the largest value. -/
def RMode.toInfinity (mode : RMode) (neg : Bool) : Bool :=
  mode == .even || mode == .away || (mode == .minus && neg) || (mode == .plus && !neg)

theorem overflow_eq (h : Fmt.vax fm = false) (mode : RMode) (neg : Bool) : Fmt.overflow fm mode neg
    = (if neg then 0x8000000000000000 else 0) ||| (if RMode.toInfinity mode neg then 0x7FF0000000000000
      else if fm = .s then 0x47EFFFFFE0000000 else 0x7FEFFFFFFFFFFFFF : Word) := by
  cases fm with
  | s | t => cases mode <;> cases neg <;> decide
  | f | g | d => cases h

theorem fpZero_eq (neg : Bool) : fpZero neg = if neg then 0x8000000000000000 else 0 := by cases neg <;> decide

/-- The zero of a format: with the sign in S and T, true zero in the VAX formats. -/
theorem zero_eq (fm : Fmt) (neg : Bool) : (if Fmt.vax fm then 0 else fpZero neg)
    = if neg && !Fmt.vax fm then 0x8000000000000000 else 0 := by
  rw [fpZero_eq]
  cases Fmt.vax fm <;> cases neg <;> rfl

end Round

/-- The value of a magnitude with its sign. -/
theorem exactValue_eq (neg : Bool) (m : Nat) (e : Int) :
    exactValue neg m e = if neg then -((m : ℚ) * 2 ^ e) else (m : ℚ) * 2 ^ e := by
  cases neg <;> simp [exactValue]

/-- A register that holds a value, as `RoundingModes` says it. -/
def Fmt.holdsValue (fm : Fmt) (r : Word) (neg : Bool) (v : ℚ) : Prop :=
  Fmt.valid fm r = true ∧ regValue fm r = v ∧ r.getLsbD 63 = neg ∧ (Fmt.vax fm = false → r.extractLsb' 52 11 ≠ 0x7FF)

theorem Fmt.Holds.holdsValue {fm : Fmt} {r : Word} {neg : Bool} {m : Nat} {e : Int} (h : Fmt.Holds fm r neg m e) :
    Fmt.holdsValue fm r neg (exactValue neg m e) :=
  ⟨h.valid, h.regValue_eq, h.sign, fun hvax hexp => h.finite hvax (by rw [fpExp, hexp]; rfl)⟩

/-- ROUNDING TO A FORMAT of a nonzero value: `n0` and `x` are its rounding to the format's precision with an unbounded exponent. -/
theorem round_spec (fm : Fmt) (k : FpCtl) (neg : Bool) {m : Nat} (hm : m ≠ 0) (e : Int) {n0 : Nat × Bool} {x : ℚ}
    (hn0 : n0 = roundAt k.mode neg m e (Fmt.ulp fm m e)) (hx : x = (n0.1 : ℚ) * 2 ^ Fmt.ulp fm m e) :
    ((2 : ℚ) ^ (Fmt.eMax fm + 1) ≤ x →
      (Fmt.vax fm = true → Fmt.round fm k neg m e = ⟨k.free.vaxUnstated, 4, 4⟩)
      ∧ (Fmt.vax fm = false → Fmt.round fm k neg m e = ⟨(if neg then 0x8000000000000000 else 0)
          ||| (if RMode.toInfinity k.mode neg then 0x7FF0000000000000
            else if fm = .s then 0x47EFFFFFE0000000 else 0x7FEFFFFFFFFFFFFF), 0x14, 0⟩))
    ∧ ((2 : ℚ) ^ Fmt.eMin fm ≤ x → x < (2 : ℚ) ^ (Fmt.eMax fm + 1) →
      Fmt.holdsValue fm (Fmt.round fm k neg m e).bits neg (if neg then -x else x)
      ∧ (Fmt.round fm k neg m e).conds = (if n0.2 && !Fmt.vax fm then 0x10 else 0) ∧ (Fmt.round fm k neg m e).always = 0)
    ∧ (x < (2 : ℚ) ^ Fmt.eMin fm →
      (Fmt.vax fm = true → Fmt.round fm k neg m e = ⟨0, 8, 0⟩)
      ∧ (Fmt.vax fm = false → k.tinyToZero = true → Fmt.round fm k neg m e
        = ⟨if neg && !Fmt.vax fm then 0x8000000000000000 else 0, 0x18, 0⟩)
      ∧ (Fmt.vax fm = false → k.tinyToZero = false →
        let d := roundAt k.mode neg m e (Fmt.eMin fm - Fmt.prec fm + 1)
        Fmt.holdsValue fm (Fmt.round fm k neg m e).bits neg (exactValue neg d.1 (Fmt.eMin fm - Fmt.prec fm + 1))
        ∧ (Fmt.round fm k neg m e).conds = (if d.2 then 0x18 else 0) ∧ (Fmt.round fm k neg m e).always = 0)) := by
  obtain ⟨n, q, hfree, hfull, hvalue, hle⟩ := roundFree_spec fm k.mode neg hm e
  rw [← hn0] at hfree
  rw [← hn0, ← hx] at hvalue
  have hrange := eMin_le_eMax fm
  rw [← not_le, ← not_le, ← hvalue, hfull.le_iff, hfull.le_iff, not_le, not_le]
  refine ⟨fun htop => ⟨fun hvax => ?_, fun hvax => ?_⟩, fun hmin hmax => ?_,
    fun hmin => ⟨fun hvax => ?_, fun hvax hz => ?_, fun hvax hz => ?_⟩⟩
  · rw [round_of_overflow hm hfree (by omega), if_pos hvax]
    rfl
  · rw [round_of_overflow hm hfree (by omega), if_neg (by simp [hvax]), overflow_eq hvax]
    rfl
  · rw [round_of_normal hm hfree (by omega) hmin]
    refine ⟨?_, rfl, rfl⟩
    rw [← exactValue_eq]
    exact (holds_packNormal ⟨hfull.1, hfull.2, hmin, by omega⟩ neg).holdsValue
  · rw [round_of_underflow hm hfree (by omega) hmin, if_pos hvax]
    rfl
  · rw [round_of_underflow hm hfree (by omega) hmin, ← zero_eq, hvax, if_neg Bool.false_ne_true,
      if_neg Bool.false_ne_true, if_pos hz]
    rfl
  · rw [round_of_underflow hm hfree (by omega) hmin, if_neg (by simp [hvax]), if_neg (by simp [hz])]
    exact ⟨(holds_packTiny ⟨hvax, roundAt_unit_le fm k.mode neg hm (by omega)⟩ neg).holdsValue, rfl, rfl⟩

/-- The five roundings of `m` units to `2 ^ k` times coarser ones (R604, R612). -/
theorem roundAt_coarser_modes (neg : Bool) (m : Nat) {k : Nat} (hk : 0 < k) (e : Int) :
    let lower := m / 2 ^ k
    let r (mode : RMode) : Nat := (roundAt mode neg m e (e + k)).1
    (m % 2 ^ k = 0 → ∀ mode, r mode = lower)
      ∧ r .chop = lower
      ∧ (m % 2 ^ k ≠ 0 → r .minus = (if neg then lower + 1 else lower) ∧ r .plus = (if neg then lower else lower + 1))
      ∧ r .even = (if 2 ^ k < 2 * (m % 2 ^ k) ∨ 2 * (m % 2 ^ k) = 2 ^ k ∧ lower % 2 = 1 then lower + 1 else lower)
      ∧ r .away = (if 2 ^ k ≤ 2 * (m % 2 ^ k) then lower + 1 else lower) := by
  simp only [roundAt_coarser _ _ _ hk]
  refine ⟨fun hrem mode => ?_, rfl, fun hrem => ?_, ?_, ?_⟩
  · rw [hrem, roundsUp_zero, if_neg Bool.false_ne_true]
  · have hpos : 0 < m % 2 ^ k := Nat.pos_of_ne_zero hrem
    cases neg <;> simp [roundsUp, hpos]
  · simp [roundsUp, hk]
  · simp [roundsUp, hk]

/-- Settles O45: the coarser roundings by the rounding up of each mode, the values of registers by their fields, the rounding to a
format by `round_spec`. -/
theorem roundingModes : Obligations.RoundingModes := by
  refine ⟨fun neg m k e hk => ?_, fun mode neg m k e => roundAt_finer mode neg m k e,
    fun fm r neg m e hvalid hvalue => ⟨regValue_eq hvalid hvalue, (reads_of_value hvalid hvalue).2⟩, fun fm k neg m e => ⟨?_, ?_⟩⟩
  · obtain ⟨hexact, hchop, hdirected, heven, haway⟩ := roundAt_coarser_modes neg m hk e
    refine ⟨fun mode => ?_, fun hrem mode => ?_, hchop, hdirected, fun hlow => ?_, fun hhigh => ?_, fun htie => ?_⟩
    · rw [roundAt_coarser _ _ _ hk, decide_eq_true_eq]
    · rw [hexact hrem, Nat.div_mul_cancel (Nat.dvd_of_mod_eq_zero hrem)]
    · rw [heven, haway, if_neg (by omega), if_neg (by omega)]
      exact ⟨rfl, rfl⟩
    · rw [heven, haway, if_pos (.inl hhigh), if_pos hhigh.le]
      exact ⟨rfl, rfl⟩
    · rw [heven, haway, if_pos htie.ge]
      refine ⟨rfl, ?_⟩
      split_ifs <;> omega
  · rintro rfl
    rw [round_zero, zero_eq]
    cases fm <;> rfl
  · intro hm
    have h := round_spec fm k neg hm e rfl rfl
    cases fm <;> exact h

/-- A number that has no more bits than the format is rounded to itself, with an unbounded exponent. -/
theorem roundFree_of_short (fm : Fmt) (mode : RMode) (neg : Bool) {m j : Nat} (e : Int)
    (hj : Nat.log2 m + 1 + j = Fmt.prec fm) : Fmt.roundFree fm mode neg m e = (m * 2 ^ j, e - j, false) := by
  have hlt : m * 2 ^ j < 2 ^ Fmt.prec fm := by
    rw [← hj, pow_add]
    exact Nat.mul_lt_mul_of_pos_right Nat.lt_log2_self (by positivity)
  rw [Fmt.roundFree, show e + (Nat.log2 m + 1 : Nat) - Fmt.prec fm = e - j by omega, roundAt_finer]
  exact if_neg hlt.ne

/-- Settles O46: a normal number is rounded to itself and packed as it was read; so is a denormal, to units of the least one. -/
theorem valuesRoundToThemselves : Obligations.ValuesRoundToThemselves := by
  intro fm k r neg m e hvalid hz hvalue hm
  have hprec := prec_pos fm
  obtain ⟨hreads, hsign⟩ := reads_of_value hvalid hvalue
  rw [hsign hm]
  cases hreads with
  | normal h hpack =>
    have hlog : Nat.log2 m = Fmt.prec fm - 1 := (Nat.log2_eq_iff hm).2 ⟨h.le, by rw [Nat.sub_add_cancel hprec.le]; exact h.lt⟩
    have hfree := roundFree_of_short fm k.mode (fpSign r) (m := m) (j := 0) e (by omega)
    rw [pow_zero, mul_one, Nat.cast_zero, sub_zero] at hfree
    rw [round_of_normal hm hfree h.max h.min, hpack]
    rfl
  | tiny h hlt hunit hpack =>
    have hlog : Nat.log2 m < Fmt.prec fm - 1 := (Nat.log2_lt hm).2 hlt
    have hrange := eMin_le_eMax fm
    have hfree := roundFree_of_short fm k.mode (fpSign r) (m := m) (j := Fmt.prec fm - 1 - Nat.log2 m) e (by omega)
    rw [round_of_underflow hm hfree (by omega) (by omega), h.ieee, hz, ← hunit, roundAt_of_le _ _ _ le_rfl, sub_self,
      Int.toNat_zero, pow_zero, mul_one, hpack]
    rfl
  | vaxZero _ hzero => exact absurd hzero hm

end Sys2Proof.Machine

/-! PROOFS. The rounding of an exact result that may be irrational or have no end (43_float.md R604): it is that of any number with a
sticky low bit, and depends on nothing but the exact result. -/

namespace Sys2Proof.Machine

/-! What a rounding depends on. -/

/-- The rounding to a format depends on the magnitude and on the roundings to units that are not finer than the precision. -/
theorem round_congr {fm : Fmt} {k : FpCtl} {neg : Bool} {m m' : Nat} {e e' : Int} (hm : m ≠ 0) (hm' : m' ≠ 0)
    (hlog : e + Nat.log2 m = e' + Nat.log2 m')
    (h : ∀ q, Fmt.ulp fm m e ≤ q → roundAt k.mode neg m e q = roundAt k.mode neg m' e' q) :
    Fmt.round fm k neg m e = Fmt.round fm k neg m' e' := by
  have hulp : Fmt.ulp fm m e = Fmt.ulp fm m' e' := by unfold Fmt.ulp; omega
  obtain ⟨n, q, hfree, -, -, hle⟩ := roundFree_spec fm k.mode neg hm e
  have hfree' : Fmt.roundFree fm k.mode neg m' e' = (n, q, (roundAt k.mode neg m e (Fmt.ulp fm m e)).2) := by
    rw [← hfree, Fmt.roundFree, Fmt.roundFree, show e + (Nat.log2 m + 1 : Nat) - Fmt.prec fm = Fmt.ulp fm m e by
      unfold Fmt.ulp; omega, show e' + (Nat.log2 m' + 1 : Nat) - Fmt.prec fm = Fmt.ulp fm m e by
      rw [hulp]; unfold Fmt.ulp; omega, h _ le_rfl]
  by_cases hmax : Fmt.eMax fm < q + Fmt.prec fm - 1
  · rw [round_of_overflow hm hfree hmax, round_of_overflow hm' hfree' hmax]
  · by_cases hmin : Fmt.eMin fm ≤ q + Fmt.prec fm - 1
    · rw [round_of_normal hm hfree (by omega) hmin, round_of_normal hm' hfree' (by omega) hmin]
    · rw [round_of_underflow hm hfree (by omega) (by omega), round_of_underflow hm' hfree' (by omega) (by omega),
        h _ (by unfold Fmt.ulp; omega)]

/-- The rounding of a real number depends on its integer part and on its place among that integer, the middle and the next. -/
theorem roundNear_congr {x y : ℝ} (hfloor : ⌊x⌋₊ = ⌊y⌋₊) (hexact : (⌊y⌋₊ : ℝ) < x ↔ (⌊y⌋₊ : ℝ) < y)
    (hne : (⌊y⌋₊ : ℝ) = x ↔ (⌊y⌋₊ : ℝ) = y) (hmiddle : (⌊y⌋₊ : ℝ) + 1 / 2 < x ↔ (⌊y⌋₊ : ℝ) + 1 / 2 < y)
    (htie : x = ⌊y⌋₊ + 1 / 2 ↔ y = ⌊y⌋₊ + 1 / 2) (mode : RMode) (neg : Bool) : roundNear mode neg x = roundNear mode neg y := by
  have hle : (⌊y⌋₊ : ℝ) + 1 / 2 ≤ x ↔ (⌊y⌋₊ : ℝ) + 1 / 2 ≤ y := by
    rw [le_iff_lt_or_eq, le_iff_lt_or_eq, eq_comm, htie, hmiddle, eq_comm (a := y)]
  have hup : roundsUpReal mode neg ⌊y⌋₊ x = roundsUpReal mode neg ⌊y⌋₊ y := by
    cases mode <;> simp only [roundsUpReal, hexact, hmiddle, htie, hle]
  rw [roundNear, roundNear, hfloor, hup]
  simp only [ne_eq, hne]

/-! What lies strictly between two neighbouring multiples of a unit. -/

/-- `v` lies strictly between `n` and `n + 1` units of 2^c. -/
def Between (n : Nat) (c : Int) (v : ℝ) : Prop := n * 2 ^ c < v ∧ v < (n + 1) * 2 ^ c

theorem between_unit_iff {n : Nat} {c : Int} {v : ℝ} : Between n c v ↔ (n : ℝ) < v * 2 ^ (-c) ∧ v * 2 ^ (-c) < n + 1 := by
  have hpos : (0 : ℝ) < 2 ^ c := by positivity
  rw [Between, zpow_neg, ← div_eq_mul_inv, lt_div_iff₀ hpos, div_lt_iff₀ hpos]

/-- Integers do not tell two numbers of the interval from each other. -/
theorem lt_iff_of_between {n : Nat} {x : ℝ} (hlo : (n : ℝ) < x) (hhi : x < n + 1) (t : Nat) :
    ((t : ℝ) < x ↔ t ≤ n) ∧ x ≠ t := by
  have hlt : (t : ℝ) < n + 1 ↔ t ≤ n := by rw [← Nat.lt_succ_iff]; exact_mod_cast Iff.rfl
  refine ⟨⟨fun h => hlt.1 (h.trans hhi), fun h => lt_of_le_of_lt (by exact_mod_cast h) hlo⟩, ?_⟩
  rintro rfl
  have h1 : n < t := by exact_mod_cast hlo
  have h2 : t < n + 1 := by exact_mod_cast hhi
  omega

/-- Two numbers of the interval round alike to a coarser unit. -/
theorem roundNear_of_between {n u : Nat} {x y : ℝ} (hu : 0 < u) (hx : (n : ℝ) < x ∧ x < n + 1) (hy : (n : ℝ) < y ∧ y < n + 1)
    (mode : RMode) (neg : Bool) : roundNear mode neg (x / 2 ^ u) = roundNear mode neg (y / 2 ^ u) := by
  have hpow : (0 : ℝ) < 2 ^ u := by positivity
  have hfloor {z : ℝ} (hz : (n : ℝ) < z ∧ z < n + 1) : ⌊z / 2 ^ u⌋₊ = n / 2 ^ u := by
    have hcast : ((2 : ℝ) ^ u) = ((2 ^ u : Nat) : ℝ) := by push_cast; rfl
    have hn : ⌊z⌋₊ = n := (Nat.floor_eq_iff ((Nat.cast_nonneg n).trans hz.1.le)).2 ⟨hz.1.le, hz.2⟩
    rw [hcast, Nat.floor_div_natCast, hn]
  have hplace {z : ℝ} (hz : (n : ℝ) < z ∧ z < n + 1) {t : ℝ} {T : Nat} (hT : t * 2 ^ u = T) :
      (t < z / 2 ^ u ↔ T ≤ n) ∧ z / 2 ^ u ≠ t := by
    obtain ⟨hlt, hne⟩ := lt_iff_of_between hz.1 hz.2 T
    rw [lt_div_iff₀ hpow, hT, ne_eq, div_eq_iff hpow.ne', hT]
    exact ⟨hlt, hne⟩
  have hlower : ((n / 2 ^ u : Nat) : ℝ) * 2 ^ u = (n / 2 ^ u * 2 ^ u : Nat) := by push_cast; rfl
  have hmiddle : (((n / 2 ^ u : Nat) : ℝ) + 1 / 2) * 2 ^ u = (n / 2 ^ u * 2 ^ u + 2 ^ (u - 1) : Nat) := by
    obtain ⟨i, rfl⟩ : ∃ i, u = i + 1 := ⟨u - 1, by omega⟩
    rw [Nat.add_sub_cancel, pow_succ]
    push_cast
    ring
  refine roundNear_congr ((hfloor hx).trans (hfloor hy).symm) ?_ ?_ ?_ ?_ mode neg <;> rw [hfloor hy]
  · rw [(hplace hx hlower).1, (hplace hy hlower).1]
  · exact iff_of_false (hplace hx hlower).2.symm (hplace hy hlower).2.symm
  · rw [(hplace hx hmiddle).1, (hplace hy hmiddle).1]
  · exact iff_of_false (hplace hx hmiddle).2 (hplace hy hmiddle).2

/-- The magnitude of the numbers of the interval. -/
theorem magnitude_of_between {n : Nat} (hn : n ≠ 0) {c : Int} {v : ℝ} (h : Between n c v) :
    (2 : ℝ) ^ (c + Nat.log2 n) ≤ v ∧ v < 2 ^ (c + Nat.log2 n + 1) := by
  have hpos : (0 : ℝ) < 2 ^ c := by positivity
  have hle : ((2 : ℝ) ^ Nat.log2 n) ≤ n := by exact_mod_cast Nat.log2_self_le hn
  have hlt : (n : ℝ) + 1 ≤ 2 ^ (Nat.log2 n + 1) := by exact_mod_cast Nat.lt_log2_self
  rw [add_assoc, zpow_add₀ two_ne_zero, zpow_add₀ two_ne_zero, zpow_natCast, mul_comm, mul_comm (2 ^ c : ℝ)]
  exact ⟨(mul_le_mul_of_nonneg_right hle hpos.le).trans h.1.le,
    h.2.trans_le (by exact_mod_cast mul_le_mul_of_nonneg_right hlt hpos.le)⟩

/-- The exponent of a magnitude is unique. -/
theorem magnitude_unique {a b : Int} {v : ℝ} (ha : (2 : ℝ) ^ a ≤ v ∧ v < 2 ^ (a + 1)) (hb : (2 : ℝ) ^ b ≤ v ∧ v < 2 ^ (b + 1)) :
    a = b := by
  have hab := (zpow_lt_zpow_iff_right₀ (one_lt_two : (1 : ℝ) < 2)).1 (ha.1.trans_lt hb.2)
  have hba := (zpow_lt_zpow_iff_right₀ (one_lt_two : (1 : ℝ) < 2)).1 (hb.1.trans_lt ha.2)
  omega

/-! Numbers that stand for an exact result. -/

/-- `m` units of 2^e stand for the exact result `v`: they are it, or both lie strictly between two neighbouring multiples of a unit
of which they have more than the format has bits. -/
def Fmt.StandsFor (fm : Fmt) (v : ℝ) (m : Nat) (e : Int) : Prop :=
  m * 2 ^ e = v ∨ ∃ n c, 2 ^ Fmt.prec fm ≤ n ∧ Between n c v ∧ Between n c (m * 2 ^ e)

namespace Fmt.StandsFor

variable {fm : Fmt} {v : ℝ} {m : Nat} {e : Int}

theorem ne_zero (h : Fmt.StandsFor fm v m e) (hv : 0 < v) : m ≠ 0 := by
  rintro rfl
  obtain heq | ⟨n, c, -, -, hlt, -⟩ := h
  · simp at heq
    exact hv.ne heq
  · have hnonneg : (0 : ℝ) ≤ n * 2 ^ c := by positivity
    simp at hlt
    exact absurd hlt hnonneg.not_gt

theorem magnitude (h : Fmt.StandsFor fm v m e) (hv : 0 < v) :
    (2 : ℝ) ^ (e + Nat.log2 m) ≤ v ∧ v < 2 ^ (e + Nat.log2 m + 1) := by
  have hm := Machine.magnitude (h.ne_zero hv) e
  obtain rfl | ⟨n, c, hn, hbv, hbm⟩ := h
  · exact hm
  · have hn0 : n ≠ 0 := (lt_of_lt_of_le (by positivity) hn).ne'
    rw [magnitude_unique hm (magnitude_of_between hn0 hbm)]
    exact magnitude_of_between hn0 hbv

/-- What stands for a result rounds as the result does, to each unit that is not finer than the precision. -/
theorem roundAt_eq (h : Fmt.StandsFor fm v m e) (hv : 0 < v) (mode : RMode) (neg : Bool) {q : Int} (hq : Fmt.ulp fm m e ≤ q) :
    roundAt mode neg m e q = roundNear mode neg (v * 2 ^ (-q)) := by
  have hm := Machine.magnitude (h.ne_zero hv) e
  rw [roundAt_eq_roundNear, sub_eq_add_neg, zpow_add₀ two_ne_zero, ← mul_assoc]
  obtain rfl | ⟨n, c, hn, hbv, hbm⟩ := h
  · rfl
  · have hn0 : n ≠ 0 := (lt_of_lt_of_le (by positivity) hn).ne'
    have hlog := magnitude_unique hm (magnitude_of_between hn0 hbm)
    have hbits : Fmt.prec fm ≤ Nat.log2 n := (Nat.le_log2 hn0).2 hn
    obtain ⟨u, rfl⟩ : ∃ u : Nat, q = c + u := ⟨(q - c).toNat, by unfold Fmt.ulp at hq; omega⟩
    have hunits (x : ℝ) : x * 2 ^ (-(c + u : Int)) = x * 2 ^ (-c) / 2 ^ u := by
      rw [neg_add, zpow_add₀ two_ne_zero, zpow_neg _ (u : Int), zpow_natCast, ← mul_assoc, div_eq_mul_inv]
    rw [hunits, hunits]
    exact roundNear_of_between (by unfold Fmt.ulp at hq; omega) (between_unit_iff.1 hbm) (between_unit_iff.1 hbv) mode neg

/-- All that stands for a result rounds alike. -/
theorem round_eq (h : Fmt.StandsFor fm v m e) (hv : 0 < v) {m' : Nat} {e' : Int} (h' : Fmt.StandsFor fm v m' e') (k : FpCtl)
    (neg : Bool) : Fmt.round fm k neg m e = Fmt.round fm k neg m' e' := by
  have hlog := magnitude_unique (h.magnitude hv) (h'.magnitude hv)
  refine round_congr (h.ne_zero hv) (h'.ne_zero hv) hlog fun q hq => ?_
  rw [h.roundAt_eq hv k.mode neg hq, h'.roundAt_eq hv k.mode neg (by unfold Fmt.ulp at hq ⊢; omega)]

theorem exact (fm : Fmt) (m : Nat) (e : Int) : Fmt.StandsFor fm (m * 2 ^ e) m e := .inl rfl

/-- Half units with a sticky low bit: `n` units are the result, or the result lies above. -/
theorem sticky {n : Nat} {c : Int} (hn : 2 ^ Fmt.prec fm ≤ n) (hlo : n * 2 ^ c ≤ v) (hhi : v < (n + 1) * 2 ^ c) {p : Prop}
    [Decidable p] (hp : p ↔ n * 2 ^ c = v) : Fmt.StandsFor fm v (2 * n + if p then 0 else 1) (c - 1) := by
  have hpos : (0 : ℝ) < 2 ^ c := by positivity
  have hhalf : (2 : ℝ) ^ (c - 1) = 2 ^ c / 2 := by rw [zpow_sub₀ two_ne_zero, zpow_one]
  split_ifs with h
  · rw [← hp.1 h]
    left
    rw [hhalf]
    push_cast
    ring
  · refine .inr ⟨n, c, hn, ⟨lt_of_le_of_ne hlo fun heq => h (hp.2 heq), hhi⟩, ?_⟩
    have hmid : ((2 * n + 1 : Nat) : ℝ) * 2 ^ (c - 1) = (n + 1 / 2) * 2 ^ c := by
      rw [hhalf]
      push_cast
      ring
    rw [hmid]
    exact ⟨mul_lt_mul_of_pos_right (by linarith) hpos, mul_lt_mul_of_pos_right (by linarith) hpos⟩

end Fmt.StandsFor

/-- A finer unit: the same rounding. -/
theorem round_finer (fm : Fmt) (k : FpCtl) (neg : Bool) (m j : Nat) (e : Int) :
    Fmt.round fm k neg (m * 2 ^ j) (e - j) = Fmt.round fm k neg m e := by
  obtain rfl | hm := Nat.eq_zero_or_pos m
  · rw [zero_mul, round_zero, round_zero]
  · have hvalue : ((m * 2 ^ j : Nat) : ℝ) * 2 ^ (e - j) = m * 2 ^ e := by
      rw [zpow_sub₀ two_ne_zero, zpow_natCast]
      push_cast
      field_simp
    exact Fmt.StandsFor.round_eq (v := m * 2 ^ e) (.inl hvalue) (by positivity) (.exact fm m e) k neg

end Sys2Proof.Machine

/-! PROOFS. The arithmetic of finite values: the sum, the product, the quotient and the root that are rounded are the exact ones
(43_float.md R604, R620 to R627, R640 to R647, R663 to R666). -/

namespace Sys2Proof.Machine

/-! Operands. -/

section Operands

variable {fm : Fmt} {k : FpCtl} {a b : Word} {x y : FVal}

/-- An operation on valid operands that are numbers. -/
theorem op2_of_num {na nb : Bool} {ma mb : Nat} {ea eb : Int} (hva : Fmt.valid fm a = true) (hvb : Fmt.valid fm b = true)
    (ha : Fmt.value fm k.dnz a = .num na ma ea) (hb : Fmt.value fm k.dnz b = .num nb mb eb) (f : FVal → FVal → FpOut) :
    Fmt.op2 fm k a b f = f (.num na ma ea) (.num nb mb eb) := by
  simp [Fmt.op2, hva, hvb, ha, hb, nanResult]

theorem op1_of_num {nb : Bool} {mb : Nat} {eb : Int} (hvb : Fmt.valid fm b = true)
    (hb : Fmt.value fm k.dnz b = .num nb mb eb) (f : FVal → FpOut) : Fmt.op1 fm k b f = f (.num nb mb eb) := by
  simp [Fmt.op1, hvb, hb]

end Operands

/-! Sums. -/

/-- A signed magnitude counted in a finer unit. -/
theorem signedInt_mul (n : Bool) (m j : Nat) : signedInt n (m * 2 ^ j) = signedInt n m * 2 ^ j := by
  cases n <;> simp [signedInt]

theorem signedInt_eq (n : Bool) (m : Nat) : signedInt n m = (if n then -1 else 1) * (m : Int) := by
  cases n <;> simp [signedInt]

/-- The exact sum at the least exponent, counted in any unit that is not coarser. -/
theorem addExact_finer (na : Bool) (ma : Nat) (nb : Bool) (mb : Nat) {ea eb q : Int} (ha : q ≤ ea) (hb : q ≤ eb) :
    (if na then -1 else 1) * ((ma : Int) * 2 ^ (ea - q).toNat) + (if nb then -1 else 1) * ((mb : Int) * 2 ^ (eb - q).toNat)
      = (addExact na ma ea nb mb eb).1 * 2 ^ (min ea eb - q).toNat := by
  have hpow {e : Int} (he : min ea eb ≤ e) : (2 : Int) ^ (e - q).toNat = 2 ^ (e - min ea eb).toNat * 2 ^ (min ea eb - q).toNat := by
    rw [← pow_add]
    congr 1
    omega
  rw [addExact, signedInt_mul, signedInt_mul, signedInt_eq, signedInt_eq, hpow (min_le_left ea eb), hpow (min_le_right ea eb)]
  ring

/-- ADDx of numbers rounds the exact sum, counted in any unit that is not coarser than the operands'. -/
theorem addNum_eq (fm : Fmt) (k : FpCtl) (na : Bool) (ma : Nat) (nb : Bool) (mb : Nat) {ea eb q sum : Int} (ha : q ≤ ea) (hb : q ≤ eb)
    (hsum : sum = (if na then -1 else 1) * ((ma : Int) * 2 ^ (ea - q).toNat)
      + (if nb then -1 else 1) * ((mb : Int) * 2 ^ (eb - q).toNat)) :
    (sum ≠ 0 → Fmt.addNum fm k na ma ea nb mb eb = Fmt.round fm k (decide (sum < 0)) sum.natAbs q)
      ∧ (sum = 0 → Fmt.addNum fm k na ma ea nb mb eb = Fmt.round fm k (if na = nb then na else decide (k.mode = .minus)) 0 q) := by
  rw [addExact_finer na ma nb mb ha hb] at hsum
  have hpos : (0 : Int) < 2 ^ (min ea eb - q).toNat := by positivity
  have hq : q = min ea eb - (min ea eb - q).toNat := by omega
  have hadd : Fmt.addNum fm k na ma ea nb mb eb
      = Fmt.round fm k (if (addExact na ma ea nb mb eb).1 = 0 then (if na = nb then na else decide (k.mode = .minus))
        else decide ((addExact na ma ea nb mb eb).1 < 0)) (addExact na ma ea nb mb eb).1.natAbs (min ea eb) := rfl
  generalize (addExact na ma ea nb mb eb).1 = n at hsum hadd
  constructor
  · intro hne
    have hn : n ≠ 0 := by
      rintro rfl
      exact hne (by rw [hsum, zero_mul])
    have hsign : decide (sum < 0) = decide (n < 0) := decide_eq_decide.2 (by
      rw [hsum]
      exact ⟨fun h => by_contra fun hge => absurd h (mul_nonneg (not_lt.1 hge) hpos.le).not_gt,
        fun h => mul_neg_of_neg_of_pos h hpos⟩)
    have habs : sum.natAbs = n.natAbs * 2 ^ (min ea eb - q).toNat := by rw [hsum, Int.natAbs_mul, Int.natAbs_pow]; rfl
    rw [hadd, if_neg hn, hsign, habs, ← round_finer fm k _ n.natAbs (min ea eb - q).toNat (min ea eb), ← hq]
  · intro hzero
    have hn : n = 0 := by
      rw [hsum] at hzero
      exact (mul_eq_zero.1 hzero).resolve_right hpos.ne'
    rw [hadd, if_pos hn, hn, Int.natAbs_zero, round_zero, round_zero]

/-! Quotients. -/

/-- A number counted in a finer unit. -/
theorem scaled_eq (m : Nat) {e d : Int} (h : d ≤ e) : ((m * 2 ^ (e - d).toNat : Nat) : ℝ) * 2 ^ d = m * 2 ^ e := by
  have he : e = (e - d).toNat + d := by omega
  conv_rhs => rw [he, zpow_add₀ two_ne_zero, zpow_natCast]
  push_cast
  ring

/-- The quotient of two naturals by its integer part and its remainder. -/
theorem quotient_place (n : Nat) {d : Nat} (hd : d ≠ 0) : ((n / d : Nat) : ℝ) ≤ (n : ℝ) / d ∧ (n : ℝ) / d < (n / d : Nat) + 1
    ∧ (n % d = 0 ↔ ((n / d : Nat) : ℝ) = (n : ℝ) / d) := by
  have hpos : (0 : ℝ) < d := by exact_mod_cast Nat.pos_of_ne_zero hd
  rw [← Nat.floor_div_eq_div (K := ℝ)]
  refine ⟨Nat.floor_le (by positivity), Nat.lt_floor_add_one _, ?_⟩
  rw [Nat.floor_div_eq_div, eq_div_iff hpos.ne', ← Nat.dvd_iff_mod_eq_zero]
  exact ⟨fun h => by exact_mod_cast Nat.div_mul_cancel h, fun h => ⟨n / d, by rw [mul_comm]; exact_mod_cast h.symm⟩⟩

/-- The quotient that DIVx rounds stands for the exact one. -/
theorem divNum_eq (fm : Fmt) (k : FpCtl) (neg : Bool) {ma mb : Nat} (hma : ma ≠ 0) (hmb : mb ≠ 0) (ea eb : Int) {m : Nat} {e : Int}
    (h : Fmt.StandsFor fm ((ma * 2 ^ ea) / (mb * 2 ^ eb)) m e) : Fmt.divNum fm k neg ma ea mb eb = Fmt.round fm k neg m e := by
  have hma' : (0 : ℝ) < ma := by exact_mod_cast Nat.pos_of_ne_zero hma
  have hmb' : (0 : ℝ) < mb := by exact_mod_cast Nat.pos_of_ne_zero hmb
  have hbits {j : Nat} (hj : j = Fmt.prec fm + 2 + (Nat.log2 mb + 1)) : 2 ^ Fmt.prec fm ≤ ma * 2 ^ j / mb := by
    rw [Nat.le_div_iff_mul_le (Nat.pos_of_ne_zero hmb), hj]
    calc 2 ^ Fmt.prec fm * mb ≤ 2 ^ Fmt.prec fm * 2 ^ (Nat.log2 mb + 1) := Nat.mul_le_mul_left _ Nat.lt_log2_self.le
      _ = 2 ^ (Fmt.prec fm + (Nat.log2 mb + 1)) := (pow_add _ _ _).symm
      _ ≤ 2 ^ (Fmt.prec fm + 2 + (Nat.log2 mb + 1)) := Nat.pow_le_pow_right (by decide) (by omega)
      _ ≤ ma * 2 ^ (Fmt.prec fm + 2 + (Nat.log2 mb + 1)) := Nat.le_mul_of_pos_left _ (Nat.pos_of_ne_zero hma)
  have hvalue (j : Nat) : (ma * 2 ^ ea : ℝ) / (mb * 2 ^ eb) = ((ma * 2 ^ j : Nat) : ℝ) / mb * 2 ^ (ea - eb - j) := by
    rw [zpow_sub₀ two_ne_zero, zpow_sub₀ two_ne_zero, zpow_natCast]
    push_cast
    field_simp
  have hpos : (0 : ℝ) < (ma * 2 ^ ea) / (mb * 2 ^ eb) := by positivity
  refine Fmt.StandsFor.round_eq (Fmt.StandsFor.sticky (hbits rfl) ?_ ?_ ?_) hpos h k neg
  all_goals
    rw [hvalue (Fmt.prec fm + 2 + (Nat.log2 mb + 1))]
    generalize ma * 2 ^ (Fmt.prec fm + 2 + (Nat.log2 mb + 1)) = n
    obtain ⟨hle, hlt, hexact⟩ := quotient_place n hmb
  · exact mul_le_mul_of_nonneg_right hle (by positivity)
  · exact mul_lt_mul_of_pos_right hlt (by positivity)
  · rw [hexact, mul_left_inj' (by positivity)]

/-! Roots. -/

theorem isqrtFrom_eq {n : Nat} : ∀ {k r : Nat}, r * r ≤ n → n < (r + 2 ^ k) * (r + 2 ^ k) → isqrtFrom n k r = Nat.sqrt n
  | 0, r, hle, hlt => Nat.eq_sqrt.2 ⟨hle, hlt⟩
  | k + 1, r, hle, hlt => by
    rw [isqrtFrom]
    split
    next h => exact isqrtFrom_eq h (by rwa [pow_succ, mul_two, ← add_assoc] at hlt)
    next h => exact isqrtFrom_eq hle (not_le.1 h)

/-- The model's integer square root. -/
theorem isqrt_eq (n : Nat) : isqrtFrom n (Nat.log2 n / 2 + 1) 0 = Nat.sqrt n := by
  refine isqrtFrom_eq (Nat.zero_le _) ?_
  rw [zero_add, ← pow_add]
  exact Nat.lt_log2_self.trans_le (Nat.pow_le_pow_right (by decide) (by omega))

/-- The root of a number in units whose exponent is half of its own, by the integer square root. -/
theorem root_place (n : Nat) (c : Int) : Nat.sqrt n * 2 ^ c ≤ √(n * 2 ^ (2 * c)) ∧ √(n * 2 ^ (2 * c)) < (Nat.sqrt n + 1) * 2 ^ c
    ∧ (Nat.sqrt n * Nat.sqrt n = n ↔ Nat.sqrt n * 2 ^ c = √(n * 2 ^ (2 * c))) := by
  have hpos : (0 : ℝ) < 2 ^ c := by positivity
  have hroot : √((n : ℝ) * 2 ^ (2 * c)) = √n * 2 ^ c := by
    rw [Real.sqrt_mul (Nat.cast_nonneg n), mul_comm 2 c, zpow_mul, show (2 : ℤ) = ((2 : ℕ) : ℤ) from rfl, zpow_natCast,
      Real.sqrt_sq hpos.le]
  rw [hroot]
  refine ⟨mul_le_mul_of_nonneg_right Real.nat_sqrt_le_real_sqrt hpos.le,
    mul_lt_mul_of_pos_right Real.real_sqrt_lt_nat_sqrt_succ hpos, ?_⟩
  rw [mul_left_inj' hpos.ne', eq_comm (b := √(n : ℝ)), Real.sqrt_eq_iff_mul_self_eq (Nat.cast_nonneg _) (Nat.cast_nonneg _)]
  norm_cast
  rw [eq_comm]

/-- The root that SQRTx rounds stands for the exact one. -/
theorem sqrtNum_eq (fm : Fmt) (k : FpCtl) {mb : Nat} (hmb : mb ≠ 0) (eb : Int) {m : Nat} {e : Int}
    (h : Fmt.StandsFor fm (√(mb * 2 ^ eb)) m e) : Fmt.sqrtNum fm k mb eb = Fmt.round fm k false m e := by
  have hmb' : (0 : ℝ) < mb := by exact_mod_cast Nat.pos_of_ne_zero hmb
  obtain ⟨j, c, hj, heven, hnum⟩ : ∃ (j : Nat) (c : Int), 2 * Fmt.prec fm ≤ j ∧ eb - j = 2 * c ∧ Fmt.sqrtNum fm k mb eb
      = Fmt.round fm k false (2 * Nat.sqrt (mb * 2 ^ j) + (if Nat.sqrt (mb * 2 ^ j) * Nat.sqrt (mb * 2 ^ j) = mb * 2 ^ j then 0 else 1))
        (c - 1) := by
    unfold Fmt.sqrtNum
    simp only [isqrt_eq]
    refine ⟨_, _, ?_, ?_, rfl⟩ <;> split_ifs <;> omega
  have hbits : 2 ^ Fmt.prec fm ≤ Nat.sqrt (mb * 2 ^ j) := by
    rw [Nat.le_sqrt, ← pow_add, ← two_mul]
    exact (Nat.pow_le_pow_right (by decide) hj).trans (Nat.le_mul_of_pos_left _ (Nat.pos_of_ne_zero hmb))
  have hvalue : (mb : ℝ) * 2 ^ eb = (mb * 2 ^ j : Nat) * 2 ^ (2 * c) := by
    rw [← heven, zpow_sub₀ two_ne_zero, zpow_natCast]
    push_cast
    field_simp
  obtain ⟨hle, hlt, hexact⟩ := root_place (mb * 2 ^ j) c
  rw [← hvalue] at hle hlt hexact
  rw [hnum]
  exact Fmt.StandsFor.round_eq (.sticky hbits hle hlt hexact) (Real.sqrt_pos.2 (by positivity)) h k false

/-! The statements about exact results, in ℚ and by integers. -/

/-- An exact quotient, by integers at a common exponent. -/
theorem quotient_of_exact {m ma mb : Nat} {e ea eb : Int} (hmb : mb ≠ 0)
    (h : m * mb * 2 ^ (e + eb - min (e + eb) ea).toNat = ma * 2 ^ (ea - min (e + eb) ea).toNat) :
    (m : ℝ) * 2 ^ e = (ma * 2 ^ ea) / (mb * 2 ^ eb) := by
  have hmb' : (mb : ℝ) ≠ 0 := by exact_mod_cast hmb
  have hscaled := scaled_eq (m * mb) (min_le_left (e + eb) ea)
  rw [h, scaled_eq ma (min_le_right (e + eb) ea), zpow_add₀ two_ne_zero] at hscaled
  rw [eq_div_iff (by positivity), hscaled]
  push_cast
  ring

/-- An exact root, by integers at a common exponent. -/
theorem root_of_exact {m mb : Nat} {e eb : Int}
    (h : m * m * 2 ^ (2 * e - min (2 * e) eb).toNat = mb * 2 ^ (eb - min (2 * e) eb).toNat) :
    (m : ℝ) * 2 ^ e = √(mb * 2 ^ eb) := by
  have hscaled := scaled_eq (m * m) (min_le_left (2 * e) eb)
  rw [h, scaled_eq mb (min_le_right (2 * e) eb), two_mul, zpow_add₀ two_ne_zero] at hscaled
  rw [hscaled, eq_comm, Real.sqrt_eq_iff_mul_self_eq (by positivity) (by positivity)]
  push_cast
  ring

/-- What stands for a quotient that is placed in ℚ. -/
theorem standsFor_quotient {fm : Fmt} {n ma mb : Nat} {e ea eb : Int} (hn : 2 ^ Fmt.prec fm ≤ n)
    (hlo : (n : ℚ) * 2 ^ e ≤ (ma * 2 ^ ea) / (mb * 2 ^ eb)) (hhi : (ma * 2 ^ ea) / (mb * 2 ^ eb) < ((n : ℚ) + 1) * 2 ^ e) :
    Fmt.StandsFor fm ((ma * 2 ^ ea) / (mb * 2 ^ eb))
      (2 * n + if (n : ℚ) * 2 ^ e = (ma * 2 ^ ea) / (mb * 2 ^ eb) then 0 else 1) (e - 1) := by
  have hlo' := (Rat.cast_le (K := ℝ)).2 hlo
  have hhi' := (Rat.cast_lt (K := ℝ)).2 hhi
  push_cast at hlo' hhi'
  refine .sticky hn hlo' hhi' ?_
  rw [← Rat.cast_inj (α := ℝ)]
  push_cast
  exact Iff.rfl

/-- What stands for a root whose square is placed in ℚ. -/
theorem standsFor_root {fm : Fmt} {n mb : Nat} {e eb : Int} (hn : 2 ^ Fmt.prec fm ≤ n)
    (hlo : ((n : ℚ) * 2 ^ e) ^ 2 ≤ mb * 2 ^ eb) (hhi : (mb : ℚ) * 2 ^ eb < (((n : ℚ) + 1) * 2 ^ e) ^ 2) :
    Fmt.StandsFor fm (√(mb * 2 ^ eb)) (2 * n + if ((n : ℚ) * 2 ^ e) ^ 2 = mb * 2 ^ eb then 0 else 1) (e - 1) := by
  have hlo' := (Rat.cast_le (K := ℝ)).2 hlo
  have hhi' := (Rat.cast_lt (K := ℝ)).2 hhi
  push_cast at hlo' hhi'
  refine .sticky hn (Real.le_sqrt_of_sq_le hlo') ((Real.sqrt_lt' (by positivity)).2 hhi') ?_
  rw [← Rat.cast_inj (α := ℝ), eq_comm (b := √(mb * 2 ^ eb : ℝ)), Real.sqrt_eq_iff_mul_self_eq (by positivity) (by positivity),
    ← pow_two]
  push_cast
  exact eq_comm

/-- Every number strictly between two neighbouring units of which it has more than the format has bits rounds alike. -/
theorem round_between {fm : Fmt} {n : Nat} (hn : 2 ^ Fmt.prec fm ≤ n) (k : FpCtl) (neg : Bool) {j f : Nat} (hf : 0 < f)
    (hfj : f < 2 ^ j) (e : Int) : Fmt.round fm k neg (n * 2 ^ j + f) (e - j) = Fmt.round fm k neg (2 * n + 1) (e - 1) := by
  have hpos : (0 : ℝ) < 2 ^ (e - j) := by positivity
  have hunit : (2 : ℝ) ^ e = 2 ^ j * 2 ^ (e - j) := by rw [← zpow_natCast, ← zpow_add₀ two_ne_zero, add_sub_cancel]
  have hlo : (n : ℝ) * 2 ^ j < (n * 2 ^ j + f : Nat) := by exact_mod_cast Nat.lt_add_of_pos_right hf
  have hhi : ((n * 2 ^ j + f : Nat) : ℝ) < (n + 1) * 2 ^ j := by
    rw [add_mul, one_mul]
    exact_mod_cast Nat.add_lt_add_left hfj _
  have hlo' : (n : ℝ) * 2 ^ e < (n * 2 ^ j + f : Nat) * 2 ^ (e - j) := by
    rw [hunit, ← mul_assoc]
    exact mul_lt_mul_of_pos_right hlo hpos
  have hhi' : ((n * 2 ^ j + f : Nat) : ℝ) * 2 ^ (e - j) < (n + 1) * 2 ^ e := by
    rw [hunit, ← mul_assoc]
    exact mul_lt_mul_of_pos_right hhi hpos
  exact (Fmt.StandsFor.exact fm _ _).round_eq (by positivity)
    (.sticky (p := False) hn hlo'.le hhi' (iff_of_false id hlo'.ne)) k neg

/-- Settles O47: sums by `addNum_eq`, quotients and roots by what stands for them. -/
theorem arithmeticRoundsExactResults : Obligations.ArithmeticRoundsExactResults := by
  intro fm k a b na nb ma mb ea eb hva hvb ha hb
  have hop2 := op2_of_num (k := k) hva hvb ha hb
  have hadd : Fmt.add fm k a b = Fmt.addNum fm k na ma ea nb mb eb := hop2 _
  have hsub : Fmt.sub fm k a b = Fmt.addNum fm k na ma ea (!nb) mb eb := hop2 _
  have hmul : Fmt.mul fm k a b = Fmt.round fm k (na != nb) (ma * mb) (ea + eb) := hop2 _
  have hdiv (hmb : mb ≠ 0) : Fmt.div fm k a b
      = if ma = 0 then Fmt.round fm k (na != nb) 0 0 else Fmt.divNum fm k (na != nb) ma ea mb eb := (hop2 _).trans (if_neg hmb)
  have hsqrt (hmb : mb ≠ 0) (hnb : nb = false) : Fmt.sqrt fm k b = Fmt.sqrtNum fm k mb eb := by
    subst hnb
    exact (op1_of_num hvb hb _).trans ((if_neg hmb).trans (if_neg Bool.false_ne_true))
  have hbits {n : Nat} (hn : 2 ^ (match fm with
      | .s | .f => 24
      | .t | .g => 53
      | .d => 56) ≤ n) : 2 ^ Fmt.prec fm ≤ n := by cases fm <;> exact hn
  refine ⟨fun q hqa hqb => ?_, hmul, fun m e hmb hexact => ?_, fun m e hmb hnb hexact => ?_,
    fun n e hn => ⟨fun hmb hlo hhi => ?_, fun hnb hlo hhi => ?_, fun neg j f hf hfj => ?_⟩⟩
  · obtain ⟨hsum, hsum0⟩ := addNum_eq fm k na ma nb mb hqa hqb rfl
    obtain ⟨hdiff, hdiff0⟩ := addNum_eq fm k na ma (!nb) mb hqa hqb (sum := (if na then -1 else 1) * (ma * 2 ^ (ea - q).toNat)
      - (if nb then -1 else 1) * (mb * 2 ^ (eb - q).toNat)) (by cases nb <;> simp [sub_eq_add_neg])
    rw [hadd, hsub]
    refine ⟨hsum, hdiff, hsum0, fun h0 => (hdiff0 h0).trans ?_⟩
    cases na <;> cases nb <;> rfl
  · have hvalue := quotient_of_exact hmb hexact
    rw [hdiv hmb]
    split
    next hma =>
      have hm : m = 0 := by simpa [hma, hmb] using hexact
      rw [hm, round_zero, round_zero]
    next hma => exact divNum_eq fm k _ hma hmb ea eb (.inl hvalue)
  · rw [hsqrt hmb hnb]
    exact sqrtNum_eq fm k hmb eb (.inl (root_of_exact hexact))
  · have hma : ma ≠ 0 := by
      rintro rfl
      have hn0 : (0 : ℚ) < n := by exact_mod_cast (Nat.two_pow_pos _).trans_le hn
      have hpos : (0 : ℚ) < n * 2 ^ e := by positivity
      exact absurd hpos (by simpa only [Nat.cast_zero, zero_mul, zero_div, not_lt] using hlo)
    rw [hdiv hmb, if_neg hma]
    exact divNum_eq fm k _ hma hmb ea eb (standsFor_quotient (hbits hn) hlo hhi)
  · have hmb : mb ≠ 0 := by
      rintro rfl
      have hn0 : (0 : ℚ) < n := by exact_mod_cast (Nat.two_pow_pos _).trans_le hn
      have hpos : (0 : ℚ) < (n * 2 ^ e) ^ 2 := by positivity
      exact absurd hpos (by simpa only [Nat.cast_zero, zero_mul, not_lt] using hlo)
    rw [hsqrt hmb hnb]
    exact sqrtNum_eq fm k hmb eb (standsFor_root (hbits hn) hlo hhi)
  · exact round_between (hbits hn) k neg hf hfj e

end Sys2Proof.Machine

/-! PROOFS. The template of the floating operates (43_float.md R606, R607, R613), the controls of the IEEE ones (R604, R609), and the
kinds of IEEE operands (R602). -/

namespace Sys2Proof.Machine

/-! The template. -/

/-- A floating operate of trap qualifier `tr` that delivers `out`: the sticky bits of the raised conditions are set; if one traps, the
trap is recorded for Fc and Fc takes a free value, else Fc takes the result; nothing else changes but the pc and the counter of
draws (R606, R607, R613). -/
def completesFp (s : State) (fc : Reg) (o : Outcome) (tr : Trap) (out : FpOut) : Prop :=
  let c := trapping tr s.cpu.fpcr out.conds out.always
  ∃ t, o = .next t
    ∧ wroteF s t fc (if c = 0 then out.bits else Config.fpTrapResult s.draws)
    ∧ t.cpu.pc = s.cpu.pc + 4 ∧ t.cpu.fpcr = s.cpu.fpcr ||| (out.conds.setWidth 64 <<< 52)
    ∧ t.cpu.pend = (if c = 0 then s.cpu.pend
      else ⟨true, s.cpu.pend.sum ||| excSumOf tr c, s.cpu.pend.mask ||| (1 <<< (32 + fc.toNat))⟩)
    ∧ t = { s with
      cpu := { s.cpu with fregs := t.cpu.fregs, pc := t.cpu.pc, fpcr := t.cpu.fpcr, pend := t.cpu.pend },
      draws := s.draws + 1 } ∧ sameBytes s t

theorem completesFp_fpOperate (s : State) (fc : Reg) (tr : Trap) (out : FpOut) :
    completesFp s fc (fpOperate tr fc out s) tr out := by
  have hwrote (v : Word) := wroteF_of_kept (Kept.refl s) fc v
  unfold completesFp fpOperate
  dsimp only
  split
  next h =>
    exact ⟨_, rfl, hwrote _, rfl, rfl, rfl, rfl, sameBytes_of_eq rfl rfl⟩
  next h =>
    exact ⟨_, rfl, hwrote _, rfl, rfl, rfl, rfl, sameBytes_of_eq rfl rfl⟩

section Templates

variable {s : State} (hfen : State.fen s = true) (q : Qual) (fa fb fc : Reg)

include hfen

theorem completesFp_needFen (tr : Trap) (out : FpOut) : completesFp s fc (needFen s (fpOperate tr fc out s)) tr out := by
  rw [needFen_pos hfen]
  exact completesFp_fpOperate s fc tr out

theorem completesFp_ieeeOp2 (op : FpCtl → Word → Word → FpOut) :
    completesFp s fc (ieeeOp2 op q fa fb fc s) q.trap (op (State.ieeeCtl s q) (State.f s fa) (State.f s fb)) :=
  completesFp_needFen hfen fc _ _

theorem completesFp_ieeeOp1 (op : FpCtl → Word → FpOut) :
    completesFp s fc (ieeeOp1 op q fb fc s) q.trap (op (State.ieeeCtl s q) (State.f s fb)) :=
  completesFp_needFen hfen fc _ _

theorem completesFp_vaxOp2 (op : FpCtl → Word → Word → FpOut) :
    completesFp s fc (vaxOp2 op q fa fb fc s) q.trap (op (State.vaxCtl s q) (State.f s fa) (State.f s fb)) :=
  completesFp_needFen hfen fc _ _

theorem completesFp_vaxOp1 (op : FpCtl → Word → FpOut) :
    completesFp s fc (vaxOp1 op q fb fc s) q.trap (op (State.vaxCtl s q) (State.f s fb)) :=
  completesFp_needFen hfen fc _ _

end Templates

/-! The controls. -/

/-- FPCR.DYN by its bits (R604). -/
theorem ieeeMode_dynamic (f : Word) : ieeeMode .dynamic f = (match f.getLsbD 59, f.getLsbD 58 with
    | false, false => .chop
    | false, true => .minus
    | true, false => .even
    | true, true => .plus) := by
  have hdyn : (Fpcr.dyn f).toNat = f.toNat / 2 ^ 59 % 2 * 2 + f.toNat / 2 ^ 58 % 2 := by
    rw [Fpcr.dyn, toNat_field]
    omega
  rw [ieeeMode, hdyn, getLsbD_eq_decide, getLsbD_eq_decide]
  obtain hhigh | hhigh := Nat.mod_two_eq_zero_or_one (f.toNat / 2 ^ 59) <;>
    obtain hlow | hlow := Nat.mod_two_eq_zero_or_one (f.toNat / 2 ^ 58) <;> rw [hhigh, hlow] <;> rfl

/-! The kinds of IEEE operands. -/

/-- A zero, or with FPCR.DNZ a denormal (R602, R609). -/
def ieeeZero (dnz : Bool) (r : Word) : Prop := r.extractLsb' 52 11 = 0 ∧ (dnz = true ∨ r.extractLsb' 0 52 = 0)

/-- What a valid operand of S or T is. -/
inductive IeeeKind (fm : Fmt) (dnz : Bool) (r : Word) : Prop
  | nan (h : isNan r = true) (hinf : isInf r = false) (value : Fmt.value fm dnz r = .nan (isSignaling r) r)
  | inf (hnan : isNan r = false) (h : isInf r = true) (value : Fmt.value fm dnz r = .inf (fpSign r))
  | num (hnan : isNan r = false) (hinf : isInf r = false) (m : Nat) (e : Int) (value : Fmt.value fm dnz r = .num (fpSign r) m e)
    (zero : m = 0 ↔ ieeeZero dnz r)

theorem isNan_iff (r : Word) : isNan r = true ↔ fpExp r = 0x7FF ∧ fpFrac r ≠ 0 := by
  rw [← fpIsNan_iff]
  simp [isNan, fpIsNan]

theorem isInf_iff (r : Word) : isInf r = true ↔ fpExp r = 0x7FF ∧ fpFrac r = 0 := by
  simp [isInf, fpExp, fpFrac, ← BitVec.toNat_inj]

/-- An infinity is the infinity of its sign. -/
theorem eq_fpInf_of_isInf {r : Word} (h : isInf r = true) : r = fpInf (fpSign r) := by
  obtain ⟨hmax, hfrac⟩ := (isInf_iff r).1 h
  rw [fpInf, ← hmax, ← hfrac, packFp_fields]

theorem ieeeZero_iff (dnz : Bool) (r : Word) : ieeeZero dnz r ↔ fpExp r = 0 ∧ (dnz = true ∨ fpFrac r = 0) := by
  simp only [ieeeZero, fpExp, fpFrac, ← BitVec.toNat_inj, BitVec.ofNat_eq_ofNat, BitVec.toNat_zero]

/-- The value of a finite register of S or T. -/
theorem value_of_finite {fm : Fmt} (hfm : fm = .s ∨ fm = .t) (dnz : Bool) {r : Word} (hvalid : Fmt.valid fm r = true)
    (hfin : fpExp r ≠ 0x7FF) : ∃ m e, Fmt.value fm dnz r = .num (fpSign r) m e ∧ (m = 0 ↔ ieeeZero dnz r) := by
  rw [ieeeZero_iff]
  obtain rfl | rfl := hfm
  · have hfrac := fpFrac_of_low_zero ((valid_s_iff r).1 hvalid).1
    by_cases hmin : fpExp r = 0
    · refine ⟨_, _, by rw [Fmt.value, if_neg hfin, if_pos hmin], ?_⟩
      cases dnz <;> simp [hmin, hfrac]
    · exact ⟨_, _, by rw [Fmt.value, if_neg hfin, if_neg hmin], by simp [hmin]⟩
  · by_cases hmin : fpExp r = 0
    · refine ⟨_, _, by rw [Fmt.value, if_neg hfin, if_pos hmin], ?_⟩
      cases dnz <;> simp [hmin]
    · exact ⟨_, _, by rw [Fmt.value, if_neg hfin, if_neg hmin], by simp [hmin]⟩

theorem ieeeKind {fm : Fmt} (hfm : fm = .s ∨ fm = .t) (dnz : Bool) {r : Word} (hvalid : Fmt.valid fm r = true) :
    IeeeKind fm dnz r := by
  by_cases hmax : fpExp r = 0x7FF
  · have hvalue : Fmt.value fm dnz r = fpSpecial r := by
      obtain rfl | rfl := hfm <;> exact if_pos hmax
    by_cases hfrac : fpFrac r = 0
    · have hinf := (isInf_iff r).2 ⟨hmax, hfrac⟩
      have hnan : isNan r = false := Bool.eq_false_iff.2 fun h => ((isNan_iff r).1 h).2 hfrac
      exact .inf hnan hinf (hvalue.trans (if_pos hfrac))
    · have hnan := (isNan_iff r).2 ⟨hmax, hfrac⟩
      refine .nan hnan (Bool.eq_false_iff.2 fun h => hfrac ((isInf_iff r).1 h).2) ?_
      rw [hvalue, fpSpecial, if_neg hfrac, isSignaling, hnan, Bool.true_and]
  · obtain ⟨m, e, hvalue, hzero⟩ := value_of_finite hfm dnz hvalid hmax
    exact .num (Bool.eq_false_iff.2 fun h => hmax ((isNan_iff r).1 h).1) (Bool.eq_false_iff.2 fun h => hmax ((isInf_iff r).1 h).1)
      m e hvalue hzero

end Sys2Proof.Machine

/-! PROOFS. The compares: the order of two registers is that of their exact values (43_float.md R628 to R631, R648 to R650). -/

namespace Sys2Proof.Machine

theorem exactValue_signed (neg : Bool) (m : Nat) (e : Int) : exactValue neg m e = (signedInt neg m : ℚ) * 2 ^ e := by
  cases neg <;> simp [exactValue, signedInt]

/-- Two numbers compare as their exact values. -/
theorem compareNum_eq (na : Bool) (ma : Nat) (ea : Int) (nb : Bool) (mb : Nat) (eb : Int) :
    compareNum na ma ea nb mb eb = compare (exactValue na ma ea) (exactValue nb mb eb) := by
  have hmono : StrictMono fun i : Int => (i : ℚ) * 2 ^ min ea eb := fun i j hij =>
    mul_lt_mul_of_pos_right (by exact_mod_cast hij) (by positivity)
  have hvalue (n : Bool) (m : Nat) {e : Int} (he : min ea eb ≤ e) :
      exactValue n m e = (signedInt n (m * 2 ^ (e - min ea eb).toNat) : ℚ) * 2 ^ min ea eb := by
    rw [← exactValue_signed, exactValue_shift]
    congr 1
    omega
  rw [hvalue na ma (min_le_left ea eb), hvalue nb mb (min_le_right ea eb), ← cmp_eq_compare, hmono.cmp_map_eq, cmp_eq_compare]
  rfl

theorem abs_exactValue_lt {m : Nat} {e : Int} (hm : m < 2 ^ 53) (he : e ≤ 971) (neg : Bool) :
    |exactValue neg m e| < 2 ^ (1024 : Int) := by
  have hpos : (0 : ℚ) < 2 ^ e := by positivity
  have habs : |exactValue neg m e| = m * 2 ^ e := by
    have hnonneg : (0 : ℚ) ≤ m * 2 ^ e := by positivity
    cases neg <;> simp [exactValue_eq, abs_of_nonneg]
  calc |exactValue neg m e| = m * 2 ^ e := habs
    _ < 2 ^ 53 * 2 ^ e := mul_lt_mul_of_pos_right (by exact_mod_cast hm) hpos
    _ ≤ 2 ^ 53 * 2 ^ (971 : Int) := mul_le_mul_of_nonneg_left (zpow_le_zpow_right₀ one_le_two he) (by positivity)
    _ = 2 ^ (1024 : Int) := by rw [← zpow_natCast, ← zpow_add₀ two_ne_zero]; rfl

/-- The value of a T register where denormals are zeros if `dnz` (R609). -/
def tValue (dnz : Bool) (r : Word) : ℚ := if dnz && r.extractLsb' 52 11 == 0 then 0 else regValue .t r

/-- The value of a T register that is no NaN: ±2^1024 for an infinity, and below that for a number. -/
theorem tValue_spec (dnz : Bool) {r : Word} (hnan : isNan r = false) :
    (∃ neg, Fmt.value .t dnz r = .inf neg ∧ tValue dnz r = if neg then -2 ^ (1024 : Int) else 2 ^ (1024 : Int))
    ∨ ∃ neg m e, Fmt.value .t dnz r = .num neg m e ∧ tValue dnz r = exactValue neg m e
      ∧ |exactValue neg m e| < 2 ^ (1024 : Int) := by
  have hexp : fpExp r < 2 ^ 11 := BitVec.isLt _
  have hfrac : fpFrac r < 2 ^ 52 := BitVec.isLt _
  have hzero : (r.extractLsb' 52 11 == 0) = decide (fpExp r = 0) := by
    rw [fpExp, Bool.eq_iff_iff, beq_iff_eq, decide_eq_true_eq, ← BitVec.toNat_inj]
    rfl
  rw [tValue, hzero, regValue_t]
  by_cases hmax : fpExp r = 0x7FF
  · have hinf : fpFrac r = 0 := by
      by_contra h
      exact absurd ((isNan_iff r).2 ⟨hmax, h⟩) (Bool.eq_false_iff.1 hnan)
    have htop : ((2 ^ 52 + 0 : Nat) : ℚ) * 2 ^ (((2047 : Nat) : Int) - 1075) = 2 ^ (1024 : Int) := by
      rw [Nat.add_zero, Nat.cast_pow, Nat.cast_ofNat, ← zpow_natCast, ← zpow_add₀ two_ne_zero]
      rfl
    refine .inl ⟨fpSign r, by simp [Fmt.value, fpSpecial, hmax, hinf], ?_⟩
    rw [hmax, hinf, if_neg (by simp), if_neg (by decide), exactValue_eq, htop]
  · right
    by_cases hmin : fpExp r = 0
    · refine ⟨fpSign r, if dnz then 0 else fpFrac r, -1074, by simp [Fmt.value, hmin], ?_,
        abs_exactValue_lt (by split_ifs <;> omega) (by decide) _⟩
      cases dnz <;> simp [hmin, exactValue_zero]
    · exact ⟨fpSign r, _, _, by rw [Fmt.value, if_neg hmax, if_neg hmin], by simp [hmin],
        abs_exactValue_lt (by omega) (by omega) _⟩

theorem compare_t (dnz : Bool) {a b : Word} (ha : isNan a = false) (hb : isNan b = false) :
    FVal.compare (Fmt.value .t dnz a) (Fmt.value .t dnz b) = some (compare (tValue dnz a) (tValue dnz b)) := by
  have htop : -(2 : ℚ) ^ (1024 : Int) < 2 ^ (1024 : Int) := neg_lt_self (by positivity)
  have hspeca := tValue_spec dnz ha
  have hspecb := tValue_spec dnz hb
  generalize (2 : ℚ) ^ (1024 : Int) = top at htop hspeca hspecb
  obtain ⟨na, hva, hta⟩ | ⟨na, ma, ea, hva, hta, hlta⟩ := hspeca
  · obtain ⟨nb, hvb, htb⟩ | ⟨nb, mb, eb, hvb, htb, hltb⟩ := hspecb
    · rw [hva, hvb, hta, htb, FVal.compare]
      cases na <;> cases nb <;> simp [compare_lt_iff_lt.2 htop, compare_gt_iff_gt.2 htop]
    · rw [hva, hvb, hta, htb, FVal.compare]
      obtain ⟨hlo, hhi⟩ := abs_lt.1 hltb
      cases na
      · simp [compare_gt_iff_gt.2 hhi]
      · simp [compare_lt_iff_lt.2 hlo]
  · obtain ⟨hlo, hhi⟩ := abs_lt.1 hlta
    obtain ⟨nb, hvb, htb⟩ | ⟨nb, mb, eb, hvb, htb, -⟩ := hspecb
    · rw [hva, hvb, hta, htb, FVal.compare]
      cases nb
      · simp [compare_lt_iff_lt.2 hhi]
      · simp [compare_gt_iff_gt.2 hlo]
    · rw [hva, hvb, hta, htb, FVal.compare, compareNum_eq]

/-! The tests of the compares. -/

theorem beq_eq_of_compare (x y : ℚ) : (compare x y == .eq) = decide (x = y) := by
  rw [Bool.eq_iff_iff, beq_iff_eq, decide_eq_true_eq, compare_eq_iff_eq]

theorem beq_lt_of_compare (x y : ℚ) : (compare x y == .lt) = decide (x < y) := by
  rw [Bool.eq_iff_iff, beq_iff_eq, decide_eq_true_eq, compare_lt_iff_lt]

theorem bne_gt_of_compare (x y : ℚ) : (compare x y != .gt) = decide (x ≤ y) := by
  rw [Bool.eq_iff_iff, bne_iff_ne, decide_eq_true_eq, compare_le_iff_le]

/-- A value that is a NaN compares with nothing. -/
theorem compare_nan_left (sg : Bool) (v : Word) (y : FVal) : FVal.compare (.nan sg v) y = none := by cases y <;> rfl

theorem compare_nan_right (x : FVal) (sg : Bool) (v : Word) : FVal.compare x (.nan sg v) = none := by cases x <;> rfl

/-- What an IEEE compare finds: nothing if there is a NaN, else the order of the values. -/
theorem compare_t_eq (dnz : Bool) (a b : Word) : FVal.compare (Fmt.value .t dnz a) (Fmt.value .t dnz b)
    = if isNan a || isNan b then none else some (compare (tValue dnz a) (tValue dnz b)) := by
  cases ieeeKind (.inr rfl) dnz (r := a) rfl with
  | nan ha _ hva => rw [hva, compare_nan_left, ha, Bool.true_or, if_pos rfl]
  | inf ha | num ha =>
    cases ieeeKind (.inr rfl) dnz (r := b) rfl with
    | nan hb _ hvb => rw [hvb, compare_nan_right, hb, Bool.or_true, if_pos rfl]
    | inf hb | num hb => rw [compare_t dnz ha hb, ha, hb, Bool.or_self, if_neg Bool.false_ne_true]

/-- Which NaN makes an IEEE compare invalid (R628 to R631). -/
def invalidNan (quiet : Bool) (v : FVal) : Bool :=
  match v with
  | .nan sg _ => sg || !quiet
  | _ => false

theorem invalidNan_eq (quiet dnz : Bool) (r : Word) :
    invalidNan quiet (Fmt.value .t dnz r) = if quiet then isSignaling r else isNan r := by
  cases ieeeKind (.inr rfl) dnz (r := r) rfl with
  | nan h _ hv => cases quiet <;> simp [invalidNan, hv, h]
  | inf h _ hv | num h _ _ _ hv => cases quiet <;> simp [invalidNan, hv, h, isSignaling]

/-- The IEEE compares. -/
theorem compareT_eq (test : Option Ordering → Bool) (quiet : Bool) (k : FpCtl) (a b : Word) : compareT test quiet k a b
    = ⟨if test (if isNan a || isNan b then none else some (compare (tValue k.dnz a) (tValue k.dnz b)))
        then 0x4000000000000000 else 0,
      if (if quiet then isSignaling a || isSignaling b else isNan a || isNan b) then 1 else 0, 0⟩ := by
  have hbad : (if quiet then isSignaling a || isSignaling b else isNan a || isNan b)
      = (invalidNan quiet (Fmt.value .t k.dnz a) || invalidNan quiet (Fmt.value .t k.dnz b)) := by
    rw [invalidNan_eq, invalidNan_eq]
    cases quiet <;> rfl
  rw [← compare_t_eq, hbad]
  rfl

theorem cmptun_eq (k : FpCtl) (a b : Word) : compareT (fun o => o == none) true k a b
    = ⟨if isNan a || isNan b then 0x4000000000000000 else 0, if isSignaling a || isSignaling b then 1 else 0, 0⟩ := by
  rw [compareT_eq]
  cases isNan a || isNan b <;> rfl

theorem cmpteq_eq (k : FpCtl) (a b : Word) : compareT (fun o => o == some .eq) true k a b
    = ⟨if !(isNan a || isNan b) && decide (tValue k.dnz a = tValue k.dnz b) then 0x4000000000000000 else 0,
      if isSignaling a || isSignaling b then 1 else 0, 0⟩ := by
  rw [compareT_eq, ← beq_eq_of_compare]
  cases isNan a || isNan b <;> rfl

theorem cmptlt_eq (k : FpCtl) (a b : Word) : compareT (fun o => o == some .lt) false k a b
    = ⟨if !(isNan a || isNan b) && decide (tValue k.dnz a < tValue k.dnz b) then 0x4000000000000000 else 0,
      if isNan a || isNan b then 1 else 0, 0⟩ := by
  rw [compareT_eq, ← beq_lt_of_compare, if_neg Bool.false_ne_true]
  cases isNan a || isNan b <;> rfl

theorem cmptle_eq (k : FpCtl) (a b : Word) : compareT (fun o => o == some .lt || o == some .eq) false k a b
    = ⟨if !(isNan a || isNan b) && decide (tValue k.dnz a ≤ tValue k.dnz b) then 0x4000000000000000 else 0,
      if isNan a || isNan b then 1 else 0, 0⟩ := by
  rw [compareT_eq, ← bne_gt_of_compare, if_neg Bool.false_ne_true]
  cases isNan a || isNan b with
  | true => rfl
  | false => cases compare (tValue k.dnz a) (tValue k.dnz b) <;> rfl

end Sys2Proof.Machine

/-! PROOFS. The IEEE operates (43_float.md R602, R605, R607, R608, R620 to R636, R663 to R666): the conversions, and the arithmetic on
special operands. -/

namespace Sys2Proof.Machine

section OneOperand

variable {fm : Fmt} {k : FpCtl} {b : Word} {y : FVal}

/-- An operation on a valid operand that is not reserved. -/
theorem op1_of_value (hvalid : Fmt.valid fm b = true) (hv : Fmt.value fm k.dnz b = y) (hy : y ≠ .reserved) (f : FVal → FpOut) :
    Fmt.op1 fm k b f = f y := by
  rw [Fmt.op1, hvalid, Bool.not_true, if_neg Bool.false_ne_true, hv]
  exact if_neg hy

theorem op1_of_invalid (h : ¬ Fmt.valid fm b = true) (f : FVal → FpOut) :
    Fmt.op1 fm k b f = ⟨k.free.invalidResult, k.free.invalidConds, 0⟩ := by
  rw [Fmt.op1, Bool.eq_false_iff.2 h]
  rfl

end OneOperand

/-! The conversions. -/

section Convert

variable (k : FpCtl) (b : Word)

/-- The conversion of a NaN and of an infinity of S or T (R608, R632, R636). -/
theorem convert_special {src : Fmt} (hsrc : src = .s ∨ src = .t) (dst : Fmt) (hvalid : Fmt.valid src b = true) :
    (isNan b = true → convert src dst k b
      = ⟨(if dst = .s then (b >>> 29) <<< 29 else b) ||| 0x0008000000000000, if isSignaling b then 1 else 0, 0⟩)
    ∧ (isInf b = true → convert src dst k b = ⟨b, 0, 0⟩) := by
  refine ⟨fun h => ?_, fun h => ?_⟩
  · cases ieeeKind hsrc k.dnz hvalid with
    | nan _ _ hv =>
      rw [convert, op1_of_value hvalid hv nofun]
      cases dst <;> rfl
    | inf hnan | num hnan => exact absurd h (Bool.eq_false_iff.1 hnan)
  · cases ieeeKind hsrc k.dnz hvalid with
    | inf _ _ hv => exact (op1_of_value hvalid hv nofun _).trans (congrArg FpOut.exact (eq_fpInf_of_isInf h).symm)
    | nan _ hinf | num _ hinf => exact absurd h (Bool.eq_false_iff.1 hinf)

/-- The result of a conversion to a quadword (R633, R654). -/
theorem convertToQ_of_num {src : Fmt} {neg : Bool} {m : Nat} {e : Int} (hvalid : Fmt.valid src b = true)
    (hv : Fmt.value src k.dnz b = .num neg m e) : convertToQ src k b
      = ⟨BitVec.ofInt 64 (if neg then -((roundAt k.mode neg m e 0).1 : Int) else (roundAt k.mode neg m e 0).1),
        (if (if neg then -((roundAt k.mode neg m e 0).1 : Int) else (roundAt k.mode neg m e 0).1) < -2 ^ 63
          ∨ 2 ^ 63 ≤ (if neg then -((roundAt k.mode neg m e 0).1 : Int) else (roundAt k.mode neg m e 0).1) then 0x20 else 0)
          ||| (if (roundAt k.mode neg m e 0).2 && !Fmt.vax src then 0x10 else 0), 0⟩ := by
  simp only [← overflows64_iff]
  exact op1_of_value hvalid hv nofun _

theorem convertToQ_of_special (h : isNan b = true ∨ isInf b = true) : convertToQ .t k b = ⟨0, 1, 0⟩ := by
  cases ieeeKind (.inr rfl) k.dnz (r := b) rfl with
  | nan _ _ hv | inf _ _ hv => exact op1_of_value rfl hv nofun _
  | num hnan hinf => simp [hnan, hinf] at h

/-- A finite value of S is a value of T, exactly (R636). -/
theorem round_t_of_s {r : Word} {neg : Bool} {m : Nat} {e : Int} (hvalid : Fmt.valid .s r = true)
    (hv : Fmt.value .s false r = .num neg m e) (hm : m ≠ 0) :
    ∃ n q, Fmt.round .t k neg m e = ⟨Fmt.packNormal .t neg n q, 0, 0⟩ ∧ Fmt.Holds .t (Fmt.packNormal .t neg n q) neg n q
      ∧ exactValue neg n q = exactValue neg m e := by
  have hrange : m < 2 ^ 24 ∧ -149 ≤ e ∧ e ≤ 104 := by
    cases (reads_of_value hvalid hv).1 with
    | normal h =>
      obtain ⟨hle, hlt, hmin, hmax⟩ := h
      simp only [Fmt.prec, Fmt.eMin, Fmt.eMax] at hlt hmin hmax
      omega
    | tiny h hlt hunit =>
      simp only [Fmt.prec, Fmt.eMin] at hlt hunit
      omega
    | vaxZero h => cases h
  obtain ⟨hbits, hmin, hmax⟩ := hrange
  have hlog : Nat.log2 m < 24 := (Nat.log2_lt hm).2 hbits
  have hfree := roundFree_of_short .t k.mode neg (m := m) (j := 52 - Nat.log2 m) e (by simp only [Fmt.prec]; omega)
  obtain ⟨n, q, hfree', hfull, -, -⟩ := roundFree_spec .t k.mode neg hm e
  obtain ⟨rfl, rfl, -⟩ : m * 2 ^ (52 - Nat.log2 m) = n ∧ e - (52 - Nat.log2 m : Nat) = q ∧ _ := by
    simpa [Prod.ext_iff] using hfree.symm.trans hfree'
  have hlo : Fmt.eMin .t ≤ e - (52 - Nat.log2 m : Nat) + Fmt.prec .t - 1 := by simp only [Fmt.eMin, Fmt.prec]; omega
  have hhi : e - (52 - Nat.log2 m : Nat) + Fmt.prec .t - 1 ≤ Fmt.eMax .t := by simp only [Fmt.eMax, Fmt.prec]; omega
  refine ⟨_, _, round_of_normal hm hfree hhi hlo, holds_packNormal ⟨hfull.1, hfull.2, hlo, hhi⟩ neg, ?_⟩
  rw [exactValue_shift, sub_add_cancel]

/-- With FPCR.DNZ a denormal is a zero of its sign, anything else what it is without (R609). -/
theorem value_s_dnz (dnz : Bool) (r : Word) : Fmt.value .s dnz r
    = if dnz && r.extractLsb' 52 11 == 0 then .num (fpSign r) 0 (-149) else Fmt.value .s false r := by
  have hzero : (r.extractLsb' 52 11 == 0) = decide (fpExp r = 0) := by
    rw [fpExp, Bool.eq_iff_iff, beq_iff_eq, decide_eq_true_eq, ← BitVec.toNat_inj]
    rfl
  rw [hzero]
  by_cases hmin : fpExp r = 0 <;> cases dnz <;> simp [Fmt.value, hmin]

/-- CVTST of a finite operand: a finite register of T with the same value and sign, a denormal being a zero with FPCR.DNZ. -/
theorem convert_st_of_finite (hvalid : Fmt.valid .s b = true) (hnan : isNan b = false) (hinf : isInf b = false) :
    (convert .s .t k b).conds = 0 ∧ (convert .s .t k b).always = 0
      ∧ (convert .s .t k b).bits.extractLsb' 52 11 ≠ 0x7FF ∧ (convert .s .t k b).bits.getLsbD 63 = b.getLsbD 63
      ∧ regValue .t (convert .s .t k b).bits = (if k.dnz && b.extractLsb' 52 11 == 0 then 0 else regValue .s b) := by
  have hzero (e : Int) : (Fmt.round .t k (fpSign b) 0 e).conds = 0 ∧ (Fmt.round .t k (fpSign b) 0 e).always = 0
      ∧ (Fmt.round .t k (fpSign b) 0 e).bits.extractLsb' 52 11 ≠ 0x7FF
      ∧ (Fmt.round .t k (fpSign b) 0 e).bits.getLsbD 63 = b.getLsbD 63
      ∧ regValue .t (Fmt.round .t k (fpSign b) 0 e).bits = 0 := by
    have hholds := (holds_packTiny (fm := .t) ⟨rfl, Nat.zero_le _⟩ (fpSign b)).holdsValue
    obtain ⟨-, hvalue, hsign, hfinite⟩ := hholds
    exact ⟨rfl, rfl, hfinite rfl, hsign, by rw [← exactValue_zero]; exact hvalue⟩
  cases ieeeKind (.inl rfl) k.dnz hvalid with
  | nan h => exact absurd h (Bool.eq_false_iff.1 hnan)
  | inf _ h => exact absurd h (Bool.eq_false_iff.1 hinf)
  | num _ _ m e hv _ =>
    have hround : convert .s .t k b = Fmt.round .t k (fpSign b) m e := op1_of_value hvalid hv nofun _
    rw [hround]
    rw [value_s_dnz] at hv
    by_cases hdnz : (k.dnz && b.extractLsb' 52 11 == 0) = true
    · rw [if_pos hdnz] at hv
      cases hv
      rw [if_pos hdnz]
      exact hzero _
    · rw [if_neg hdnz] at hv
      rw [if_neg hdnz, regValue_eq hvalid hv]
      by_cases hm : m = 0
      · rw [hm, exactValue_zero]
        exact hzero _
      · obtain ⟨n, q, hbits, hholds, hvalue⟩ := round_t_of_s k hvalid hv hm
        obtain ⟨-, hreg, hsign, hfinite⟩ := hholds.holdsValue
        rw [hbits, ← hvalue]
        exact ⟨rfl, rfl, hfinite rfl, hsign, hreg⟩

end Convert

/-! Special operands of the IEEE arithmetic. -/

theorem fpInf_eq (neg : Bool) : fpInf neg = if neg then 0xFFF0000000000000 else 0x7FF0000000000000 := by
  cases neg <;> decide

theorem invalid_eq {fm : Fmt} (hfm : fm = .s ∨ fm = .t) (k : FpCtl) :
    Fmt.invalid fm k = ⟨if fm = .s then (k.nan >>> 29) <<< 29 else k.nan, 1, 0⟩ := by
  obtain rfl | rfl := hfm <;> rfl

section TwoOperands

variable {fm : Fmt} {k : FpCtl} {a b : Word} {x y : FVal}

theorem op2_of_invalid (h : ¬ Fmt.valid fm a = true ∨ ¬ Fmt.valid fm b = true) (f : FVal → FVal → FpOut) :
    Fmt.op2 fm k a b f = ⟨k.free.invalidResult, k.free.invalidConds, 0⟩ := by
  rw [Fmt.op2, if_pos (by simpa using h)]
  rfl

/-- An operation on valid operands of which neither is reserved. -/
theorem op2_of_values (hva : Fmt.valid fm a = true) (hvb : Fmt.valid fm b = true) (ha : Fmt.value fm k.dnz a = x)
    (hb : Fmt.value fm k.dnz b = y) (hx : x ≠ .reserved) (hy : y ≠ .reserved) (f : FVal → FVal → FpOut) :
    Fmt.op2 fm k a b f = (nanResult k x y).getD (f x y) := by
  rw [Fmt.op2, hva, hvb, Bool.not_true, Bool.or_self, if_neg Bool.false_ne_true, ha, hb]
  exact if_neg (not_or.2 ⟨hx, hy⟩)

variable (hfm : fm = .s ∨ fm = .t) (hva : Fmt.valid fm a = true) (hvb : Fmt.valid fm b = true)

include hfm hva hvb

/-- Of two NaNs the one that the draw names, of one that one, is made quiet (R608). -/
theorem op2_of_nan (h : isNan a = true ∨ isNan b = true) (f : FVal → FVal → FpOut) : Fmt.op2 fm k a b f
    = ⟨(if isNan a = true ∧ isNan b = true then (if k.free.nanFirst then a else b) else if isNan a = true then a else b)
        ||| 0x0008000000000000, if isSignaling a || isSignaling b then 1 else 0, 0⟩ := by
  have hquiet {r : Word} (hr : isNan r = false) : isSignaling r = false := by rw [isSignaling, hr, Bool.false_and]
  cases ieeeKind hfm k.dnz hva with
  | nan hna _ ha =>
    cases ieeeKind hfm k.dnz hvb with
    | nan hnb _ hb =>
      rw [op2_of_values hva hvb ha hb nofun nofun, if_pos ⟨hna, hnb⟩]
      rfl
    | inf hnb _ hb | num hnb _ _ _ hb =>
      rw [op2_of_values hva hvb ha hb nofun nofun, if_neg (by simp [hnb]), if_pos hna, hquiet hnb, Bool.or_false]
      rfl
  | inf hna _ ha | num hna _ _ _ ha =>
    cases ieeeKind hfm k.dnz hvb with
    | nan hnb _ hb =>
      rw [op2_of_values hva hvb ha hb nofun nofun, if_neg (by simp [hna]), if_neg (by simp [hna]), hquiet hna, Bool.false_or]
      rfl
    | inf hnb | num hnb => simp [hna, hnb] at h

/-- Two infinities (R605). -/
theorem op2_of_inf_inf (ha : isInf a = true) (hb : isInf b = true) (f : FVal → FVal → FpOut) :
    Fmt.op2 fm k a b f = f (.inf (fpSign a)) (.inf (fpSign b)) := by
  cases ieeeKind hfm k.dnz hva with
  | nan _ h | num _ h => exact absurd ha (Bool.eq_false_iff.1 h)
  | inf _ _ hx =>
    cases ieeeKind hfm k.dnz hvb with
    | nan _ h | num _ h => exact absurd hb (Bool.eq_false_iff.1 h)
    | inf _ _ hy => exact op2_of_values hva hvb hx hy nofun nofun f

/-- An infinity and a number. -/
theorem op2_of_inf_num (ha : isInf a = true) (hnb : isNan b = false) (hb : isInf b = false) :
    ∃ m e, (m = 0 ↔ ieeeZero k.dnz b) ∧ ∀ f, Fmt.op2 fm k a b f = f (.inf (fpSign a)) (.num (fpSign b) m e) := by
  cases ieeeKind hfm k.dnz hva with
  | nan _ h | num _ h => exact absurd ha (Bool.eq_false_iff.1 h)
  | inf _ _ hx =>
    cases ieeeKind hfm k.dnz hvb with
    | nan h => exact absurd h (Bool.eq_false_iff.1 hnb)
    | inf _ h => exact absurd h (Bool.eq_false_iff.1 hb)
    | num _ _ m e hy hzero => exact ⟨m, e, hzero, op2_of_values hva hvb hx hy nofun nofun⟩

/-- A number and an infinity. -/
theorem op2_of_num_inf (hna : isNan a = false) (ha : isInf a = false) (hb : isInf b = true) :
    ∃ m e, (m = 0 ↔ ieeeZero k.dnz a) ∧ ∀ f, Fmt.op2 fm k a b f = f (.num (fpSign a) m e) (.inf (fpSign b)) := by
  cases ieeeKind hfm k.dnz hvb with
  | nan _ h | num _ h => exact absurd hb (Bool.eq_false_iff.1 h)
  | inf _ _ hy =>
    cases ieeeKind hfm k.dnz hva with
    | nan h => exact absurd h (Bool.eq_false_iff.1 hna)
    | inf _ h => exact absurd h (Bool.eq_false_iff.1 ha)
    | num _ _ m e hx hzero => exact ⟨m, e, hzero, op2_of_values hva hvb hx hy nofun nofun⟩

end TwoOperands

end Sys2Proof.Machine

/-! PROOFS. The statement about the IEEE operates, assembled (43_float.md R602 to R608, R613, R620 to R636). -/

namespace Sys2Proof.Machine

/-- The controls of an IEEE instruction, by the bits of the FPCR and of the qualifier (R604, R608, R609). -/
theorem ieeeCtl_eq (s : State) (q : Qual) : State.ieeeCtl s q =
    { mode := match q.rnd with
        | .chopped => .chop
        | .minus => .minus
        | .normal => .even
        | .dynamic => match s.cpu.fpcr.getLsbD 59, s.cpu.fpcr.getLsbD 58 with
          | false, false => .chop
          | false, true => .minus
          | true, false => .even
          | true, true => .plus
      dnz := s.cpu.fpcr.getLsbD 48
      tinyToZero := s.cpu.fpcr.getLsbD 60 && s.cpu.fpcr.getLsbD 61 && q.trap.bits.getLsbD 2
      nan := s.cfg.defaultNan
      free := ⟨Config.nanFirst s.draws, Config.invalidResult s.draws, Config.invalidConds s.draws,
        Config.vaxUnstated s.draws⟩ } := by
  have hmode : ieeeMode q.rnd s.cpu.fpcr = (match q.rnd with
      | .chopped => .chop
      | .minus => .minus
      | .normal => .even
      | .dynamic => match s.cpu.fpcr.getLsbD 59, s.cpu.fpcr.getLsbD 58 with
        | false, false => .chop
        | false, true => .minus
        | true, false => .even
        | true, true => .plus) := by
    cases q.rnd with
    | dynamic => exact ieeeMode_dynamic _
    | chopped | minus | normal => rfl
  rw [State.ieeeCtl, hmode, trapHasS_eq]
  rfl

section Special

variable {fm : Fmt} (k : FpCtl) {a b : Word} (hfm : fm = .s ∨ fm = .t)

include hfm

/-- A valid operand of S or T (R602). -/
theorem valid_ieee_iff (r : Word) : Fmt.valid fm r = true ↔ fm = .t ∨ r.extractLsb' 0 29 = 0 ∧ (r.extractLsb' 52 11 = 0
    ∨ r.extractLsb' 52 11 = 0x7FF ∨ 0x381 ≤ (r.extractLsb' 52 11).toNat ∧ (r.extractLsb' 52 11).toNat ≤ 0x47E) := by
  obtain rfl | rfl := hfm
  · rw [valid_s_iff]
    simp only [field_eq_iff, fpExp_eq, toNat_field, reduceCtorEq, false_or, pow_zero, Nat.div_one]
    exact Iff.rfl
  · simp [Fmt.valid]

/-- The roots of special operands (R605, R663 to R666). -/
theorem sqrt_special (hb : Fmt.valid fm b = true) :
    (isNan b = true → Fmt.sqrt fm k b = ⟨b ||| 0x0008000000000000, if isSignaling b then 1 else 0, 0⟩)
    ∧ (b = fpInf false → Fmt.sqrt fm k b = ⟨b, 0, 0⟩)
    ∧ (isNan b = false → fpSign b = true → ¬ ieeeZero k.dnz b → Fmt.sqrt fm k b = Fmt.invalid fm k)
    ∧ (ieeeZero k.dnz b → Fmt.sqrt fm k b = ⟨fpZero (fpSign b), 0, 0⟩) := by
  have hvax : Fmt.vax fm = false := by obtain rfl | rfl := hfm <;> rfl
  have hinf0 : isNan (fpInf false) = false ∧ isInf (fpInf false) = true ∧ fpSign (fpInf false) = false := by decide
  cases ieeeKind hfm k.dnz hb with
  | nan h hninf hv =>
    have hnotzero : ¬ ieeeZero k.dnz b := fun hz => by
      rw [ieeeZero_iff] at hz
      rw [isNan_iff] at h
      omega
    refine ⟨fun _ => op1_of_value hb hv nofun _, ?_, fun hno => ?_, fun hz => absurd hz hnotzero⟩
    · rintro rfl
      simp [hinf0] at h
    · simp [h] at hno
  | inf hnan h hv =>
    have hnotzero : ¬ ieeeZero k.dnz b := fun hz => by
      rw [ieeeZero_iff] at hz
      rw [isInf_iff] at h
      omega
    have hroot : Fmt.sqrt fm k b = if fpSign b then Fmt.invalid fm k else .exact (fpInf false) := op1_of_value hb hv nofun _
    refine ⟨fun hyes => by simp [hnan] at hyes, ?_, fun _ hneg _ => by rw [hroot, if_pos hneg], fun hz => absurd hz hnotzero⟩
    rintro rfl
    rw [hroot, hinf0.2.2]
    rfl
  | num hnan hninf m e hv hzero =>
    have hroot : Fmt.sqrt fm k b = if m = 0 then Fmt.round fm k (fpSign b) 0 0
      else if fpSign b then (if Fmt.vax fm then .vaxOpen k Conds.inv else Fmt.invalid fm k) else Fmt.sqrtNum fm k m e :=
      op1_of_value hb hv nofun _
    rw [← hzero]
    refine ⟨fun hyes => by simp [hnan] at hyes, ?_, fun _ hneg hm => ?_, fun hm => ?_⟩
    · rintro rfl
      simp [hinf0] at hninf
    · rw [hroot, if_neg hm, if_pos hneg, hvax]
      rfl
    · rw [hroot, if_pos hm, round_zero, hvax]
      rfl

omit hfm in
/-- An infinity is delivered as it is. -/
theorem exact_of_isInf (ha : isInf a = true) : FpOut.exact (fpInf (fpSign a)) = ⟨a, 0, 0⟩ :=
  congrArg FpOut.exact (eq_fpInf_of_isInf ha).symm

omit hfm in
/-- A zero is finite. -/
theorem finite_of_ieeeZero {dnz : Bool} (hb : ieeeZero dnz b) : isNan b = false ∧ isInf b = false := by
  rw [ieeeZero_iff] at hb
  simp only [Bool.eq_false_iff, ne_eq, isNan_iff, isInf_iff]
  omega

theorem num_of_finite (dnz : Bool) (ha : Fmt.valid fm a = true) (hfin : isNan a = false ∧ isInf a = false) :
    ∃ m e, Fmt.value fm dnz a = .num (fpSign a) m e ∧ (m = 0 ↔ ieeeZero dnz a) := by
  cases ieeeKind hfm dnz ha with
  | nan h => exact absurd h (Bool.eq_false_iff.1 hfin.1)
  | inf _ h => exact absurd h (Bool.eq_false_iff.1 hfin.2)
  | num _ _ m e hv hzero => exact ⟨m, e, hv, hzero⟩

/-- Two infinities (R605). -/
theorem arithmetic_inf_inf (hva : Fmt.valid fm a = true) (hvb : Fmt.valid fm b = true) (ha : isInf a = true) (hb : isInf b = true) :
    Fmt.add fm k a b = (if fpSign a = fpSign b then ⟨a, 0, 0⟩ else Fmt.invalid fm k)
      ∧ Fmt.sub fm k a b = (if fpSign a = fpSign b then Fmt.invalid fm k else ⟨a, 0, 0⟩)
      ∧ Fmt.mul fm k a b = ⟨fpInf (fpSign a != fpSign b), 0, 0⟩ ∧ Fmt.div fm k a b = Fmt.invalid fm k := by
  have hop := op2_of_inf_inf (k := k) hfm hva hvb ha hb
  rw [← exact_of_isInf ha]
  refine ⟨hop _, (hop _).trans ?_, hop _, hop _⟩
  cases fpSign a <;> cases fpSign b <;> rfl

/-- An infinity and a number (R605). -/
theorem arithmetic_inf_num (hva : Fmt.valid fm a = true) (hvb : Fmt.valid fm b = true) (ha : isInf a = true)
    (hb : isNan b = false ∧ isInf b = false) :
    Fmt.add fm k a b = ⟨a, 0, 0⟩ ∧ Fmt.sub fm k a b = ⟨a, 0, 0⟩ ∧ Fmt.div fm k a b = ⟨fpInf (fpSign a != fpSign b), 0, 0⟩
      ∧ (ieeeZero k.dnz b → Fmt.mul fm k a b = Fmt.invalid fm k)
      ∧ (¬ ieeeZero k.dnz b → Fmt.mul fm k a b = ⟨fpInf (fpSign a != fpSign b), 0, 0⟩) := by
  obtain ⟨m, e, hzero, hop⟩ := op2_of_inf_num (k := k) hfm hva hvb ha hb.1 hb.2
  rw [← exact_of_isInf ha, ← hzero]
  exact ⟨hop _, hop _, hop _, fun hm => (hop _).trans (if_pos hm), fun hm => (hop _).trans (if_neg hm)⟩

/-- A number and an infinity (R605). -/
theorem arithmetic_num_inf (hva : Fmt.valid fm a = true) (hvb : Fmt.valid fm b = true) (ha : isNan a = false ∧ isInf a = false)
    (hb : isInf b = true) :
    Fmt.add fm k a b = ⟨b, 0, 0⟩ ∧ Fmt.sub fm k a b = ⟨fpInf (!fpSign b), 0, 0⟩
      ∧ Fmt.div fm k a b = ⟨fpZero (fpSign a != fpSign b), 0, 0⟩
      ∧ (ieeeZero k.dnz a → Fmt.mul fm k a b = Fmt.invalid fm k)
      ∧ (¬ ieeeZero k.dnz a → Fmt.mul fm k a b = ⟨fpInf (fpSign a != fpSign b), 0, 0⟩) := by
  obtain ⟨m, e, hzero, hop⟩ := op2_of_num_inf (k := k) hfm hva hvb ha.1 ha.2 hb
  rw [← exact_of_isInf hb, ← hzero]
  exact ⟨hop _, hop _, hop _, fun hm => (hop _).trans (if_pos hm), fun hm => (hop _).trans (if_neg hm)⟩

/-- A division by zero (R605, R607). -/
theorem div_by_zero (hva : Fmt.valid fm a = true) (hvb : Fmt.valid fm b = true) (ha : isNan a = false ∧ isInf a = false)
    (hb : ieeeZero k.dnz b) : (ieeeZero k.dnz a → Fmt.div fm k a b = Fmt.invalid fm k)
      ∧ (¬ ieeeZero k.dnz a → Fmt.div fm k a b = ⟨fpInf (fpSign a != fpSign b), 2, 0⟩) := by
  have hvax : Fmt.vax fm = false := by obtain rfl | rfl := hfm <;> rfl
  obtain ⟨ma, ea, hx, hzeroa⟩ := num_of_finite hfm k.dnz hva ha
  obtain ⟨mb, eb, hy, hzerob⟩ := num_of_finite hfm k.dnz hvb (finite_of_ieeeZero hb)
  have hdiv : Fmt.div fm k a b = if ma = 0 then (if Fmt.vax fm then .vaxOpen k Conds.inv else Fmt.invalid fm k)
      else (if Fmt.vax fm then .vaxOpen k Conds.dze else .raising (fpInf (fpSign a != fpSign b)) Conds.dze) :=
    (op2_of_num hva hvb hx hy _).trans (if_pos (hzerob.2 hb))
  rw [hvax, if_neg Bool.false_ne_true, if_neg Bool.false_ne_true] at hdiv
  rw [hdiv, ← hzeroa]
  exact ⟨fun hm => if_pos hm, fun hm => if_neg hm⟩

end Special

/-- Settles O42: every instruction by its template, the compares by the order of the values, the conversions by the kind of their
operand, the arithmetic by the kinds of both. -/
theorem ieeeOperates : Obligations.IeeeOperates := by
  refine ⟨fun s q fa fb fc sw hfen => ?_, ?_⟩
  · intro a b f ctl k done denormalIsZero v nan signaling anyNan truth quiet bSignaling
    have hk : State.ieeeCtl s q = k := ieeeCtl_eq s q
    have hop2 (op : FpCtl → Word → Word → FpOut) : completesFp s fc (ieeeOp2 op q fa fb fc s) q.trap (op k a b) :=
      hk ▸ completesFp_ieeeOp2 hfen q fa fb fc op
    have hop1 (op : FpCtl → Word → FpOut) : completesFp s fc (ieeeOp1 op q fb fc s) q.trap (op k b) :=
      hk ▸ completesFp_ieeeOp1 hfen q fb fc op
    refine ⟨hk, hop2 _, hop2 _, hop2 _, hop2 _, hop2 _, hop2 _, hop2 _, hop2 _, ?_, ?_, ?_, ?_,
      ⟨_, hop1 _, (convert_special k b (.inr rfl) .s rfl).1, (convert_special k b (.inr rfl) .s rfl).2,
        fun neg m e hv => op1_of_num rfl hv _⟩, ⟨_, hop1 _, convertToQ_of_special k b, fun neg m e hv => ?_⟩, hop1 _, hop1 _,
      ⟨_, completesFp_ieeeOp1 hfen _ fb fc (convert .s .t), fun h => ?_, fun h => ⟨?_, ?_, ?_⟩⟩⟩
    · have h := hop2 (compareT (fun o => o == none) true)
      rw [cmptun_eq] at h
      exact h
    · have h := hop2 (compareT (fun o => o == some .eq) true)
      rw [cmpteq_eq] at h
      exact h
    · have h := hop2 (compareT (fun o => o == some .lt) false)
      rw [cmptlt_eq] at h
      exact h
    · have h := hop2 (compareT (fun o => o == some .lt || o == some .eq) false)
      rw [cmptle_eq] at h
      exact h
    · have h := convertToQ_of_num k b rfl hv
      rw [show Fmt.vax .t = false from rfl, Bool.not_false, Bool.and_true] at h
      exact h
    · exact op1_of_invalid (Bool.eq_false_iff.1 h) _
    · exact (convert_special _ b (.inl rfl) .t h).1
    · exact (convert_special _ b (.inl rfl) .t h).2
    · exact convert_st_of_finite _ b h
  · intro fm k a b hfm valid zero na nb finite infinity invalid drawn quiet all
    have hinfinity (neg : Bool) : fpInf neg = infinity neg := fpInf_eq neg
    have hinvalid : Fmt.invalid fm k = invalid := invalid_eq hfm k
    have hvalid (r : Word) : Fmt.valid fm r = true ↔ valid r := valid_ieee_iff hfm r
    have hall {out : FpOut} (h : ∀ f, Fmt.op2 fm k a b f = out) : all out := ⟨h _, h _, h _, h _⟩
    rw [← hvalid a, ← hvalid b]
    refine ⟨hvalid, fun h => hall (op2_of_invalid h), fun h => op1_of_invalid h _, fun hb => ?_, fun ha hb => ⟨?_, ?_, ?_, ?_, ?_⟩⟩
    · obtain ⟨hnan, hinf, hneg, hzero⟩ := sqrt_special k hfm hb
      rw [hinfinity] at hinf
      rw [hinvalid] at hneg
      exact ⟨hnan, hinf, hneg, fun h => (hzero h).trans (congrArg FpOut.exact (fpZero_eq _))⟩
    · exact fun h => hall (op2_of_nan hfm ha hb h)
    · intro hia hib
      have h := arithmetic_inf_inf k hfm ha hb hia hib
      rw [hinfinity, hinvalid] at h
      exact h
    · intro hia hfb
      have h := arithmetic_inf_num k hfm ha hb hia hfb
      rw [hinfinity, hinvalid] at h
      exact h
    · intro hfa hib
      have h := arithmetic_num_inf k hfm ha hb hfa hib
      rw [hinfinity, hinfinity, hinvalid, fpZero_eq] at h
      exact h
    · intro hfa hzb
      have h := div_by_zero k hfm ha hb hfa hzb
      rw [hinfinity, hinvalid] at h
      exact h

end Sys2Proof.Machine

/-! PROOFS. The VAX operates, the square roots and CVTQL (43_float.md R603, R607, R610, R612, R613, R640 to R656, R663 to R666, R671). -/

namespace Sys2Proof.Machine

/-! The kinds of VAX operands. -/

/-- A VAX reserved operand: the sign with exponent 0 (R603). -/
def vaxReservedOperand (fm : Fmt) (r : Word) : Prop :=
  r.getLsbD 63 = true ∧ (if fm = .d then r.extractLsb' 55 8 = 0 else r.extractLsb' 52 11 = 0)

/-- A VAX zero: exponent 0 without the sign, whatever the fraction (R603). -/
def vaxZero (fm : Fmt) (r : Word) : Prop :=
  r.getLsbD 63 = false ∧ (if fm = .d then r.extractLsb' 55 8 = 0 else r.extractLsb' 52 11 = 0)

/-- What an operand of F, G or D is. -/
inductive VaxKind (fm : Fmt) (dnz : Bool) (r : Word) : Prop
  | reserved (h : vaxReservedOperand fm r) (value : Fmt.value fm dnz r = .reserved)
  | num (h : ¬ vaxReservedOperand fm r) (neg : Bool) (m : Nat) (e : Int) (value : Fmt.value fm dnz r = .num neg m e)
    (zero : m = 0 ↔ vaxZero fm r) (sign : m ≠ 0 → neg = fpSign r)

theorem vaxKind {fm : Fmt} (hfm : Fmt.vax fm = true) (dnz : Bool) (r : Word) : VaxKind fm dnz r := by
  have hcases : ∃ p : Prop, (vaxReservedOperand fm r ↔ fpSign r = true ∧ p) ∧ (vaxZero fm r ↔ fpSign r = false ∧ p)
      ∧ (p → Fmt.value fm dnz r = if fpSign r then .reserved else .num false 0 0)
      ∧ (¬ p → ∃ m e, m ≠ 0 ∧ Fmt.value fm dnz r = .num (fpSign r) m e) := by
    have hzero (n : Nat) (v : BitVec n) : v = 0 ↔ v.toNat = 0 := BitVec.toNat_inj.symm
    cases fm with
    | s | t => cases hfm
    | f | g =>
      refine ⟨fpExp r = 0, and_congr_right fun _ => hzero _ _, and_congr_right fun _ => hzero _ _, fun h => if_pos h,
        fun h => ⟨_, _, ?_, if_neg h⟩⟩
      omega
    | d =>
      refine ⟨dExp r = 0, and_congr_right fun _ => hzero _ _, and_congr_right fun _ => hzero _ _, fun h => if_pos h,
        fun h => ⟨_, _, ?_, if_neg h⟩⟩
      omega
  obtain ⟨p, hreserved, hzero, hmin, hnormal⟩ := hcases
  by_cases hp : p
  · have hv := hmin hp
    cases hs : fpSign r with
    | true =>
      rw [hs, if_pos rfl] at hv
      exact .reserved (hreserved.2 ⟨hs, hp⟩) hv
    | false =>
      rw [hs, if_neg Bool.false_ne_true] at hv
      exact .num (fun h => by simp [hreserved, hs] at h) false 0 0 hv (iff_of_true rfl (hzero.2 ⟨hs, hp⟩)) (fun h => absurd rfl h)
  · obtain ⟨m, e, hm, hv⟩ := hnormal hp
    exact .num (fun h => hp (hreserved.1 h).2) _ m e hv (iff_of_false hm fun h => hp (hzero.1 h).2) (fun _ => rfl)

section Reserved

variable {fm : Fmt} {k : FpCtl} {a b : Word}

theorem op1_of_reserved (hvax : Fmt.vax fm = true) (hvb : Fmt.valid fm b = true) (h : vaxReservedOperand fm b) (f : FVal → FpOut) :
    Fmt.op1 fm k b f = ⟨k.free.vaxUnstated, 1, 1⟩ := by
  cases vaxKind hvax k.dnz b with
  | num hno => exact absurd h hno
  | reserved _ hv =>
    rw [Fmt.op1, hvb, Bool.not_true, if_neg Bool.false_ne_true, hv]
    exact if_pos rfl

theorem op2_of_reserved (hvax : Fmt.vax fm = true) (hva : Fmt.valid fm a = true) (hvb : Fmt.valid fm b = true)
    (h : vaxReservedOperand fm a ∨ vaxReservedOperand fm b) (f : FVal → FVal → FpOut) :
    Fmt.op2 fm k a b f = ⟨k.free.vaxUnstated, 1, 1⟩ := by
  have hvalue : Fmt.value fm k.dnz a = .reserved ∨ Fmt.value fm k.dnz b = .reserved := by
    refine h.imp (fun h => ?_) fun h => ?_
    · cases vaxKind hvax k.dnz a with
      | num hno => exact absurd h hno
      | reserved _ hv => exact hv
    · cases vaxKind hvax k.dnz b with
      | num hno => exact absurd h hno
      | reserved _ hv => exact hv
  rw [Fmt.op2, hva, hvb, Bool.not_true, Bool.or_self, if_neg Bool.false_ne_true]
  exact if_pos hvalue

end Reserved

/-! The operations. -/

theorem vaxCtl_eq (s : State) (q : Qual) : State.vaxCtl s q =
    { mode := if q.rnd = .chopped then .chop else .away
      dnz := false
      tinyToZero := false
      nan := s.cfg.defaultNan
      free := ⟨Config.nanFirst s.draws, Config.invalidResult s.draws, Config.invalidConds s.draws,
        Config.vaxUnstated s.draws⟩ } := by
  have hmode : vaxMode q.rnd = if q.rnd = .chopped then .chop else .away := by cases q.rnd <;> rfl
  rw [State.vaxCtl, hmode]
  rfl

/-- The VAX compares (R648 to R650). -/
theorem compareG_eq (k : FpCtl) {a b : Word} {test : Ordering → Bool} {rel : ℚ → ℚ → Bool}
    (htest : ∀ x y, test (compare x y) = rel x y) :
    (vaxReservedOperand .g a ∨ vaxReservedOperand .g b → compareG test k a b = ⟨k.free.vaxUnstated, 1, 1⟩)
    ∧ (¬ vaxReservedOperand .g a → ¬ vaxReservedOperand .g b →
      compareG test k a b = ⟨if rel (regValue .g a) (regValue .g b) then 0x4000000000000000 else 0, 0, 0⟩) := by
  refine ⟨fun h => op2_of_reserved rfl rfl rfl h _, fun ha hb => ?_⟩
  cases vaxKind (fm := .g) rfl k.dnz a with
  | reserved h => exact absurd h ha
  | num _ na ma ea hx =>
    cases vaxKind (fm := .g) rfl k.dnz b with
    | reserved h => exact absurd h hb
    | num _ nb mb eb hy =>
      have hx' : Fmt.value .g false a = .num na ma ea := hx
      have hy' : Fmt.value .g false b = .num nb mb eb := hy
      rw [compareG, op2_of_num rfl rfl hx hy, FVal.compare, compareNum_eq, ← regValue_eq rfl hx', ← regValue_eq rfl hy', ← htest]
      rfl

/-- CVTQL (R671). -/
theorem quadToLong_eq (v : Word) : quadToLong v = ⟨v.extractLsb' 30 2 ++ (0 : BitVec 3) ++ v.extractLsb' 0 30 ++ (0 : BitVec 29),
    if v.toInt < -2 ^ 31 ∨ 2 ^ 31 ≤ v.toInt then 0x20 else 0, 0⟩ := by
  simp only [← overflows32_iff]
  rfl

/-! Special operands of F and G. -/

section Special

variable {fm : Fmt} (k : FpCtl) {a b : Word} (hfm : fm = .f ∨ fm = .g)

include hfm

theorem valid_vax_iff (r : Word) : Fmt.valid fm r = true ↔ fm = .g ∨ r.extractLsb' 0 29 = 0 ∧ (r.extractLsb' 52 11 = 0
    ∨ 897 ≤ (r.extractLsb' 52 11).toNat ∧ (r.extractLsb' 52 11).toNat ≤ 1151) := by
  obtain rfl | rfl := hfm
  · rw [valid_f_iff]
    simp only [field_eq_iff, fpExp_eq, toNat_field, reduceCtorEq, false_or, pow_zero, Nat.div_one]
    exact Iff.rfl
  · simp [Fmt.valid]

/-- The roots of special operands (R605, R610, R663, R664). -/
theorem sqrt_special_vax (hb : Fmt.valid fm b = true) :
    (vaxReservedOperand fm b → Fmt.sqrt fm k b = ⟨k.free.vaxUnstated, 1, 1⟩)
    ∧ (vaxZero fm b → Fmt.sqrt fm k b = ⟨0, 0, 0⟩)
    ∧ (fpSign b = true → ¬ vaxReservedOperand fm b → Fmt.sqrt fm k b = ⟨k.free.vaxUnstated, 1, 0⟩) := by
  have hvax : Fmt.vax fm = true := by obtain rfl | rfl := hfm <;> rfl
  refine ⟨fun h => op1_of_reserved hvax hb h _, ?_⟩
  cases vaxKind hvax k.dnz b with
  | reserved h => exact ⟨fun hz => absurd (h.1.symm.trans hz.1) Bool.noConfusion, fun _ hno => absurd h hno⟩
  | num _ neg m e hv hzero hsign =>
    have hroot : Fmt.sqrt fm k b = if m = 0 then Fmt.round fm k neg 0 0
      else if neg then (if Fmt.vax fm then .vaxOpen k Conds.inv else Fmt.invalid fm k) else Fmt.sqrtNum fm k m e :=
      op1_of_value hb hv nofun _
    refine ⟨fun hz => ?_, fun hneg _ => ?_⟩
    · rw [hroot, if_pos (hzero.2 hz), round_zero, if_pos hvax]
      rfl
    · have hm : m ≠ 0 := fun h => by
        have hpos := (hzero.1 h).1
        rw [← fpSign, hneg] at hpos
        cases hpos
      rw [hroot, if_neg hm, hsign hm, if_pos hneg, if_pos hvax]
      rfl

/-- A division by zero (R605; log 11). -/
theorem div_by_zero_vax (hva : Fmt.valid fm a = true) (hvb : Fmt.valid fm b = true) (ha : ¬ vaxReservedOperand fm a)
    (hb : vaxZero fm b) : (vaxZero fm a → Fmt.div fm k a b = ⟨k.free.vaxUnstated, 1, 0⟩)
      ∧ (¬ vaxZero fm a → Fmt.div fm k a b = ⟨k.free.vaxUnstated, 2, 0⟩) := by
  have hvax : Fmt.vax fm = true := by obtain rfl | rfl := hfm <;> rfl
  cases vaxKind hvax k.dnz a with
  | reserved h => exact absurd h ha
  | num _ na ma ea hx hzeroa =>
    cases vaxKind hvax k.dnz b with
    | reserved h => exact absurd (h.1.symm.trans hb.1) Bool.noConfusion
    | num _ nb mb eb hy hzerob =>
      have hdiv : Fmt.div fm k a b = if ma = 0 then (if Fmt.vax fm then .vaxOpen k Conds.inv else Fmt.invalid fm k)
          else (if Fmt.vax fm then .vaxOpen k Conds.dze else .raising (fpInf (na != nb)) Conds.dze) :=
        (op2_of_num hva hvb hx hy _).trans (if_pos (hzerob.2 hb))
      rw [if_pos hvax, if_pos hvax] at hdiv
      rw [hdiv, ← hzeroa]
      exact ⟨fun hm => if_pos hm, fun hm => if_neg hm⟩

end Special

/-- Settles O43, by the template `completesFp` for each instruction, the value of its operands for each result, and the
kinds of VAX operand (`vaxKind`) for the special cases. -/
theorem vaxOperatesAndRoots : Obligations.VaxOperatesAndRoots := by
  refine ⟨fun s q tr fa fb fc hfen => ?_, fun fm k a b hfm => ?_⟩
  · intro a b free k done reserved stops compares converts
    have hk : State.vaxCtl s q = k := vaxCtl_eq s q
    have hop2 (op : FpCtl → Word → Word → FpOut) : completesFp s fc (vaxOp2 op q fa fb fc s) q.trap (op k a b) :=
      hk ▸ completesFp_vaxOp2 hfen q fa fb fc op
    have hop1 (op : FpCtl → Word → FpOut) : completesFp s fc (vaxOp1 op q fb fc s) q.trap (op k b) :=
      hk ▸ completesFp_vaxOp1 hfen q fb fc op
    have hcompare {i : Instr} {test : Ordering → Bool} {rel : ℚ → ℚ → Bool}
        (hi : exec i s = vaxOp2 (compareG test) q fa fb fc s) (htest : ∀ x y, test (compare x y) = rel x y) : compares i rel := by
      obtain ⟨hstop, hgo⟩ := compareG_eq k (a := a) (b := b) htest
      have h := hop2 (compareG test)
      rw [← hi] at h
      refine ⟨fun hr => ?_, fun ha hb => ?_⟩
      · rw [hstop hr] at h
        exact h
      · rw [hgo ha hb] at h
        exact h
    have heq := hcompare (i := .cmpgeq q fa fb fc) rfl beq_eq_of_compare
    have hlt := hcompare (i := .cmpglt q fa fb fc) rfl beq_lt_of_compare
    have hle := hcompare (i := .cmpgle q fa fb fc) rfl bne_gt_of_compare
    have hconvert {i : Instr} {src dst : Fmt} (hi : exec i s = vaxOp1 (convert src dst) q fb fc s) (hsrc : src = .g ∨ src = .d) :
        converts i src dst := by
      have hvax : Fmt.vax src = true := by obtain rfl | rfl := hsrc <;> rfl
      have hvalid : Fmt.valid src b = true := by obtain rfl | rfl := hsrc <;> rfl
      have h := hop1 (convert src dst)
      rw [← hi] at h
      refine ⟨fun hr => ?_, fun neg m e hv => ?_⟩
      · rw [convert, op1_of_reserved hvax hvalid hr] at h
        exact h
      · rw [convert, op1_of_num hvalid hv] at h
        exact h
    refine ⟨hop2 _, hop2 _, hop2 _, hop2 _, hop2 _, hop2 _, hop2 _, hop2 _, heq, hlt, hle,
      hconvert rfl (.inl rfl), hconvert rfl (.inl rfl), hconvert rfl (.inr rfl),
      fun hr => ?_, fun neg m e hv => ?_, hop1 _, hop1 _, fun hfix => ?_, ?_⟩
    · have h := hop1 (convertToQ .g)
      rw [convertToQ, op1_of_reserved rfl rfl hr] at h
      exact h
    · have h := hop1 (convertToQ .g)
      rw [convertToQ_of_num k b rfl hv, show Fmt.vax .g = true from rfl, Bool.not_true, Bool.and_false,
        if_neg Bool.false_ne_true, show ∀ c : Conds, c ||| 0 = c from fun _ => BitVec.or_zero] at h
      exact h
    · have hroot {o : Outcome} {tr : Trap} {out : FpOut} (h : completesFp s fc o tr out) :
          completesFp s fc (needExt .fix s o) tr out := by rwa [needExt_pos hfix]
      exact ⟨hroot (hop1 _), hroot (hop1 _), hroot (completesFp_ieeeOp1 hfen q fb fc _),
        hroot (completesFp_ieeeOp1 hfen q fb fc _)⟩
    · have h : completesFp s fc (exec (.cvtql tr fb fc) s) tr (quadToLong b) := completesFp_needFen hfen fc tr _
      rw [quadToLong_eq] at h
      exact h
  · intro valid reserved zero drawn open_ all
    have hvalid (r : Word) : Fmt.valid fm r = true ↔ valid r := valid_vax_iff hfm r
    have hvax : Fmt.vax fm = true := by obtain rfl | rfl := hfm <;> rfl
    have hreserved (r : Word) : vaxReservedOperand fm r ↔ reserved r := by obtain rfl | rfl := hfm <;> exact Iff.rfl
    have hzero (r : Word) : vaxZero fm r ↔ zero r := by obtain rfl | rfl := hfm <;> exact Iff.rfl
    have hall {out : FpOut} (h : ∀ f, Fmt.op2 fm k a b f = out) : all out := ⟨h _, h _, h _, h _⟩
    rw [← hvalid a, ← hvalid b, ← hreserved a, ← hreserved b, ← hzero a, ← hzero b]
    refine ⟨hvalid, fun h => hall (op2_of_invalid h), fun h => op1_of_invalid h _, sqrt_special_vax k hfm,
      fun ha hb => ⟨fun h => hall (op2_of_reserved hvax ha hb h), fun hra hzb => div_by_zero_vax k hfm ha hb hra hzb⟩⟩

end Sys2Proof.Machine

/-! PROOFS. Entering and leaving PAL mode, and CALL_PAL (44_misc_pal.md R720 to R724, R751, R760; 60_exceptions.md R830). -/

namespace Sys2Proof.Machine

/-- The state of a PAL entry (60_exceptions.md R830) that an instruction of `s` made: PS is saved and PALM set in it, the
reservation is lost, the store buffer has drained, and EXC_ADDR holds the instruction's own pc or the next one. -/
structure PalEntered (s t : State) : Prop where
  excPs : t.cpu.excPs = s.cpu.ps
  ps : t.cpu.ps = s.cpu.ps ||| psPalm
  lockFlag : t.cpu.lockFlag = false
  sb : t.cpu.sb = []
  excAddr : t.cpu.excAddr = s.cpu.pc ∨ t.cpu.excAddr = s.cpu.pc + 4

section Entry

variable {s t u : State}

/-- A PAL entry saves PS. -/
theorem excPs_enterPal (s : State) (a b : Word) : (State.enterPal s a b).cpu.excPs = s.cpu.ps := (kept_drainAll s).ps

/-- A PAL entry sets PALM. -/
theorem ps_enterPal (s : State) (a b : Word) : (State.enterPal s a b).cpu.ps = s.cpu.ps ||| psPalm :=
  congrArg (fun c => c.ps) (core_enterPal s a b)

/-- A PAL entry after changes that left PS alone. -/
theorem palEntered_enterPal {saved : Word} (hps : u.cpu.ps = s.cpu.ps) (hpc : saved = s.cpu.pc ∨ saved = s.cpu.pc + 4)
    (target : Word) : PalEntered s (State.enterPal u saved target) where
  excPs := (excPs_enterPal u saved target).trans hps
  ps := (ps_enterPal u saved target).trans (by rw [hps])
  lockFlag := lockFlag_enterPal u saved target
  sb := sb_enterPal u saved target
  excAddr := hpc

/-- The entry of an exception class after changes that left PS and the pc alone. -/
theorem palEntered_enterExc (hps : u.cpu.ps = s.cpu.ps) (hpc : u.cpu.pc = s.cpu.pc) (c : ExcClass) :
    PalEntered s (State.enterExc u c) := palEntered_enterPal hps (.inl hpc) _

theorem palEntered_deliverArith (s : State) : PalEntered s (State.deliverArith s) := by
  unfold State.deliverArith
  apply palEntered_enterExc <;> rfl

/-- An entry after changes of the memory system. -/
theorem PalEntered.of_kept (hk : Kept s u) (h : PalEntered u t) : PalEntered s t where
  excPs := h.excPs.trans hk.ps
  ps := h.ps.trans (by rw [hk.ps])
  lockFlag := h.lockFlag
  sb := h.sb
  excAddr := hk.pc ▸ h.excAddr

/-- A taken exception enters PAL, or halts the CPU with PS as it was. -/
theorem palEntered_or_ps_of_took (h : Took s t) : PalEntered s t ∨ t.cpu.ps = s.cpu.ps := by
  cases h with
  | arith => exact .inl (palEntered_deliverArith s)
  | halt => exact .inr rfl
  | mchk | fault | enter =>
    left
    apply palEntered_enterExc <;> rfl

end Entry

/-! PS and the processor registers. -/

/-- PS is the register of index 0 (10_state.md R67). -/
theorem index_eq_zero_of_ofIndex_ps {index : BitVec 16} (h : Ipr.ofIndex index = some .ps) : index = 0 := by
  unfold Ipr.ofIndex at h
  split at h
  case h_1 hindex => exact BitVec.eq_of_toNat_eq hindex
  all_goals cases h

/-- The write of any other processor register leaves PS alone (44_misc_pal.md R751). -/
theorem ps_writeIpr {r : Ipr} (hr : r ≠ .ps) (s : State) (v : Word) : (State.writeIpr s r v).cpu.ps = s.cpu.ps := by
  cases r with
  | ps => exact absurd rfl hr
  | ipir =>
    simp only [State.writeIpr, State.sendIpi, State.mapCpus]
    split <;> rfl
  | tbia | tbiap | tbis | tbisi | tbisd | tbiar =>
    obtain ⟨b, d, h⟩ := tbi_eq s.cpu _
    exact (congrArg Cpu.ps h :)
  | palBase =>
    simp only [State.writeIpr]
    split <;> rfl
  | _ => rfl

/-- The instructions that restore or write PS (44_misc_pal.md R751, R760). -/
def writesPs (i : Instr) : Prop := i = .hwRei ∨ ∃ ra, i = .hwMtpr ra 0

/-- WHAT AN INSTRUCTION CAN DO TO PS: set PALM by a PAL entry, nothing, or anything by one of the two that write PS in PAL mode. -/
theorem ps_of_did {i : Instr} {s t : State} (h : Did i s t) :
    PalEntered s t ∨ t.cpu.ps = s.cpu.ps ∨ State.inPal s = true ∧ writesPs i := by
  cases h with
  | exc hq e =>
    obtain hentered | hps := palEntered_or_ps_of_took (take_took _ e)
    · exact .inl (hentered.of_kept hq.kept)
    · exact .inr (.inl (hps.trans hq.kept.ps))
  | arith => exact .inl (palEntered_deliverArith s)
  | call => exact .inl (palEntered_enterPal rfl (.inr rfl) _)
  | plain hk | intReg hk | fpReg hk => exact .inr (.inl hk.ps)
  | overflow | fpOp | fpTrap | branch | link | jump | mtFpcr | flag => exact .inr (.inl rfl)
  | mtpr ra index hi hp r hr =>
    by_cases hps : r = .ps
    · subst hps
      exact .inr (.inr ⟨hp, .inr ⟨ra, index_eq_zero_of_ofIndex_ps hr ▸ hi⟩⟩)
    · exact .inr (.inl ((ps_writeIpr hps (State.drainAll s) (State.x s ra)).trans (kept_drainAll s).ps))
  | rei hi hp => exact .inr (.inr ⟨hp, .inl hi⟩)

theorem inPal_of_ps {s t : State} (h : t.cpu.ps = s.cpu.ps) : State.inPal t = State.inPal s := congrArg Ps.pal h

/-- PALM is set after a PAL entry. -/
theorem PalEntered.inPal {s t : State} (h : PalEntered s t) : State.inPal t = true := by
  rw [State.inPal, Ps.pal, h.ps, BitVec.getLsbD_or, show psPalm.getLsbD 5 = true from rfl, Bool.or_true]

/-- Settles O12, by the three things an instruction can do to PS (`ps_of_did`). -/
theorem palModeChanges : Obligations.PalModeChanges := by
  intro i s t h
  have hdid := ps_of_did (exec_did h)
  refine ⟨fun hout hin => ?_, fun hin hout => ?_⟩
  · obtain hentered | hps | ⟨hpal, -⟩ := hdid
    · exact ⟨hentered.excPs, hentered.ps, hentered.lockFlag, hentered.sb, hentered.excAddr⟩
    · exact nomatch hin.symm.trans ((inPal_of_ps hps).trans hout)
    · exact nomatch hpal.symm.trans hout
  · obtain hentered | hps | ⟨-, hwrites⟩ := hdid
    · exact nomatch hentered.inPal.symm.trans hout
    · exact nomatch hin.symm.trans ((inPal_of_ps hps).symm.trans hout)
    · exact hwrites

/-! CALL_PAL. -/

/-- The functions that exist (44_misc_pal.md R722). -/
theorem palLegal_iff {fn : BitVec 26} : palLegal fn = true ↔ fn.toNat < 0x40 ∨ (0x80 ≤ fn.toNat ∧ fn.toNat < 0xC0) := by
  rw [palLegal, palPrivileged, Bool.or_eq_true, Bool.and_eq_true, decide_eq_true_iff, decide_eq_true_iff, decide_eq_true_iff,
    Nat.lt_succ_iff (n := 0xBF)]

theorem palPrivileged_iff {fn : BitVec 26} : palPrivileged fn = true ↔ fn.toNat < 0x40 := decide_eq_true_iff

/-- Below Kernel: neither PAL mode nor CM = 0 (10_state.md R58). -/
theorem rank_lt_iff {ps : Word} : Ps.rank ps < 3 ↔ Ps.pal ps = false ∧ ps.extractLsb' 3 2 ≠ 0 := by
  have hcm : (Ps.cm ps).toNat < 4 := (Ps.cm ps).isLt
  have hzero : ps.extractLsb' 3 2 ≠ 0 ↔ (Ps.cm ps).toNat ≠ 0 := not_congr BitVec.toNat_inj.symm
  unfold Ps.rank
  rw [hzero]
  split
  next hpal => simp [hpal]
  next hpal =>
    simp only [Bool.not_eq_true] at hpal
    simp only [hpal, true_and]
    omega

/-- Where function `n` is entered, from PAL_BASE (44_misc_pal.md R723). -/
def palCallOffset (scheme : PalScheme) (n : Nat) : Word :=
  match scheme with
  | .linear => 64 * BitVec.ofNat 64 n
  | .openEv6 => (if n < 0x40 then 0x2000 else 0x3000) + 64 * BitVec.ofNat 64 (n % 64)

theorem palEntryCall_eq (scheme : PalScheme) (base : Word) (fn : BitVec 26) :
    palEntryCall scheme base fn = base + palCallOffset scheme fn.toNat := by
  cases scheme with
  | linear => rw [palEntryCall, palCallOffset, BitVec.ofNat_toNat]
  | openEv6 =>
    have hlow : (fn.extractLsb' 0 6).setWidth 64 = BitVec.ofNat 64 (fn.toNat % 64) := by
      simp [← BitVec.toNat_inj]
    simp only [palEntryCall, palCallOffset, palPrivileged_iff, hlow, BitVec.add_assoc]

section CallPal

variable {s : State} {fn : BitVec 26}

theorem execCallPal_of_illegal (h : ¬ palLegal fn = true) : execCallPal fn s = .next (State.take s .opcdec) := by
  rw [execCallPal, Bool.eq_false_iff.2 h]
  rfl

theorem execCallPal_of_privileged (hfn : palPrivileged fn = true) (hlow : Ps.rank s.cpu.ps < 3) :
    execCallPal fn s = .next (State.take s .priv) := by
  rw [execCallPal, palLegal, hfn, decide_eq_true hlow]
  rfl

/-- A legal function that the mode allows. -/
theorem execCallPal_of_allowed (h : palLegal fn = true) (hmode : palPrivileged fn = true → ¬ Ps.rank s.cpu.ps < 3) :
    execCallPal fn s = if s.cpu.pend.valid then .next (State.deliverArith s)
      else .next (State.enterPal s (s.cpu.pc + 4) (palEntryCall s.cfg.palScheme s.cpu.palBase fn)) := by
  have hfalse : ¬ (palPrivileged fn && decide (Ps.rank s.cpu.ps < 3)) = true := fun hboth => by
    rw [Bool.and_eq_true, decide_eq_true_iff] at hboth
    exact hmode hboth.1 hboth.2
  rw [execCallPal, h, if_neg hfalse]
  rfl

end CallPal

/-- Settles O51: the four ways of CALL_PAL, and the PAL entry of the last of them. -/
theorem callPal : Obligations.CallPal := by
  intro s fn n legal low
  have hallowed (hlegal : legal) (hmode : n < 0x40 → ¬ low) := execCallPal_of_allowed (s := s) (palLegal_iff.2 hlegal)
    fun hfn hrank => hmode (palPrivileged_iff.1 hfn) (rank_lt_iff.1 hrank)
  refine ⟨fun h => execCallPal_of_illegal fun hl => h (palLegal_iff.1 hl),
    fun hfn hlow => execCallPal_of_privileged (palPrivileged_iff.2 hfn) (rank_lt_iff.2 hlow),
    fun hlegal hmode hpend => (hallowed hlegal hmode).trans (if_pos hpend),
    fun hlegal hmode hpend hm => ⟨_, (hallowed hlegal hmode).trans (if_neg (Bool.eq_false_iff.1 hpend)),
      palEntryCall_eq s.cfg.palScheme s.cpu.palBase fn, lockFlag_enterPal s _ _, sb_enterPal s _ _,
      sameBytes_enterPal s _ _ hm, kept_enterPal s _ _⟩⟩

end Sys2Proof.Machine

/-! PROOFS. The miscellaneous instructions, and that only two instructions are refused (44_misc_pal.md R700 to R711). -/

namespace Sys2Proof.Machine

/-! TRAPB, EXCB, the hints, RPCC, RC and RS. -/

theorem trapBarrier_of_pend {s : State} (h : s.cpu.pend.valid = true) : trapBarrier s = State.deliverArith s := if_pos h

theorem trapBarrier_of_no_pend {s : State} (h : s.cpu.pend.valid = false) : trapBarrier s = State.advance s :=
  if_neg (Bool.eq_false_iff.1 h)

theorem ofBool_eq (b : Bool) : ofBool b = if b then 1 else 0 := by cases b <;> rfl

/-- RC and RS write the flag that was, then the flag is `b`. -/
theorem flag_finishX (s : State) (ra : Reg) (b : Bool) :
    let u : State := { s with cpu := { s.cpu with intrFlag := b } }
    let t := State.finishX u ra (ofBool s.cpu.intrFlag)
    wroteX s t ra (if s.cpu.intrFlag then 1 else 0) ∧ t.cpu.intrFlag = b ∧ t.cpu.pc = s.cpu.pc + 4 ∧ onlyX u t := by
  intro u t
  have hwrote : wroteX u t ra (ofBool s.cpu.intrFlag) := wroteX_finishX u ra _
  rw [ofBool_eq] at hwrote
  exact ⟨hwrote, rfl, rfl, rfl, sameBytes_of_eq rfl rfl⟩

/-- Settles O49, by what each of the ten instructions does. -/
theorem miscInstructions : Obligations.MiscInstructions := by
  intro s ra rb skip flag
  have htrapb : exec (.trapb ra rb) s = .next (trapBarrier s) := rfl
  have hexcb : exec (.excb ra rb) s = .next (trapBarrier s) := rfl
  refine ⟨fun h => ?_, fun h => ?_, rfl, rfl, rfl, yieldsX_finishX s ra s.cpu.cc,
    ⟨_, rfl, flag_finishX s ra false⟩, ⟨_, rfl, flag_finishX s ra true⟩⟩
  · rw [htrapb, hexcb, trapBarrier_of_no_pend h]
    exact ⟨rfl, rfl⟩
  · rw [htrapb, hexcb, trapBarrier_of_pend h]
    exact ⟨rfl, rfl⟩

/-! Which instructions answer a next state. -/

/-- The instruction answers a next state: it is neither refused nor a fault of the model. -/
def completes (o : Outcome) : Prop := ∃ t, o = .next t

section Completes

variable {s : State} {k : Outcome}

theorem completes_next (t : State) : completes (.next t) := ⟨t, rfl⟩

/-- An exception is a next state too. -/
theorem completes_run (r : Res Unit) : completes (Res.run r) := by cases r <;> exact completes_next _

theorem completes_needExt (e : Ext) (h : completes k) : completes (needExt e s k) := by
  unfold needExt
  split
  · exact h
  · exact completes_next _

theorem completes_needFen (h : completes k) : completes (needFen s k) := by
  unfold needFen
  split
  · exact h
  · exact completes_next _

theorem completes_needPal (h : completes k) : completes (needPal s k) := by
  unfold needPal
  split
  · exact h
  · exact completes_next _

theorem completes_fpOperate (tr : Trap) (fc : Reg) (out : FpOut) : completes (fpOperate tr fc out s) := by
  unfold fpOperate
  dsimp only
  split <;> exact completes_next _

theorem completes_callPal (fn : BitVec 26) : completes (execCallPal fn s) := by
  unfold execCallPal
  split_ifs <;> exact completes_next _

theorem completes_hwMfpr (ra : Reg) (index : BitVec 16) : completes (execHwMfpr ra index s) :=
  completes_needPal (by split <;> exact completes_next _)

theorem completes_hwMtpr (ra : Reg) (index : BitVec 16) : completes (execHwMtpr ra index s) :=
  completes_needPal (by split <;> exact completes_next _)

end Completes

/-- Every instruction but WH64 and WH64EN answers a next state, by the template it runs. -/
theorem exec_completes {i : Instr} (hi : ∀ ra rb, i ≠ .wh64 ra rb ∧ i ≠ .wh64en ra rb) (s : State) : completes (exec i s) := by
  cases i with
  | wh64 ra rb => exact absurd rfl (hi ra rb).1
  | wh64en ra rb => exact absurd rfl (hi ra rb).2
  | callPal fn => exact completes_callPal fn
  | hwMfpr ra index => exact completes_hwMfpr ra index
  | hwMtpr ra index => exact completes_hwMtpr ra index
  | hwRei => exact completes_needPal (completes_next _)
  | hwLd | hwSt => exact completes_needPal (completes_run _)
  | ldqU | stqU | ldl | ldq | ldlL | ldqL | stl | stq | stlC | stqC => exact completes_run _
  | ldbu | ldwu | stw | stb => exact completes_needExt .bwx (completes_run _)
  | ldf | ldg | lds | ldt | stf | stg | sts | stt => exact completes_needFen (completes_run _)
  | sextb | sextw => exact completes_needExt .bwx (completes_next _)
  | ctpop | ctlz | cttz => exact completes_needExt .cix (completes_next _)
  | perr | unpkbw | unpkbl | pkwb | pklb | minsb8 | minsw4 | minub8 | minuw4 | maxub8 | maxuw4 | maxsb8 | maxsw4 =>
    exact completes_needExt .mvi (completes_next _)
  | ftoit | ftois | itofs | itoff | itoft => exact completes_needExt .fix (completes_needFen (completes_next _))
  | sqrtf | sqrtg | sqrts | sqrtt => exact completes_needExt .fix (completes_needFen (completes_fpOperate _ _ _))
  | adds | subs | muls | divs | addt | subt | mult | divt | cmptun | cmpteq | cmptlt | cmptle | cvtts | cvttq | cvtqs | cvtqt
  | cvtst | addf | subf | mulf | divf | cvtdg | addg | subg | mulg | divg | cmpgeq | cmpglt | cmpgle | cvtgf | cvtgd | cvtgq
  | cvtqf | cvtqg | cvtql =>
    exact completes_needFen (completes_fpOperate _ _ _)
  | cvtlq | cpys | cpysn | cpyse | mtFpcr | mfFpcr | fcmoveq | fcmovne | fcmovlt | fcmovge | fcmovle | fcmovgt
  | fbeq | fblt | fble | fbne | fbge | fbgt =>
    exact completes_needFen (completes_next _)
  | _ => exact completes_next _

/-- Settles O50: the two words decode as they are encoded, and every other instruction completes. -/
theorem onlyWh64Stops : Obligations.OnlyWh64Stops :=
  ⟨fun _ ra rb => ⟨rfl, rfl, Encoding.decodeOfEncode (.wh64 ra rb) rfl, Encoding.decodeOfEncode (.wh64en ra rb) rfl⟩,
    fun _ s hi => exec_completes hi s⟩

end Sys2Proof.Machine

/-! PROOFS. The CPUs of the machine through a step: none is lost or doubled (60_exceptions.md R859), and one that is halted keeps
its registers (60_exceptions.md R851, R860). -/

namespace Sys2Proof.Machine

/-- What of a CPU no other CPU and no internal action changes: its registers and flags, without its memory system, its interrupt
requests, its TLB inbox and a halt request. -/
def Cpu.own (c : Cpu) : Cpu := { Cpu.core c with irq := [], tbiIn := [], haltReq := false }

theorem Cpu.own_core (c : Cpu) : (Cpu.core c).own = c.own := rfl

theorem Cpu.own_eq_of_core {c d : Cpu} (h : Cpu.core c = Cpu.core d) : c.own = d.own := by
  rw [← Cpu.own_core c, h, Cpu.own_core]

/-- The current CPU keeps its number, and every other CPU what is its own. -/
structure SameCpus (s t : State) : Prop where
  whami : t.cpu.whami = s.cpu.whami
  peers : t.peers.map Cpu.own = s.peers.map Cpu.own

namespace SameCpus

variable {s t u : State}

theorem trans (a : SameCpus s t) (b : SameCpus t u) : SameCpus s u := ⟨b.whami.trans a.whami, b.peers.trans a.peers⟩

theorem of_eq (hw : t.cpu.whami = s.cpu.whami) (hp : t.peers = s.peers) : SameCpus s t := ⟨hw, congrArg _ hp⟩

/-- A change of every other CPU that leaves its own alone. -/
theorem of_map {f : Cpu → Cpu} (hw : t.cpu.whami = s.cpu.whami) (hp : t.peers = s.peers.map f)
    (hf : ∀ c, (f c).own = c.own) : SameCpus s t where
  whami := hw
  peers := by
    rw [hp, List.map_map]
    exact List.map_congr_left fun c _ => hf c

/-- The current CPU keeps its number, and the others all but their memory systems. -/
theorem of_core (hw : t.cpu.whami = s.cpu.whami) (hp : t.peers.map Cpu.core = s.peers.map Cpu.core) : SameCpus s t where
  whami := hw
  peers := by
    have hown : Cpu.own = Cpu.own ∘ Cpu.core := funext fun c => (Cpu.own_core c).symm
    rw [hown, ← List.map_map, hp, List.map_map]

theorem of_kept (h : Kept s t) : SameCpus s t := of_core h.whami h.peers

/-! Exceptions and interrupts. -/

/-- A PAL entry after a change of the current CPU's registers. -/
theorem enterPal (hw : u.cpu.whami = s.cpu.whami) (hp : u.peers = s.peers) (a b : Word) :
    SameCpus s (State.enterPal u a b) :=
  (of_eq hw hp).trans
    (of_core (congrArg (fun c => c.whami) (core_enterPal u a b)) (peers_enterPal u a b))

theorem deliverArith (s : State) : SameCpus s (State.deliverArith s) := by
  unfold State.deliverArith
  apply enterPal <;> rfl

theorem takeInterrupt (s : State) (q : Irq) : SameCpus s (State.takeInterrupt s q) := by
  unfold State.takeInterrupt
  apply enterPal <;> rfl

theorem of_took (h : Took s t) : SameCpus s t := by
  cases h with
  | arith => exact deliverArith s
  | halt => exact of_eq rfl rfl
  | mchk | fault | enter => apply enterPal <;> rfl

theorem take (s : State) (e : Exc) : SameCpus s (State.take s e) := of_took (take_took s e)

/-! Processor registers. -/

/-- An IPI reaches only the interrupt requests of a CPU (60_exceptions.md R838). -/
theorem sendIpi (s : State) (n : BitVec 16) : SameCpus s (State.sendIpi s n) := by
  refine of_map ?_ rfl fun c => ?_
  · simp only [State.sendIpi, State.mapCpus]
    split <;> rfl
  · split <;> rfl

/-- An invalidation reaches only the inbox of another CPU (20_memory.md R226). -/
theorem broadcastTbi (s : State) (cmd : TbiCmd) : SameCpus s (State.broadcastTbi s cmd) := by
  obtain ⟨b, d, h⟩ := tbi_eq s.cpu cmd
  exact of_map (congrArg Cpu.whami h :) rfl fun _ => rfl

theorem writeIpr (s : State) (r : Ipr) (v : Word) : SameCpus s (State.writeIpr s r v) := by
  cases r with
  | ipir => exact sendIpi s _
  | tbia | tbiap | tbis | tbisi | tbisd | tbiar => exact broadcastTbi s _
  | palBase =>
    simp only [State.writeIpr]
    split <;> exact of_eq rfl rfl
  | _ => exact of_eq rfl rfl

/-! Instructions and steps. -/

theorem of_did {i : Instr} (h : Did i s t) : SameCpus s t := by
  cases h with
  | exc hq e => exact (of_kept hq.kept).trans (take _ e)
  | arith => exact deliverArith s
  | call => exact enterPal rfl rfl _ _
  | plain hk | intReg hk | fpReg hk => exact (of_kept hk).trans (of_eq rfl rfl)
  | mtpr _ _ _ _ r =>
    exact (of_kept (kept_drainAll s)).trans ((writeIpr (State.drainAll s) r _).trans (of_eq rfl rfl))
  | overflow | fpOp | fpTrap | branch | link | jump | mtFpcr | flag | rei => exact of_eq rfl rfl

theorem tick (s : State) : SameCpus s (State.tick s) := of_eq rfl rfl

theorem of_prepared (h : Prepared s u) : SameCpus s u := by
  obtain ⟨-, _, _, _, _, rfl⟩ := h
  exact of_eq rfl rfl

theorem of_bound (h : Bound s t) : SameCpus s t := by
  cases h with
  | halted | halt | sleep => exact of_eq rfl rfl
  | arith hu => exact (of_prepared hu).trans ((deliverArith _).trans (tick _))
  | interrupt hu q => exact (of_prepared hu).trans ((takeInterrupt _ q).trans (tick _))
  | exc hu hw e => exact (of_prepared hu).trans ((of_kept hw.kept).trans ((take _ e).trans (tick _)))
  | run hu hw i hv => exact (of_prepared hu).trans ((of_kept hw.kept).trans ((of_did (exec_did hv)).trans (tick _)))

theorem of_acted (h : Acted s t) : SameCpus s t := by
  cases h with
  | boundary hb => exact of_bound hb
  | drain k pa bs =>
    exact trans (t := { s with cpu := { s.cpu with sb := SbEntry.dropMarkers (s.cpu.sb.eraseIdx k) } })
      (of_eq rfl rfl) (of_kept (kept_completeStore _ pa bs))
  | consume => exact of_eq rfl rfl

/-- The numbers of the CPUs stand as they stood. -/
theorem numbers (h : SameCpus s t) :
    (State.cpus t).map (fun c => c.whami) = (State.cpus s).map (fun c => c.whami) := by
  have hpeers := congrArg (List.map Cpu.whami) h.peers
  rw [List.map_map, List.map_map] at hpeers
  exact congrArg₂ List.cons h.whami hpeers

end SameCpus

/-! The scheduler (70_reset_and_hazards.md R930). -/

theorem insertCpu_perm (c : Cpu) (l : List Cpu) : (insertCpu c l).Perm (c :: l) := by
  induction l with
  | nil => exact .refl _
  | cons d ds ih =>
    rw [insertCpu]
    split
    · exact .refl _
    · exact (ih.cons d).trans (.swap c d ds)

/-- Among CPUs of distinct numbers, the one of number `n` and those of the other numbers are all. -/
theorem perm_cons_filter_whami {l : List Cpu} {n : BitVec 16} {c : Cpu} (hl : (l.map fun d => d.whami).Nodup)
    (hc : l.find? (fun d => d.whami == n) = some c) : l.Perm (c :: l.filter fun d => d.whami != n) := by
  have hmem : c ∈ l := List.mem_of_find?_eq_some hc
  have hnum : c.whami = n := by simpa using List.find?_some hc
  have hothers : l.erase c = l.filter fun d => d.whami != n := by
    rw [hl.of_map.erase_eq_filter]
    refine List.filter_congr fun d hd => ?_
    have hiff : d = c ↔ d.whami = n :=
      ⟨fun h => h ▸ hnum, fun h => List.inj_on_of_nodup_map hl hd hmem (h.trans hnum.symm)⟩
    rw [bne, bne, Bool.not_inj_iff, Bool.eq_iff_iff, beq_iff_eq, beq_iff_eq, hiff]
  rw [← hothers]
  exact List.perm_cons_erase hmem

/-- The scheduler moves CPUs: it loses none and doubles none. -/
theorem cpus_focus_perm {s : State} (h : ((State.cpus s).map fun c => c.whami).Nodup) (n : BitVec 16) :
    (State.cpus (State.focus s n)).Perm (State.cpus s) := by
  unfold State.focus
  split
  · exact .refl _
  · split
    · exact .refl _
    · rename_i c hfind
      have hpeers := perm_cons_filter_whami (List.nodup_cons.1 h).2 hfind
      have hlast : (s.cpu :: c :: s.peers.filter fun d => d.whami != n).Perm (State.cpus s) := hpeers.symm.cons s.cpu
      exact ((insertCpu_perm s.cpu _).cons c).trans ((List.Perm.swap s.cpu c _).trans hlast)

/-- A step is an action, after the CPUs have been put in another order. -/
theorem acted_of_step {s t : State} (h : ((State.cpus s).map fun c => c.whami).Nodup) (hs : step s = .next t) :
    ∃ s', (State.cpus s').Perm (State.cpus s) ∧ Acted s' t := by
  obtain ⟨s', rfl | ⟨n, rfl⟩, ha⟩ := step_cases hs
  · exact ⟨s', .refl _, ha⟩
  · exact ⟨_, cpus_focus_perm (s := State.bump s) h n, ha⟩

/-- Settles O8: the scheduler permutes the CPUs (`cpus_focus_perm`), and an action keeps every number in its place. -/
theorem stepKeepsCpuNumbers : Obligations.StepKeepsCpuNumbers := by
  intro s t hnodup hs
  obtain ⟨s', hperm, ha⟩ := acted_of_step hnodup hs
  rw [(SameCpus.of_acted ha).numbers]
  exact hperm.map _

/-! A halted CPU. -/

/-- A halted CPU that acts keeps what is its own: its boundary step does nothing (60_exceptions.md R860), and its stores and its
inbox are no part of it. -/
theorem own_of_acted {s t : State} (hh : s.cpu.halted = true) (ha : Acted s t) : t.cpu.own = s.cpu.own := by
  cases ha with
  | boundary hb =>
    cases hb with
    | halted => rfl
    | halt hawake | sleep hawake => exact nomatch hh.symm.trans hawake
    | arith hu | interrupt hu | exc hu | run hu => exact nomatch hh.symm.trans hu.1
  | drain k pa bs => exact Cpu.own_eq_of_core (kept_completeStore _ pa bs).cpu
  | consume => rfl

/-- Every halted CPU is still there after an action, with what is its own. -/
theorem exists_own_of_acted {s t : State} (ha : Acted s t) {c : Cpu} (hc : c ∈ State.cpus s) (hh : c.halted = true) :
    ∃ d ∈ State.cpus t, d.own = c.own := by
  obtain rfl | hpeer := List.mem_cons.1 hc
  · exact ⟨t.cpu, List.mem_cons_self, own_of_acted hh ha⟩
  · have hmem : c.own ∈ t.peers.map Cpu.own := (SameCpus.of_acted ha).peers ▸ List.mem_map_of_mem hpeer
    obtain ⟨d, hd, hown⟩ := List.mem_map.1 hmem
    exact ⟨d, List.mem_cons_of_mem _ hd, hown⟩

/-- Settles O9: the scheduler loses no CPU, and no action changes what is a halted CPU's own. -/
theorem haltedCpuStaysHalted : Obligations.HaltedCpuStaysHalted := by
  intro s t hnodup hs c hc hh
  obtain ⟨s', hperm, ha⟩ := acted_of_step hnodup hs
  obtain ⟨d, hd, hown⟩ := exists_own_of_acted ha (hperm.mem_iff.2 hc) hh
  exact ⟨d, hd, (congrArg Cpu.whami hown :), (congrArg Cpu.halted hown :).trans hh, (congrArg Cpu.pc hown :),
    (congrArg Cpu.regs hown :), (congrArg Cpu.fregs hown :), (congrArg Cpu.ps hown :), (congrArg Cpu.fpcr hown :),
    (congrArg Cpu.cc hown :)⟩

end Sys2Proof.Machine

/-! PROOFS. Exceptions are precise (60_exceptions.md R826), and the entry of each class (60_exceptions.md R800 to R840,
44_misc_pal.md R723, 10_state.md R69). -/

namespace Sys2Proof.Machine

/-! Precise exceptions. -/

section Precise

variable {s t u : State}

/-- An entry after quiet changes of the memory system. -/
theorem Entered.of_quiet (hq : Quiet s u) (h : Entered u t) : Entered s t where
  regs := h.regs.trans hq.kept.regs
  fregs := h.fregs.trans hq.kept.fregs
  fpcr := h.fpcr.trans hq.kept.fpcr
  intrFlag := h.intrFlag.trans hq.kept.intrFlag
  peers := h.peers.trans hq.kept.peers
  cfg := h.cfg.trans hq.kept.cfg
  rom := h.rom.trans hq.kept.rom
  regions := h.regions.trans hq.kept.regions
  mem hm := h.mem (hq.kept.mem hm)
  bytes hm a := (h.bytes (hq.kept.mem hm) a).trans (hq.bytes hm a)

/-- Outside PAL mode an instruction leaves PS alone, or it does no more than an entry does. -/
theorem entered_or_ps_of_did {i : Instr} (hpal : State.inPal s = false) (h : Did i s t) :
    Entered s t ∨ t.cpu.ps = s.cpu.ps := by
  cases h with
  | exc hq e => exact .inl ((entered_take _ e).of_quiet hq)
  | arith => exact .inl (entered_deliverArith s)
  | call => exact .inl (entered_enterPal s _ _)
  | plain hk | intReg hk | fpReg hk => exact .inr hk.ps
  | overflow | fpOp | fpTrap | branch | link | jump | mtFpcr | flag => exact .inr rfl
  | mtpr _ _ _ hp | rei _ hp => exact nomatch hp.symm.trans hpal

/-- Settles O16: an instruction that sets PALM has changed PS, so it did no more than an entry does. -/
theorem entriesArePrecise : Obligations.EntriesArePrecise := by
  intro i s t hm h hout hin
  obtain hentered | hps := entered_or_ps_of_did hout (exec_did h)
  · exact ⟨hentered.regs, hentered.fregs, hentered.fpcr, hentered.intrFlag, hentered.bytes hm, hentered.peers⟩
  · exact nomatch hin.symm.trans ((inPal_of_ps hps).trans hout)

end Precise

/-! MM_STAT (10_state.md R69). -/

/-- The cause field of MM_STAT. -/
def MmCause.code (c : MmCause) : BitVec 6 :=
  match c with
  | .acv => 1
  | .for_ => 2
  | .fow => 4
  | .foe => 8
  | .tnv => 16
  | .align => 32

theorem MmCause.bit_eq (c : MmCause) : c.bit = c.code.setWidth 64 <<< 1 := by cases c <;> rfl

/-- Every bit of MM_STAT. -/
theorem getLsbD_mmStatOf (a : Access) (c : MmCause) {i : Nat} (hi : i < 64) : (mmStatOf a c).getLsbD i =
    if i = 0 then decide (a.kind = .write)
    else if i < 7 then c.code.getLsbD (i - 1)
    else if i = 7 then decide (a.kind = .fetch)
    else if i < 13 then a.ra.getLsbD (i - 8)
    else a.opcode.getLsbD (i - 13) := by
  have hcode (h : 7 ≤ i) : c.code.getLsbD (i - 1) = false := BitVec.getLsbD_of_ge _ _ (by omega)
  have hra (h : 13 ≤ i) : a.ra.getLsbD (i - 8) = false := BitVec.getLsbD_of_ge _ _ (by omega)
  simp only [mmStatOf, MmCause.bit_eq, ofBool, BitVec.getLsbD_or, BitVec.getLsbD_shiftLeft, BitVec.getLsbD_setWidth,
    BitVec.getLsbD_ofBool, hi]
  split_ifs with h0 h7 hf h13
  · simp [h0]
  · simp [h0, h7, show i < 8 by omega, show i < 13 by omega, show i - 1 < 64 by omega]
  · simp [hf]
  · simp [h0, h13, hcode (by omega), show ¬ i < 8 by omega, show i - 7 ≠ 0 by omega, show i - 8 < 64 by omega]
  · simp [h0, h13, hcode (by omega), hra (by omega), show i - 7 ≠ 0 by omega, show i - 13 < 64 by omega]

/-- A field is told by its bits. -/
theorem field_eq_of_bits {v : Word} {k n : Nat} {x : BitVec n} (h : ∀ i < n, v.getLsbD (k + i) = x.getLsbD i) :
    v.extractLsb' k n = x :=
  BitVec.eq_of_getLsbD_eq fun i hi => by rw [BitVec.getLsbD_extractLsb', h i hi, decide_eq_true hi, Bool.true_and]

/-- The fields of MM_STAT: WR [0], the cause [6:1], IFETCH [7], RA [12:8], the opcode [18:13] and no more. -/
theorem fields_mmStatOf (a : Access) (c : MmCause) :
    ((mmStatOf a c).getLsbD 0 = true ↔ a.kind = .write) ∧ ((mmStatOf a c).getLsbD 7 = true ↔ a.kind = .fetch)
      ∧ (mmStatOf a c).extractLsb' 1 6 = c.code ∧ (mmStatOf a c).extractLsb' 8 5 = a.ra
      ∧ (mmStatOf a c).extractLsb' 13 6 = a.opcode ∧ (mmStatOf a c).extractLsb' 19 45 = 0 := by
  refine ⟨?_, ?_, field_eq_of_bits fun i hi => ?_, field_eq_of_bits fun i hi => ?_, field_eq_of_bits fun i hi => ?_,
    field_eq_of_bits fun i hi => ?_⟩
  all_goals rw [getLsbD_mmStatOf a c (by omega)]
  · simp
  · simp
  · simp [show 1 + i < 7 by omega]
  · simp [show ¬ 8 + i < 7 by omega, show 8 + i ≠ 7 by omega, show 8 + i < 13 by omega]
  · simp [show ¬ 13 + i < 7 by omega, show 13 + i ≠ 7 by omega]
  · have hop : a.opcode.getLsbD (19 + i - 13) = false := BitVec.getLsbD_of_ge _ _ (by omega)
    simp [show ¬ 19 + i < 7 by omega, show 19 + i ≠ 7 by omega, show ¬ 19 + i < 13 by omega, hop]

/-! The entry of a class (60_exceptions.md R801, R830, 44_misc_pal.md R723). -/

/-- The entry offset in the scheme. -/
def schemeOffset (scheme : PalScheme) (linear ev6 : Word) : Word :=
  match scheme with
  | .linear => linear
  | .openEv6 => ev6

theorem palEntryExc_eq (scheme : PalScheme) (base : Word) (k : ExcClass) :
    palEntryExc scheme base k = base + schemeOffset scheme (64 * k.code.setWidth 64) k.ev6Offset := by
  cases scheme <;> rfl

/-- The state after an entry from `s` at `target`, the class having made the registers those of `c`. -/
structure EnteredWith (s t : State) (c : Cpu) (target : Word) : Prop where
  sb : t.cpu.sb = []
  lockFlag : t.cpu.lockFlag = false
  bytes : sameBytes s t
  kept : Kept { s with cpu := { c with
    excAddr := s.cpu.pc, excPs := s.cpu.ps, ps := s.cpu.ps ||| psPalm, pc := target } } t

/-- An entry after a change of the class's own registers. -/
theorem enteredWith_enterExc {s : State} (hm : State.memOk s = true) {c : Cpu} (hpc : c.pc = s.cpu.pc) (hps : c.ps = s.cpu.ps)
    (hbase : c.palBase = s.cpu.palBase) (hsb : c.sb = s.cpu.sb) (k : ExcClass) {linear ev6 : Word}
    (hlinear : 64 * k.code.setWidth 64 = linear) (hev6 : k.ev6Offset = ev6) :
    EnteredWith s (State.enterExc { s with cpu := c } k) c (s.cpu.palBase + schemeOffset s.cfg.palScheme linear ev6) := by
  subst hlinear hev6
  rw [← palEntryExc_eq]
  refine ⟨sb_enterPal _ _ _, lockFlag_enterPal _ _ _, fun a => ?_, ?_⟩
  · have hsame : sameBytes s { s with cpu := c } := sameBytes_of_eq rfl hsb
    exact (sameBytes_enterPal { s with cpu := c } _ _ hm a).trans (hsame a)
  · rw [← hpc, ← hps, ← hbase]
    exact kept_enterPal { s with cpu := c } _ _

section Take

variable {s : State}

theorem take_of_pend (hp : s.cpu.pend.valid = true) : State.take s .opcdec = State.deliverArith s
    ∧ State.take s .priv = State.deliverArith s ∧ State.take s .fen = State.deliverArith s
    ∧ ∀ a cause va, State.take s (.mmFault a cause va) = State.deliverArith s := by
  simp only [State.take, hp, if_true, implies_true, and_self]

theorem take_of_no_pend (hp : s.cpu.pend.valid = false) : State.take s .opcdec = State.enterExc s .opcdec
    ∧ State.take s .priv = State.enterExc s .priv ∧ State.take s .fen = State.enterExc s .fen := by
  simp only [State.take, hp, Bool.false_eq_true, if_false, and_self]

/-- The class of a memory fault (44_misc_pal.md R723). -/
def Kind.faultClass (k : Kind) : ExcClass := if k = .fetch then .mmFetch else .mmData

theorem take_mmFault_of_no_pend (hp : s.cpu.pend.valid = false) (a : Access) (cause : MmCause) (va : Word) :
    State.take s (.mmFault a cause va)
      = State.enterExc { s with cpu := { s.cpu with mmStat := mmStatOf a cause, va := va } } a.kind.faultClass := by
  obtain ⟨kind, ra, op⟩ := a
  cases kind <;> exact if_neg (Bool.eq_false_iff.1 hp)

theorem take_mchk_of_first (h : s.cpu.mces.getLsbD 0 = false) (cause : BitVec 8) : State.take s (.mchk cause)
    = State.enterExc { s with cpu := { s.cpu with mces := (cause.setWidth 64 <<< 8) ||| 1 } } .mchk :=
  if_neg (Bool.eq_false_iff.1 h)

theorem take_mchk_of_second (h : s.cpu.mces.getLsbD 0 = true) (cause : BitVec 8) :
    State.take s (.mchk cause) = { s with cpu := { s.cpu with halted := true } } := if_pos h

end Take

/-- Settles O57: which entry an exception takes, and what the entry of a class leaves (`enteredWith_enterExc`). -/
theorem exceptionEntry : Obligations.ExceptionEntry := by
  intro s hm at_ entered
  have hentered {t : State} {c : Cpu} {linear ev6 : Word}
      (h : EnteredWith s t c (s.cpu.palBase + schemeOffset s.cfg.palScheme linear ev6)) : entered t c (at_ linear ev6) :=
    ⟨h.sb, h.lockFlag, h.bytes, h.kept⟩
  refine ⟨fun hp => ?_, hentered (by apply enteredWith_enterExc hm <;> rfl), take_of_pend,
    fun cause => ⟨fun hfirst => ?_, fun hsecond => take_mchk_of_second hsecond cause⟩⟩
  · obtain ⟨hopcdec, hpriv, hfen⟩ := take_of_no_pend hp
    rw [hopcdec, hpriv, hfen]
    refine ⟨hentered (by apply enteredWith_enterExc hm <;> rfl),
      hentered (by apply enteredWith_enterExc hm <;> rfl),
      hentered (by apply enteredWith_enterExc hm <;> rfl), fun k ra op cause va => ?_⟩
    obtain ⟨hwrite, hfetch, hcause, hra, hop, hrest⟩ := fields_mmStatOf ⟨k, ra, op⟩ cause
    refine ⟨mmStatOf ⟨k, ra, op⟩ cause, ?_, hwrite, hfetch, hcause, hra, hop, hrest⟩
    rw [take_mmFault_of_no_pend hp]
    cases k <;> exact hentered (by apply enteredWith_enterExc hm <;> rfl)
  · rw [take_mchk_of_first hfirst]
    exact hentered (by apply enteredWith_enterExc hm <;> rfl)

end Sys2Proof.Machine

/-! PROOFS. A step runs the instruction that was fetched, and what a fetch reads (60_exceptions.md R855, 30_encoding.md R312,
20_memory.md R165, R178, R192, R240 to R245). -/

namespace Sys2Proof.Machine

/-! A step to which nothing is due. -/

theorem not_due_of_dueInterrupt {s : State} (h : (State.dueInterrupt s).isNone = true) : ¬ State.due s := fun hdue => by
  rw [Option.isNone_iff_eq_none] at h
  have hsome := dueInterrupt_isSome_iff.2 hdue
  rw [h] at hsome
  cases hsome

theorem step_of_runs {s : State} (halone : State.alone s = true) (hruns : State.runs s = true) :
    step s = tickAfter (fetchExecute s) := by
  simp only [State.runs, Bool.and_eq_true, Bool.not_eq_true', List.isEmpty_iff] at hruns
  obtain ⟨⟨⟨⟨⟨hreq, hhalted⟩, hsleep⟩, hinbox⟩, hpend⟩, hdue⟩ := hruns
  rw [step_alone halone, boundary_of_awake hhalted hreq (.inl hsleep), eq_of_awake hsleep, consumeTbi_of_empty hinbox,
    deliverOrRun_of_not_due hpend (not_due_of_dueInterrupt hdue)]

theorem fetchExecute_of_ok {s t : State} {w : IWord} (h : State.fetchWord s = .ok w t) :
    fetchExecute s = runWord w t := by rw [fetchExecute, h]

theorem fetchExecute_of_exc {s t : State} {e : Exc} (h : State.fetchWord s = .exc e t) :
    fetchExecute s = .next (State.take t e) := by rw [fetchExecute, h]

/-- A fetch leaves the CPU model alone. -/
theorem has_of_fetchWord {s t : State} {w : IWord} (h : State.fetchWord s = .ok w t) (e : Ext) :
    State.has t e = State.has s e := by
  have hquiet := quiet_fetchWord s
  rw [h] at hquiet
  have hcfg : t.cfg = s.cfg := hquiet.kept.cfg
  rw [State.has, State.has, hcfg]

/-! What a word comes to (30_encoding.md R312). -/

section Words

variable {w : IWord} {s : State}

theorem runWord_of_instr {i : Instr} (h : decode w = .instr i) : runWord w s = exec i s := by rw [runWord, h]

theorem runWord_of_reserved (h : decode w = .reserved) : runWord w s = .next (State.take s .opcdec) := by
  rw [runWord, h, raise]

theorem runWord_of_refused (h : decode w = .refused none) : runWord w s = .refused .shouldBeField := by rw [runWord, h]

/-- A word of an extension, with wrong should-be fields (log 36). -/
theorem runWord_of_refused_some {e : Ext} (h : decode w = .refused (some e)) :
    runWord w s = if State.has s e then .refused .shouldBeField else .next (State.take s .opcdec) := by
  rw [runWord, h]
  rfl

end Words

/-! Words as bytes (20_memory.md R150). -/

/-- Byte `k` of a word made of bytes. -/
theorem extractLsb'_ofBytes (bs : List Byte) {k : Nat} (hk : k < 4) :
    ((ofBytes bs).setWidth 32).extractLsb' (8 * k) 8 = (bs[k]?).getD 0 := by
  refine BitVec.eq_of_getLsbD_eq fun i hi => ?_
  rw [BitVec.getLsbD_extractLsb', BitVec.getLsbD_setWidth, getLsbD_ofBytes, show (8 * k + i) / 8 = k by omega,
    show (8 * k + i) % 8 = i by omega]
  simp [hi, show 8 * k + i < 32 by omega, show 8 * k + i < 64 by omega]

/-- The value of four bytes as an instruction word. -/
theorem setWidth_ofBytes (b0 b1 b2 b3 : Byte) : (ofBytes [b0, b1, b2, b3]).setWidth 32 = wordOfBytes b0 b1 b2 b3 := by
  refine BitVec.eq_of_getLsbD_eq fun i hi => ?_
  simp only [ofBytes, wordOfBytes, BitVec.getLsbD_append, BitVec.getLsbD_setWidth, BitVec.getLsbD_or,
    BitVec.getLsbD_shiftLeft]
  grind

theorem setWidth_getBytes (m : List Host.Cell) (pa : Nat) : (ofBytes (Memory.getBytes m pa 4)).setWidth 32
    = wordOfBytes (Memory.get m pa) (Memory.get m (pa + 1)) (Memory.get m (pa + 2)) (Memory.get m (pa + 3)) :=
  setWidth_ofBytes _ _ _ _

/-- A stale byte is memory's, or it is recorded (20_memory.md R192; log 25). -/
theorem staleByte_cases (hist : List (List Host.Cell)) (a : Nat) (b : Byte) :
    staleByte hist a b = b ∨ ∃ cells ∈ hist, (a, staleByte hist a b) ∈ cells := by
  induction hist generalizing b with
  | nil => exact .inl rfl
  | cons ev hist ih =>
    rw [staleByte]
    obtain hsame | ⟨cells, hmem, hcell⟩ := ih ((ev.lookup a).getD b)
    · rw [hsame]
      cases hlookup : ev.lookup a with
      | none => exact .inl rfl
      | some x =>
        obtain ⟨l, r, hev, -⟩ := List.lookup_eq_some_iff.1 hlookup
        exact .inr ⟨ev, List.mem_cons_self, hev ▸ List.mem_append_right l List.mem_cons_self⟩
    · exact .inr ⟨cells, List.mem_cons_of_mem ev hmem, hcell⟩

/-- The bytes a fetch reads from RAM, one by one. -/
theorem getElem?_fetchBytes (s : State) (pa : Nat) {n k : Nat} (hk : k < n) : ∃ hist, hist ⊆ s.cpu.icHist
    ∧ (State.fetchBytes s pa n)[k]? = some (staleByte hist (pa + k) (Memory.get s.mem (pa + k))) := by
  unfold State.fetchBytes
  dsimp only
  split
  · exact ⟨[], List.nil_subset _, by simp [hk]⟩
  · exact ⟨s.cpu.icHist.take (Config.staleDepth s.draws), List.take_subset _ _, by simp [hk]⟩

/-- With a coherent I-cache a fetch from RAM reads memory (20_memory.md R190). -/
theorem fetchBytes_of_coherent {s : State} (h : s.cfg.icacheCoherent = true) (pa n : Nat) :
    State.fetchBytes s pa n = Memory.getBytes s.mem pa n := by
  rw [State.fetchBytes, if_pos h]
  rfl

/-! The read of a fetch, target by target (20_memory.md R240). -/

/-- The state in which a fetch reads RAM: without I-cache coherence a past time has been drawn (20_memory.md R192; log 25). -/
def State.fetchFrom (s : State) : State := if s.cfg.icacheCoherent then s else { s with draws := s.draws + 1 }

theorem noCaches_fetchFrom (s : State) : State.noCaches (State.fetchFrom s) = State.noCaches s := by
  unfold State.fetchFrom
  split <;> rfl

section Fetch

variable {s : State} {pa : Nat}

theorem physFetch_of_tooHigh (h : State.route s pa = .tooHigh) : State.physFetch s pa = .exc (.mchk 2) s := by
  rw [State.physFetch, h]

theorem physFetch_of_mmio {r : MmioRegion} (h : State.route s pa = .mmio r) :
    State.physFetch s pa = State.mmioCall s r pa 4 none := by
  rw [State.physFetch, h]

theorem physFetch_of_rom (h : State.route s pa = .rom) :
    State.physFetch s pa = .ok (ofBytes (Memory.getBytes s.rom pa 4)) s := by
  rw [State.physFetch, h]

theorem physFetch_of_unmapped (h : State.route s pa = .unmapped) : State.physFetch s pa =
    if s.cfg.mmioStrict then .exc (.mchk 1) s else .ok (BitVec.ofNat 64 (2 ^ (8 * 4) - 1)) s := by
  rw [State.physFetch, h, ← lowBytes_allOnes]
  rfl

theorem physFetch_of_ram (h : State.route s pa = .ram) : State.physFetch s pa =
    State.backend (State.cacheRead .inst (State.fetchFrom s) pa 4) (ofBytes (State.fetchBytes s pa 4)) := by
  rw [State.physFetch, h]
  rfl

theorem backend_cacheRead_of_error {k : L1} {n : Nat} (v : Word) (h : State.ramErrs k s pa n = true) :
    State.backend (State.cacheRead k s pa n) v = .exc (.mchk 3) (State.ramErred k s pa n) := by
  rw [State.ramErrs, Bool.and_eq_true] at h
  obtain ⟨herrs, herr⟩ := h
  rw [State.backend, cfg_cacheRead, if_pos herrs, if_pos herr]
  rfl

theorem backend_cacheRead_of_answer {k : L1} {n : Nat} (v : Word) (h : State.ramErrs k s pa n = false) :
    ∃ t, State.backend (State.cacheRead k s pa n) v = .ok v t ∧ State.noCaches t = State.noCaches s := by
  rw [State.ramErrs] at h
  rw [State.backend, cfg_cacheRead]
  cases herrs : s.cfg.backendErrs with
  | false => exact ⟨_, rfl, noCaches_cacheRead k s pa n⟩
  | true =>
    rw [herrs, Bool.true_and] at h
    exact ⟨State.bump (State.cacheRead k s pa n), by rw [h]; rfl, noCaches_cacheRead k s pa n⟩

end Fetch

/-! The fetch of a translated pc (20_memory.md R165). -/

section FetchWord

variable {s u : State} {a : Word}

theorem fetchWord_of_aligned (hal : s.cpu.pc.toNat % 4 = 0) : State.fetchWord s =
    Res.bind (State.translate s Access.fetch s.cpu.pc) fun pa s =>
      Res.bind (State.physFetch s pa.toNat) fun w s => .ok (w.setWidth 32) s := by
  rw [State.fetchWord, aligned_iff.2 hal]
  rfl

theorem fetchWord_of_translate_exc (hal : s.cpu.pc.toNat % 4 = 0) {e : Exc}
    (h : State.translate s Access.fetch s.cpu.pc = .exc e u) : State.fetchWord s = .exc e u := by
  rw [fetchWord_of_aligned hal, h]
  rfl

section Translated

variable (hal : s.cpu.pc.toNat % 4 = 0) (ht : State.translate s Access.fetch s.cpu.pc = .ok a u)
include hal ht

theorem fetchWord_of_physFetch_exc {e : Exc} {w : State} (h : State.physFetch u a.toNat = .exc e w) :
    State.fetchWord s = .exc e w := by
  rw [fetchWord_of_aligned hal, ht, Res.bind, h]
  rfl

theorem fetchWord_of_physFetch_ok {v : Word} {w : State} (h : State.physFetch u a.toNat = .ok v w) :
    State.fetchWord s = .ok (v.setWidth 32) w := by
  rw [fetchWord_of_aligned hal, ht, Res.bind, h]
  rfl

theorem fetchWord_of_unmapped (hroute : State.route u a.toNat = .unmapped) :
    State.fetchWord s = if u.cfg.mmioStrict then .exc (.mchk 1) u else .ok 0xFFFFFFFF u := by
  have hread := physFetch_of_unmapped hroute
  split
  next hstrict => exact fetchWord_of_physFetch_exc hal ht (hread.trans (if_pos hstrict))
  next hlax => exact fetchWord_of_physFetch_ok hal ht (hread.trans (if_neg hlax))

/-- The word a fetch from RAM answers: memory's bytes, or recorded ones (20_memory.md R178, R192; log 25). -/
theorem fetchWord_of_ram (hroute : State.route u a.toNat = .ram)
    (herr : State.ramErrs .inst (State.fetchFrom u) a.toNat 4 = false) :
    ∃ w t, State.fetchWord s = .ok w t ∧ State.noCaches t = State.noCaches u
      ∧ (u.cfg.icacheCoherent = true → w = wordOfBytes (Memory.get u.mem a.toNat) (Memory.get u.mem (a.toNat + 1))
          (Memory.get u.mem (a.toNat + 2)) (Memory.get u.mem (a.toNat + 3)))
      ∧ ∀ k < 4, w.extractLsb' (8 * k) 8 = Memory.get u.mem (a.toNat + k)
          ∨ ∃ cells ∈ u.cpu.icHist, (a.toNat + k, w.extractLsb' (8 * k) 8) ∈ cells := by
  obtain ⟨t, hbackend, hcaches⟩ := backend_cacheRead_of_answer (ofBytes (State.fetchBytes u a.toNat 4)) herr
  refine ⟨_, t, fetchWord_of_physFetch_ok hal ht ((physFetch_of_ram hroute).trans hbackend),
    hcaches.trans (noCaches_fetchFrom u), fun hcoherent => ?_, fun k hk => ?_⟩
  · rw [fetchBytes_of_coherent hcoherent, setWidth_getBytes]
  · obtain ⟨hist, hsub, hbyte⟩ := getElem?_fetchBytes u a.toNat hk
    rw [extractLsb'_ofBytes _ hk, hbyte, Option.getD_some]
    exact (staleByte_cases hist _ _).imp_right fun ⟨cells, hmem, hcell⟩ => ⟨cells, hsub hmem, hcell⟩

end Translated

/-- In PAL mode, with a coherent I-cache and a back-end that does not err, a fetch from RAM reads memory at the pc. -/
theorem fetchWord_of_pal (hpal : State.inPal s = true) (hcoherent : s.cfg.icacheCoherent = true)
    (hback : s.cfg.backendErrs = false) (hal : s.cpu.pc.toNat % 4 = 0) (hroute : State.route s s.cpu.pc.toNat = .ram) :
    ∃ t, State.fetchWord s = .ok (wordOfBytes (Memory.get s.mem s.cpu.pc.toNat) (Memory.get s.mem (s.cpu.pc.toNat + 1))
        (Memory.get s.mem (s.cpu.pc.toNat + 2)) (Memory.get s.mem (s.cpu.pc.toNat + 3))) t
      ∧ State.noCaches t = State.noCaches s := by
  have hout : State.translates s = false := by rw [State.translates, hpal]; rfl
  have hfrom : State.fetchFrom s = s := if_pos hcoherent
  have herr : State.ramErrs .inst (State.fetchFrom s) s.cpu.pc.toNat 4 = false := by
    rw [hfrom, State.ramErrs, hback, Bool.false_and]
  obtain ⟨w, t, hfetch, hcaches, hword, -⟩ := fetchWord_of_ram hal (translate_untranslated hout _ _) hroute herr
  exact ⟨t, hword hcoherent ▸ hfetch, hcaches⟩

end FetchWord

/-- Settles O10: a step with nothing due is `fetchExecute`; each kind of word has its lemma, and so has each target of the
fetch. -/
theorem stepRunsDecodedInstruction : Obligations.StepRunsDecodedInstruction := by
  refine ⟨fun s s' w i halone hruns hfetch hdecode => ?_, fun s s' halone hruns => ⟨fun e hfetch => ?_, fun w hfetch => ?_⟩,
    fun s hpal hcoherent hback hal hroute => fetchWord_of_pal hpal hcoherent hback hal hroute,
    fun s hal => ⟨fun e w ht => fetchWord_of_translate_exc hal ht, fun a u ht => ?_⟩⟩
  · rw [step_of_runs halone hruns, fetchExecute_of_ok hfetch, runWord_of_instr hdecode]
  · rw [step_of_runs halone hruns, fetchExecute_of_exc hfetch]
    rfl
  · rw [step_of_runs halone hruns, fetchExecute_of_ok hfetch]
    refine ⟨fun hreserved => ?_, fun hrefused => ?_, fun e hrefused => ⟨fun hhas => ?_, fun hhas => ?_⟩⟩
    · rw [runWord_of_reserved hreserved]
      rfl
    · rw [runWord_of_refused hrefused]
      rfl
    · rw [runWord_of_refused_some hrefused, has_of_fetchWord hfetch, if_pos hhas]
      rfl
    · rw [runWord_of_refused_some hrefused, has_of_fetchWord hfetch, if_neg (Bool.eq_false_iff.1 hhas)]
      rfl
  · intro pa four recorded from_
    refine ⟨fun hhigh => fetchWord_of_physFetch_exc hal ht (physFetch_of_tooHigh (route_of_le hhigh)),
      fun r hr => ⟨fun herr => ?_, fun hanswer => ?_⟩, fun hrom => ?_, fetchWord_of_unmapped hal ht,
      fun hram => ⟨fun herr => ?_, fetchWord_of_ram hal ht hram⟩⟩
    · exact fetchWord_of_physFetch_exc hal ht ((physFetch_of_mmio hr).trans (mmioCall_of_error herr))
    · have hread := fetchWord_of_physFetch_ok hal ht ((physFetch_of_mmio hr).trans (mmioCall_of_answer hanswer))
      rwa [BitVec.setWidth_setWidth_of_le _ (by decide), BitVec.setWidth_eq] at hread
    · rw [fetchWord_of_physFetch_ok hal ht (physFetch_of_rom hrom), setWidth_getBytes]
    · exact fetchWord_of_physFetch_exc hal ht ((physFetch_of_ram hram).trans (backend_cacheRead_of_error _ herr))

end Sys2Proof.Machine

/-! PROOFS. The reset state meets the invariants that every step keeps (70_reset_and_hazards.md R900). -/

namespace Sys2Proof.Machine

/-- The bits of PAL_BASE that are stored are those from bit 15 up (10_state.md R68). -/
theorem maskedBy_palBaseMask {v : Word} (h : v.extractLsb' 0 15 = 0) : maskedBy palBaseMask v = true := by
  refine maskedBy_iff.2 fun k hv => ?_
  have hlt : k < 64 := BitVec.lt_of_getLsbD hv
  have hge : ¬ k < 15 := fun hlow => by
    have hbit : (v.extractLsb' 0 15).getLsbD k = true := by simpa [hlow] using hv
    simp [h] at hbit
  have hmask : palBaseMask = BitVec.allOnes 64 <<< 15 := by decide
  simp only [hmask, BitVec.getLsbD_shiftLeft, BitVec.getLsbD_allOnes, Bool.and_eq_true, Bool.not_eq_true', decide_eq_true_eq,
    decide_eq_false_iff_not]
  omega

/-- A consistent PAL_BASE_RESET has no bit below bit 15 (00_scope.md R7). -/
theorem Params.palBaseReset_of_wf {p : Params} {n : Nat} (h : Params.wf p n = true) : p.palBaseReset.extractLsb' 0 15 = 0 := by
  simp only [Params.wf, Bool.and_eq_true, decide_eq_true_eq] at h
  tauto

/-- A CPU is in form after reset when PAL_BASE_RESET is: PS is 0x1F20, and the other registers with reserved bits are 0. -/
theorem Cpu.inForm_reset {p : Params} (h : maskedBy palBaseMask p.palBaseReset = true) (number : BitVec 16) :
    (Cpu.reset p number).InForm where
  ps := show maskedBy psMask Cpu.resetPs = true by decide
  excPs := maskedBy_zero _
  fpcr := maskedBy_zero _
  palBase := h
  ptbr := maskedBy_zero _
  itbAsn := maskedBy_zero _
  dtbAsn := maskedBy_zero _
  mmuCtl := maskedBy_zero _
  mces := maskedBy_zero _
  intid := maskedBy_zero _
  excSum := maskedBy_zero _
  pendSum := maskedBy_zero _
  mmStat := maskedBy_zero _
  irq := rfl

theorem State.inForm_resetWith {p : Params} (h : maskedBy palBaseMask p.palBaseReset = true) (n : Nat)
    (image rom : List Host.Cell) (rs : List MmioRegion) : (State.resetWith p n image rom rs).InForm where
  cpu := Cpu.inForm_reset h 0
  peers c hc := by
    obtain ⟨i, -, rfl⟩ := List.mem_map.1 hc
    exact Cpu.inForm_reset h _

/-- At most 65536 CPUs have distinct 16-bit numbers. -/
theorem nodup_whami_cpus_resetWith {p : Params} {n : Nat} (hpos : 0 < n) (hmax : n ≤ 65536) (image rom : List Host.Cell)
    (rs : List MmioRegion) : ((State.cpus (State.resetWith p n image rom rs)).map fun c => c.whami).Nodup := by
  refine List.Nodup.of_map BitVec.toNat ?_
  rw [List.map_map]
  exact whami_cpus_resetWith (p := p) hpos hmax image rom rs ▸ List.nodup_range

/-- Settles O5: memory is the image, every CPU is in form, and the numbers are those below `n`. -/
theorem resetMeetsInvariants : Obligations.ResetMeetsInvariants := by
  intro p n image rom rs hwf hmax himage
  obtain ⟨hzero, hirq⟩ := State.inForm_iff.1
    (State.inForm_resetWith (maskedBy_palBaseMask (Params.palBaseReset_of_wf hwf)) n image rom rs)
  exact ⟨himage, hzero, hirq, nodup_whami_cpus_resetWith (Params.pos_of_wf hwf) hmax image rom rs⟩

end Sys2Proof.Machine
